-- ==== Sys2Proof/Word.lean ====
section
/-! DEFINITION. The plain words of the part: bytes of a frame, 16-bit fields, the 32-bit tick, and the two
accessors of the part's fixed tables (72 seats, 48 stroke entries, 16 calibration sets, ...). -/

namespace Sys2Proof

/-- A byte of a frame (R175). -/
abbrev Byte := BitVec 8

/-- A 16-bit field: an address, a sequence number, a check code. -/
abbrev Half := BitVec 16

/-- A value of the tick count, which wraps at 2^32 (R33). -/
abbrev Tick := BitVec 32

/-- The entry of a fixed table at an index. -/
def look {α : Type} {n : Nat} (v : Vector α n) (i : Fin n) : α := v.get i

/-- A fixed table with one entry replaced. -/
def put {α : Type} {n : Nat} (v : Vector α n) (i : Fin n) (a : α) : Vector α n := v.set i.val a

/-- A fixed table whose every entry is one value. -/
def fill {α : Type} (n : Nat) (a : α) : Vector α n := Vector.replicate n a

/-- All indexes of a fixed table, ascending. -/
def indexes (n : Nat) : List (Fin n) := List.finRange n

end Sys2Proof
end

