-- ==== Sys2Proof/Machine/Types.lean ====
section
/-! DEFINITION. The names the manual writes in capitals, and the small sets over them. The order of the
constructors is the order in which the owning rule lists the values, which is also their code (R177). -/

namespace Sys2Proof

/-- The pen tools (R2, R175). -/
inductive Tool where
  | pen | marker | eraser | finger
  deriving DecidableEq, Repr

/-- The roles of an identity entry (R14). -/
inductive Role where
  | student | teacher | guest
  deriving DecidableEq, Repr

/-- The three destinations of ink records (R133). -/
inductive Dest where
  | display | fanout | record
  deriving DecidableEq, Repr

/-- Which copy of the staged tables a read names (R17, R30). -/
inductive Copy where
  | active | staged
  deriving DecidableEq, Repr

/-- The actions of an admission rule (R19, R31). -/
inductive Action where
  | admitted | redirect | deliverPrivately | deny
  deriving DecidableEq, Repr

/-- The default action of a rule page: ADMIT or DENY only (R18, R31). -/
inductive DefaultAction where
  | admitted | deny
  deriving DecidableEq, Repr

/-- The reasons of a refused touch-down, which are the lockout values (R28). -/
inductive Lockout where
  | denied | notAllowed | layerNotOpen | tableFull
  deriving DecidableEq, Repr

/-- The frame monitor's states (R35). -/
inductive MonitorState where
  | noMarks | locked | lost
  deriving DecidableEq, Repr

/-- The states of a layer (R114). -/
inductive LayerState where
  | closed | opened | frozen | draining
  deriving DecidableEq, Repr

/-- The order of a POINTS record's points on the room link (R88). -/
inductive PointOrder where
  | sequential | interleaved
  deriving DecidableEq, Repr

/-- The event of a LAYER record (R128). -/
inductive LayerEvent where
  | opened | cleared
  deriving DecidableEq, Repr

/-- The reasons for which a stroke ends (R100). -/
inductive EndReason where
  | lifted | abandoned | revoked | cancelled | cleared
  deriving DecidableEq, Repr

/-- The overflow policies of an ink queue (R134). -/
inductive Policy where
  | stop | dropOldest
  deriving DecidableEq, Repr

/-- The room egress priority modes (R149). -/
inductive Priority where
  | replyFirst | oldestFirst
  deriving DecidableEq, Repr

/-- The status of a reply (R169). -/
inductive Status where
  | ok | busy | pending | state | range | conflict | room | notReady | unknown | malformed
  deriving DecidableEq, Repr

/-- The ports named by the first-error log (R182). -/
inductive Port where
  | board | room | display | record
  deriving DecidableEq, Repr

/-- The thirteen error kinds, numbered 0 to 12 (R180). -/
inductive ErrorKind where
  | linkCheck | malformedFrame | unknownSource | misplacedManagement | sequenceGap | tableFull
  | overflowDisplay | overflowFanout | overflowRecord | creditOverrun | frameMarkLost | replyOverflow
  | storeFault
  deriving DecidableEq, Repr

/-- The severities of an error kind (R180). -/
inductive Severity where
  | alert | advisory
  deriving DecidableEq, Repr

/-- The causes a RESTARTED notice names (R172). -/
inductive RestartCause where
  | power | pin | soft
  deriving DecidableEq, Repr

/-- The store load results a RESTARTED notice names (R172). -/
inductive LoadResult where
  | valid | invalid | notLoaded
  deriving DecidableEq, Repr

/-- The origins of a store save (R190). -/
inductive SaveOrigin where
  | saveCalibration | restoreFactory
  deriving DecidableEq, Repr

/-- The resets that read the store afterwards (R187). -/
inductive HardCause where
  | power | pin
  deriving DecidableEq, Repr

/-- The condition of the part: held in a reset, LOADING after one, or READY (R187). The cause of the
reset is kept for the RESTARTED notice (R172). -/
inductive Phase where
  | inReset (cause : HardCause)
  | loading (cause : HardCause)
  | ready
  deriving DecidableEq, Repr

/-- A subset of the destinations; the bits of its code stand in this order (R177). -/
structure DestSet where
  display : Bool
  fanout : Bool
  record : Bool
  deriving DecidableEq, Repr

/-- A subset of the roles (R19). -/
structure RoleSet where
  student : Bool
  teacher : Bool
  guest : Bool
  deriving DecidableEq, Repr

/-- A subset of the tools (R19). -/
structure ToolSet where
  pen : Bool
  marker : Bool
  eraser : Bool
  finger : Bool
  deriving DecidableEq, Repr

/-- A subset of the layers 0 to 7 (R14). -/
structure LayerSet where
  member : Vector Bool 8
  deriving DecidableEq, Repr

/-- The flags of a stroke (R106). -/
structure StrokeFlags where
  clipped : Bool
  gap : Bool
  pointsLost : Bool
  deriving DecidableEq, Repr

end Sys2Proof
end

