-- ==== Sys2Proof/Syntax.lean ====
section
/-! DEFINITION. The commands of the part: one constructor of `Instr` per row of the opcode table. The
first rows are events at the part's pins and links (frames, marks, grants, line changes, expiries,
completions); the rows from WRITE_IDENTITY on are management requests, each carried with its requester's
address and tag (R169) and with the fields of its body as the frame carries them (R177), so that a
value outside its range can still be sent and is refused with RANGE. -/

namespace Sys2Proof

/-- Who sent a management request: its source address and its tag (R165, R169). -/
structure Requester where
  address : Half
  tag : Byte
  deriving DecidableEq, Repr

/-- The body of WRITE_IDENTITY, 17 bytes (R16, R177). -/
structure IdentityWrite where
  seat : Byte
  enabled : Byte
  role : Byte
  calibrationSet : Byte
  allowedLayers : Byte
  overridePresent : Byte
  overrideColour : Byte
  forcedPresent : Byte
  forcedLayer : Byte
  address : Half
  baseX : Half
  baseY : Half
  exponentX : Byte
  exponentY : Byte
  deriving DecidableEq, Repr

/-- The body of WRITE_RULE, 10 bytes (R29, R177). -/
structure RuleWrite where
  page : Byte
  index : Byte
  valid : Byte
  low : Byte
  high : Byte
  roles : Byte
  tools : Byte
  layerMatch : Byte
  action : Byte
  target : Byte
  deriving DecidableEq, Repr

/-- The body of WRITE_CALIBRATION, 13 bytes (R67, R177). -/
structure CalibrationWrite where
  set : Byte
  offsetX : Half
  offsetY : Half
  gainX : Half
  gainY : Half
  baseline : Half
  exponent : Byte
  autoApply : Byte
  deriving DecidableEq, Repr

/-- The body of SET_LAYER_MODE, 6 bytes (R117, R177). -/
structure LayerModeWrite where
  layer : Byte
  smoothing : Byte
  decimation : Byte
  chop : Byte
  order : Byte
  destinations : Byte
  deriving DecidableEq, Repr

/-- The commands of the part, one constructor per row of the opcode table. -/
inductive Instr where
  /-- POWER_ON_RESET (R187): power is applied. -/
  | powerOnReset
  /-- RESETN_LOW (R187): RESETn is driven low. -/
  | resetnLow
  /-- RESET_END (R187): power is established, or RESETn returns high. -/
  | resetEnd
  /-- LOAD_COMPLETE (R188): the store read completes. -/
  | loadComplete
  /-- BOARD_LINK_FRAME (R6): the bytes of a frame arrive on the board link. -/
  | boardLinkFrame (frame : List Byte)
  /-- ROOM_LINK_FRAME (R3): the bytes of a frame arrive on the room link. -/
  | roomLinkFrame (frame : List Byte)
  /-- QUIET_EXPIRY (R10): a seat's quiet deadline expires. -/
  | quietExpiry (seat : Fin 72)
  /-- FRAME_MARK (R37): a mark frame arrives with its number and its check code. -/
  | frameMark (number : Byte) (code : Half)
  /-- SUBSTITUTE_MARK (R38): the frame deadline is reached. -/
  | substituteMark
  /-- CREDIT_GRANT (R145): a grant frame arrives with its count and its check code. -/
  | creditGrant (count : Byte) (code : Half)
  /-- DISPLAY_FRAME_DISCARD (R147): another frame arrives on the display link. -/
  | displayFrameDiscard (frame : List Byte)
  /-- DISPLAY_TRANSMIT_END (R146). -/
  | displayTransmitEnd
  /-- RECORD_READY_CHANGE (R148): the recorder's ready line takes a level. -/
  | recordReadyChange (asserted : Bool)
  /-- RECORD_TRANSMIT_END (R148). -/
  | recordTransmitEnd
  /-- BRIDGE_READY_CHANGE (R151): the bridge's signal takes a level. -/
  | bridgeReadyChange (ready : Bool)
  /-- BRIDGE_ACCEPT (R151): the bridge accepts the frame under offer. -/
  | bridgeAccept
  /-- SAVE_COMPLETE (R191): the store save ends; whether every part read back as written. -/
  | saveComplete (success : Bool)
  /-- UNKNOWN_REQUEST (R168): a request of a kind that the catalogue does not list. -/
  | unknownRequest (req : Requester) (kind : Byte) (body : List Byte)
  /-- WRITE_IDENTITY (R16). -/
  | writeIdentity (req : Requester) (body : IdentityWrite)
  /-- READ_IDENTITY (R17). -/
  | readIdentity (req : Requester) (seat copy : Byte)
  /-- WRITE_RULE (R29). -/
  | writeRule (req : Requester) (body : RuleWrite)
  /-- READ_RULE (R30). -/
  | readRule (req : Requester) (page index copy : Byte)
  /-- SET_DEFAULT_ACTION (R31). -/
  | setDefaultAction (req : Requester) (page action : Byte)
  /-- SELECT_PAGE (R32). -/
  | selectPage (req : Requester) (page : Byte)
  /-- COMMIT (R41). -/
  | commit (req : Requester) (skip : Byte)
  /-- CANCEL_COMMIT (R45). -/
  | cancelCommit (req : Requester)
  /-- DISCARD_STAGED (R46). -/
  | discardStaged (req : Requester)
  /-- READ_MONITOR (R49). -/
  | readMonitor (req : Requester) (clear : Byte)
  /-- SET_TIMING (R34). -/
  | setTiming (req : Requester) (idle frame : Half)
  /-- WRITE_CALIBRATION (R67). -/
  | writeCalibration (req : Requester) (body : CalibrationWrite)
  /-- READ_CALIBRATION (R68). -/
  | readCalibration (req : Requester) (set : Byte)
  /-- APPLY_BASELINE (R65). -/
  | applyBaseline (req : Requester) (sets : List Byte)
  /-- WRITE_WIDTH_TABLE (R69). -/
  | writeWidthTable (req : Requester) (tool : Byte) (entries : Vector Byte 16)
  /-- READ_WIDTH_TABLE (R70). -/
  | readWidthTable (req : Requester) (tool : Byte)
  /-- SET_CANVAS (R71). -/
  | setCanvas (req : Requester) (width height : Half)
  /-- SET_LAYER_MODE (R117). -/
  | setLayerMode (req : Requester) (body : LayerModeWrite)
  /-- OPEN: LAYER_CONTROL with action OPEN (R119). -/
  | openLayer (req : Requester) (layer : Byte)
  /-- FREEZE: LAYER_CONTROL with action FREEZE (R120). -/
  | freezeLayer (req : Requester) (layer : Byte)
  /-- THAW: LAYER_CONTROL with action THAW (R121). -/
  | thawLayer (req : Requester) (layer : Byte)
  /-- CLOSE: LAYER_CONTROL with action CLOSE (R122). -/
  | closeLayer (req : Requester) (layer : Byte)
  /-- CLOSE_NOW: LAYER_CONTROL with action CLOSE_NOW (R123). -/
  | closeLayerNow (req : Requester) (layer : Byte)
  /-- CLEAR: LAYER_CONTROL with action CLEAR (R124). -/
  | clearLayer (req : Requester) (layer : Byte)
  /-- READ_LAYERS (R131). -/
  | readLayers (req : Requester)
  /-- SET_QUEUE (R143). -/
  | setQueue (req : Requester) (queue : Byte) (watermark : Half) (policy : Byte)
  /-- SET_ROOM_PRIORITY (R154). -/
  | setRoomPriority (req : Requester) (mode : Byte)
  /-- FLUSH_QUEUE (R142). -/
  | flushQueue (req : Requester) (queue : Byte)
  /-- READ_QUEUES (R144). -/
  | readQueues (req : Requester) (clear : Byte)
  /-- READ_STROKES (R112). -/
  | readStrokes (req : Requester) (start : Byte)
  /-- READ_COUNTERS (R113). -/
  | readCounters (req : Requester) (clear firstSeat seatCount : Byte)
  /-- READ_HISTORY (R160). -/
  | readHistory (req : Requester) (count : Byte)
  /-- UNDO (R161). -/
  | undo (req : Requester) (seat : Byte)
  /-- READ_ERRORS (R184). -/
  | readErrors (req : Requester)
  /-- CLEAR_ERRORS (R185). -/
  | clearErrors (req : Requester) (kinds : List Byte)
  /-- SET_ERROR_MASK (R186). -/
  | setErrorMask (req : Requester) (kind mask : Byte)
  /-- SET_ERROR_SEVERITY (R186). -/
  | setErrorSeverity (req : Requester) (kind severity : Byte)
  /-- SAVE_CALIBRATION (R190). -/
  | saveCalibration (req : Requester)
  /-- RESTORE_FACTORY (R66, R190). -/
  | restoreFactory (req : Requester)
  /-- RESET_PART (R170). -/
  | resetPart (req : Requester)
  deriving DecidableEq, Repr

/-- A management request as the agent passes it to its owner: the catalogue of section 10.3 without
the requester. LAYER_CONTROL is one request with an action byte (R118). -/
inductive Request where
  | writeIdentity (body : IdentityWrite)
  | readIdentity (seat copy : Byte)
  | writeRule (body : RuleWrite)
  | readRule (page index copy : Byte)
  | setDefaultAction (page action : Byte)
  | selectPage (page : Byte)
  | commit (skip : Byte)
  | cancelCommit
  | discardStaged
  | readMonitor (clear : Byte)
  | setTiming (idle frame : Half)
  | writeCalibration (body : CalibrationWrite)
  | readCalibration (set : Byte)
  | applyBaseline (sets : List Byte)
  | writeWidthTable (tool : Byte) (entries : Vector Byte 16)
  | readWidthTable (tool : Byte)
  | setCanvas (width height : Half)
  | setLayerMode (body : LayerModeWrite)
  | layerControl (layer action : Byte)
  | readLayers
  | setQueue (queue : Byte) (watermark : Half) (policy : Byte)
  | setRoomPriority (mode : Byte)
  | flushQueue (queue : Byte)
  | readQueues (clear : Byte)
  | readStrokes (start : Byte)
  | readCounters (clear firstSeat seatCount : Byte)
  | readHistory (count : Byte)
  | undo (seat : Byte)
  | readErrors
  | clearErrors (kinds : List Byte)
  | setErrorMask (kind mask : Byte)
  | setErrorSeverity (kind severity : Byte)
  | saveCalibration
  | restoreFactory
  | resetPart
  deriving DecidableEq, Repr

end Sys2Proof
end

