-- ==== Sys2Proof/Config.lean ====
section
/-! DEFINITION. The fixed sizes of the part, its factory and reset values, and the free values: what the
spec leaves open, as constants without a body, so that nothing can be proved of the value chosen. -/

namespace Sys2Proof.Config

/-! ### Sizes and limits stated by the spec -/

/-- Capacity of each ink queue in records (R134). -/
def capacity : Dest → Nat
  | .display => 256
  | .fanout => 512
  | .record => 1024

/-- Watermark of each ink queue after a reset (R134). -/
def resetWatermark : Dest → Nat
  | .display => 192
  | .fanout => 384
  | .record => 768

/-- Overflow policy of each ink queue after a reset (R134). -/
def resetPolicy : Dest → Policy
  | .display => .dropOldest
  | .fanout => .dropOldest
  | .record => .stop

/-- The largest value of a saturating counter (Conventions). -/
def counterMax : Nat := 65535

/-- The reply queue's size (R149). -/
def replyCapacity : Nat := 8

/-- The largest number of occupied entries that room seats may hold (R90). -/
def roomEntryLimit : Nat := 40

/-- The size of the stroke table (R90). -/
def entryLimit : Nat := 48

/-- The length of the history list (R156). -/
def historyLimit : Nat := 256

/-- The largest display credit balance (R145). -/
def creditMax : Nat := 255

/-- How many values the stroke id allocator examines at most (R92). -/
def idSearch : Nat := 305

/-- The stroke idle timeout after a reset, in ticks (R34). -/
def resetIdleTimeout : Nat := 2500

/-- The frame timeout after a reset, in ticks (R34). -/
def resetFrameTimeout : Nat := 500

/-- The canvas after a reset (R52). -/
def resetCanvasWidth : Nat := 19200
def resetCanvasHeight : Nat := 10800

/-- Entry `i` of a factory width table (R51). -/
def factoryWidth (t : Tool) (i : Nat) : Nat :=
  match t with
  | .pen => 4 + 3 * i
  | .marker => 20 + 4 * i
  | .eraser => 60 + 10 * i
  | .finger => 12

/-- Default severity of an error kind (R180). -/
def defaultSeverity : ErrorKind → Severity
  | .linkCheck | .malformedFrame | .unknownSource | .sequenceGap | .tableFull | .replyOverflow =>
    .advisory
  | .misplacedManagement | .overflowDisplay | .overflowFanout | .overflowRecord | .creditOverrun
  | .frameMarkLost | .storeFault => .alert

/-- Default mask of an error kind: on for SEQUENCE_GAP alone (R180). -/
def defaultMask : ErrorKind → Bool
  | .sequenceGap => true
  | _ => false

/-! ### Free values (no body: a claim is true whatever they are) -/

/-- Which of a mark's two events is taken first when the mark applies a commit: the commit step (true)
or the point flush (false). The spec leaves the order open (R39). -/
opaque commitFirst : Nat → Bool

/-- The order in which timer expiries that fall on one tick are taken. The spec gives none. -/
opaque dueOrder : Nat → List Instr → List Instr

/-- The layer-state byte of the reply that refuses a LAYER_CONTROL naming no layer. R118 and R169 ask
for the layer's state there, and a layer that does not exist has none. -/
opaque absentLayerState : Nat → Byte

/-- The value bytes of an absent optional field of a reply, by their place in the field. R177 has them stand
and does not say what they hold. -/
opaque absentByte : Nat → Byte

end Sys2Proof.Config
end

