-- ==== Sys2Proof/Machine/Records.lean ====
section
/-! DEFINITION. The records the part holds: table entries, stroke entries, ink records, queue items,
summaries, error items, the store image, and the bodies of replies and notices. Plain data only. -/

namespace Sys2Proof.Machine

/-! ### Points -/

/-- A position in canvas units. -/
structure XY where
  x : Nat
  y : Nat
  deriving DecidableEq, Repr

/-- A canvas point with its width (R60). -/
structure Point where
  x : Nat
  y : Nat
  width : Nat
  deriving DecidableEq, Repr

/-- A bounding box (R86). -/
structure Box where
  minX : Nat
  maxX : Nat
  minY : Nat
  maxY : Nat
  deriving DecidableEq, Repr

/-! ### Identity and admission tables -/

/-- A room seat's window: base and power-of-two exponent per axis (R14, R15). -/
structure Window where
  baseX : Nat
  baseY : Nat
  exponentX : Nat
  exponentY : Nat
  deriving DecidableEq, Repr

/-- An identity entry (R14). The address is absent on board entries. -/
structure IdentityEntry where
  enabled : Bool
  address : Option Half
  role : Role
  calibrationSet : Fin 16
  window : Option Window
  allowedLayers : LayerSet
  colourOverride : Option (Fin 32)
  forcedLayer : Option (Fin 8)
  deriving DecidableEq, Repr

/-- An admission rule (R19); a layer match of ANY is `none`. -/
structure Rule where
  valid : Bool
  low : Fin 72
  high : Fin 72
  roles : RoleSet
  tools : ToolSet
  layerMatch : Option (Fin 8)
  action : Action
  target : Fin 8
  deriving DecidableEq, Repr

/-- One copy, active or staged, of the tables a commit applies (R18, R40). -/
structure Tables where
  identity : Vector IdentityEntry 72
  pages : Vector (Vector Rule 16) 8
  defaults : Vector DefaultAction 8
  page : Fin 8
  deriving DecidableEq, Repr

/-! ### Conditioning tables -/

/-- The five stored fields of a calibration set (R50). -/
structure StoredSet where
  offsetX : Int
  offsetY : Int
  gainX : Nat
  gainY : Nat
  baseline : Nat
  exponent : Nat
  autoApply : Bool
  deriving DecidableEq, Repr

/-- A calibration set with its estimate and its estimator's sum and count (R50, R61). -/
structure CalibrationSet where
  stored : StoredSet
  estimate : Option Nat
  sum : Nat
  count : Nat
  deriving DecidableEq, Repr

/-- The image the calibration store holds (R189); width tables in the order of the tools. -/
structure StoreImage where
  sets : Vector StoredSet 16
  widths : Vector (Vector Nat 16) 4
  deriving DecidableEq, Repr

/-- The non-volatile store: its fields, none while blank, and its check code, none while it is marked
invalid (R189). -/
structure Store where
  fields : Option StoreImage
  code : Option Half
  deriving DecidableEq, Repr

/-- A store save in flight: its origin and the image it writes (R190). -/
structure Save where
  origin : SaveOrigin
  image : StoreImage
  deriving DecidableEq, Repr

/-! ### Samples -/

/-- One sample of a well-formed ink frame (R175). -/
structure Sample where
  rawX : Nat
  rawY : Nat
  pressure : Nat
  tool : Tool
  contact : Bool
  hover : Bool
  colour : Fin 32
  layer : Fin 8
  deriving DecidableEq, Repr

/-! ### Ink records and the ink queues -/

/-- The five kinds of ink record with their fields (R132). -/
inductive InkRecord where
  | strokeBegin (id : Nat) (layer : Fin 8) (seat : Fin 72) (tool : Tool) (colour : Fin 32)
      (isPrivate : Bool) (anchor : Point) (beginTick : Tick)
  | points (id : Nat) (order : PointOrder) (pts : List Point)
  | strokeEnd (id : Nat) (final : Point) (reason : EndReason) (flags : StrokeFlags) (count : Nat)
  | retract (id : Nat) (layer : Fin 8)
  | layer (layer : Fin 8) (event : LayerEvent)
  deriving DecidableEq, Repr

/-- A record held by an ink queue with its sequence number and enqueue tick (R134). `serial` names the
stroke the record belongs to among all strokes the part has begun since reset, so that the part can
tell a stroke's entry from a later entry with the same id (R137). -/
structure QueueItem where
  record : InkRecord
  seq : Half
  tick : Tick
  serial : Option Nat
  deriving DecidableEq, Repr

/-- The counters of an ink queue (R139). -/
structure QueueCounters where
  sent : Nat
  oldestRemovals : Nat
  beginDiscards : Nat
  pointsDiscards : Nat
  endWaits : Nat
  flushed : Nat
  deriving DecidableEq, Repr

/-- An ink queue: its records oldest first, its settings, its next sequence number, the list of ENDING
entries waiting on it, and its counters (R134). -/
structure InkQueue where
  items : List QueueItem
  watermark : Nat
  policy : Policy
  nextSeq : Half
  waiting : List (Fin 48)
  counters : QueueCounters
  deriving DecidableEq, Repr

/-! ### The stroke table -/

/-- The fields of an occupied entry that OPEN and ENDING share (R89). -/
structure StrokeCore where
  serial : Nat
  id : Nat
  seat : Fin 72
  layer : Fin 8
  tool : Tool
  colour : Fin 32
  isPrivate : Bool
  dests : DestSet
  suppressed : DestSet
  flags : StrokeFlags
  beginTick : Tick
  count : Nat
  box : Box
  deriving DecidableEq, Repr

/-- The calibration snapshot of a stroke (R53). -/
structure CalibrationSnapshot where
  offsetX : Int
  offsetY : Int
  gainX : Nat
  gainY : Nat
  baseline : Nat
  deriving DecidableEq, Repr

/-- One axis of the window snapshot (R54). -/
structure AxisBounds where
  origin : Nat
  lo : Nat
  hi : Nat
  deriving DecidableEq, Repr

/-- The snapshots, filter parameters and assembly state of an OPEN entry (R53, R72, R73). -/
structure Assembly where
  calibration : CalibrationSnapshot
  boundsX : AxisBounds
  boundsY : AxisBounds
  smoothing : Nat
  decimation : Nat
  chop : Nat
  stage1 : List XY
  stage2 : List XY
  counter : Nat
  lastEmitted : Point
  lastContact : Point
  pending : List Point
  deriving DecidableEq, Repr

/-- What an ENDING entry holds besides the shared fields (R89, R103). -/
structure Ending where
  reason : EndReason
  endTick : Tick
  record : InkRecord
  waitsOn : DestSet
  delivered : DestSet
  deriving DecidableEq, Repr

/-- An entry of the stroke table (R89). DESIGN CHOICE: R89's table holds the snapshots and the assembly state in
OPEN, R53 and R105 discard them when the entry becomes FREE; here an ENDING entry has none (log entry 32). -/
inductive Entry where
  | free
  | opened (core : StrokeCore) (assembly : Assembly)
  | ending (core : StrokeCore) (ending : Ending)
  deriving DecidableEq, Repr

/-- The part-wide counters of the stroke assembler (R111). -/
structure StrokeCounters where
  begun : Nat
  lifted : Nat
  abandoned : Nat
  revoked : Nat
  cancelled : Nat
  cleared : Nat
  endWaits : Nat
  lockoutDrops : Nat
  deriving DecidableEq, Repr

/-- A summary of a completed stroke (R157). -/
structure Summary where
  id : Nat
  seat : Fin 72
  layer : Fin 8
  tool : Tool
  colour : Fin 32
  box : Box
  count : Nat
  reason : EndReason
  flags : StrokeFlags
  beginTick : Tick
  endTick : Tick
  delivered : DestSet
  retracted : Bool
  deriving DecidableEq, Repr

/-! ### Seats, layers, monitor, errors -/

/-- The per-seat state of section 1.3: receiver ingress state, lockout, open stroke reference. The quiet
deadline is armed at the last ink-frame tick with the interval held here (R10). -/
structure Seat where
  expected : Option Byte
  lastTick : Tick
  quiet : Option Nat
  accepted : Nat
  missing : Nat
  lockout : Option Lockout
  openEntry : Option (Fin 48)
  deriving DecidableEq, Repr

/-- The counters of one link's receiver (R12). -/
structure LinkCounters where
  checkDrops : Nat
  malformedDrops : Nat
  unknownSource : Nat
  inkTaken : Nat
  deriving DecidableEq, Repr

/-- The admission refusal counters (R28). -/
structure RefusalCounters where
  denied : Nat
  notAllowed : Nat
  layerNotOpen : Nat
  tableFull : Nat
  deriving DecidableEq, Repr

/-- A layer's mode (R116). -/
structure LayerMode where
  smoothing : Nat
  decimation : Nat
  chop : Nat
  order : PointOrder
  dests : DestSet
  deriving DecidableEq, Repr

/-- A layer record (R114). -/
structure Layer where
  state : LayerState
  mode : LayerMode
  openCount : Nat
  deriving DecidableEq, Repr

/-- A deadline: its arming tick and its interval (R33). -/
structure Deadline where
  armed : Tick
  interval : Nat
  deriving DecidableEq, Repr

/-- The frame monitor (R35). -/
structure Monitor where
  state : MonitorState
  lastMark : Byte
  lastRealTick : Option Tick
  lastPeriod : Tick
  minPeriod : Tick
  maxPeriod : Tick
  captures : Nat
  substitutes : Nat
  deadline : Option Deadline
  deriving DecidableEq, Repr

/-- The four items of an error kind (R180). -/
structure ErrorItem where
  status : Bool
  mask : Bool
  severity : Severity
  counter : Nat
  deriving DecidableEq, Repr

/-- Where a raise comes from: what the raising rule supplies to the first-error log (R182). -/
structure ErrorSource where
  port : Option Port
  channel : Option Nat
  address : Option Half
  seat : Option (Fin 72)
  header : List Byte
  deriving DecidableEq, Repr

/-- The first-error log's record (R182). -/
structure LogRecord where
  kind : ErrorKind
  source : ErrorSource
  tick : Tick
  deriving DecidableEq, Repr

/-! ### Replies and notices -/

/-- READ_MONITOR's report (R49). -/
structure MonitorReport where
  state : MonitorState
  lastMark : Byte
  lastPeriod : Tick
  minPeriod : Tick
  maxPeriod : Tick
  captures : Nat
  substitutes : Nat
  commitPending : Bool
  countdown : Nat
  frameTimeout : Nat
  idleTimeout : Nat
  tick : Tick
  deriving DecidableEq, Repr

/-- One layer of READ_LAYERS (R131). -/
structure LayerReport where
  state : LayerState
  mode : LayerMode
  openCount : Nat
  endingCount : Nat
  congested : Bool
  atWatermark : DestSet
  deriving DecidableEq, Repr

/-- One ink queue of READ_QUEUES (R144). -/
structure QueueReport where
  level : Nat
  capacity : Nat
  watermark : Nat
  policy : Policy
  atWatermark : Bool
  nextSeq : Half
  head : Option (Half × Tick)
  waitingLength : Nat
  waitingHead : Option (Fin 48)
  counters : QueueCounters
  deriving DecidableEq, Repr

/-- What the room egress has under offer (R149). -/
inductive Offer where
  | none | reply | fanout
  deriving DecidableEq, Repr

/-- READ_QUEUES's report (R144). -/
structure QueuesReport where
  display : QueueReport
  fanout : QueueReport
  record : QueueReport
  credit : Nat
  recorderReady : Bool
  priority : Priority
  bridgeReady : Bool
  offer : Offer
  replyLevel : Nat
  deriving DecidableEq, Repr

/-- One entry of READ_STROKES (R112); the last field stands for an ENDING entry only (log entry 31). -/
structure StrokeReport where
  index : Fin 48
  core : StrokeCore
  delivered : DestSet
  pendingPoints : Nat
  ending : Option (EndReason × Tick × DestSet)
  deriving DecidableEq, Repr

/-- READ_STROKES's report (R112). -/
structure StrokesReport where
  occupied : Nat
  roomOccupied : Nat
  nextId : Nat
  entries : List StrokeReport
  resume : Option (Fin 48)
  deriving DecidableEq, Repr

/-- One seat of READ_COUNTERS (R113). -/
structure SeatReport where
  accepted : Nat
  missing : Nat
  lockout : Option Lockout
  hasOpenStroke : Bool
  deriving DecidableEq, Repr

/-- READ_COUNTERS's report (R113). -/
structure CountersReport where
  board : LinkCounters
  room : LinkCounters
  refusals : RefusalCounters
  strokes : StrokeCounters
  historyOverrun : Nat
  noticesLost : Nat
  seats : List SeatReport
  deriving DecidableEq, Repr

/-- READ_ERRORS's report (R184): `alertLow` says that ALERTn is driven low. -/
structure ErrorsReport where
  items : Vector ErrorItem 13
  alertLow : Bool
  log : Option LogRecord
  save : Option SaveOrigin
  deriving DecidableEq, Repr

/-- The bodies of replies: for each request the fields its owning rule names (R169). -/
inductive ReplyBody where
  /-- A refused request's empty body (R169), and DISCARD_STAGED's, SAVE_CALIBRATION's and
  RESTORE_FACTORY's. -/
  | empty
  | identity (entry : IdentityEntry)
  | rule (rule : Rule)
  | ruleRead (rule : Rule) (dflt : DefaultAction) (page : Fin 8)
  | defaultAction (page : Fin 8) (action : DefaultAction)
  | page (page : Fin 8)
  | skip (count : Nat)
  | cancelled (wasPending : Bool) (countdown : Nat)
  | monitor (report : MonitorReport)
  | timing (idle frame : Nat)
  | calibration (stored : StoredSet) (estimate : Option Nat)
  | calibrationRead (stored : StoredSet) (estimate : Option Nat) (count window : Nat)
  | setList (sets : List (Fin 16))
  | widthTable (entries : Vector Nat 16)
  | canvas (width height : Nat)
  | layerMode (mode : LayerMode)
  /-- LAYER_CONTROL: the layer and its state after the request (R118). -/
  | layerState (layer : Fin 8) (state : LayerState)
  /-- LAYER_CONTROL refused because no such layer exists: the layer as received, and a state byte whose
  value the spec does not give. -/
  | absentLayer (layer : Byte) (stateByte : Byte)
  /-- A ROOM refusal of LAYER_CONTROL (R118). -/
  | layerRoom (layer : Fin 8) (state : LayerState) (lacking : DestSet)
  /-- A taken CLOSE_NOW (R118). -/
  | layerEnded (layer : Fin 8) (state : LayerState) (ended : Nat)
  /-- A taken CLEAR (R118). -/
  | layerCleared (layer : Fin 8) (state : LayerState) (ended removed : Nat)
  | layers (rows : Vector LayerReport 8)
  | queueSettings (watermark : Nat) (policy : Policy)
  | priority (mode : Priority)
  | flushed (removed suppressed completed : Nat)
  | queues (report : QueuesReport)
  | strokes (report : StrokesReport)
  | counters (report : CountersReport)
  | history (summaries : List Summary) (length unread : Nat)
  | undone (id : Nat) (layer : Fin 8) (dests : DestSet)
  /-- A ROOM refusal of UNDO (R162). -/
  | lacking (dests : DestSet)
  | errors (report : ErrorsReport)
  | kindList (kinds : List (Fin 13))
  | errorMask (kind : Fin 13) (mask : Bool)
  | errorSeverity (kind : Fin 13) (severity : Severity)
  deriving DecidableEq, Repr

/-- The four notices (R171). -/
inductive Notice where
  | restarted (cause : RestartCause) (load : LoadResult)
  | committed (mark : Byte) (substitute : Bool)
  | storeDone (origin : SaveOrigin) (success : Bool)
  | errorNotice (kind : ErrorKind) (tick : Tick)
  deriving DecidableEq, Repr

/-- A frame of the reply queue: a reply to a request, or a notice (R149, R169, R171). -/
inductive ReplyFrame where
  | reply (dest : Half) (kind tag : Byte) (status : Status) (body : ReplyBody)
  | notice (notice : Notice)
  deriving DecidableEq, Repr

/-- A frame in the reply queue with its sequence number and enqueue tick (R149). -/
structure ReplyItem where
  frame : ReplyFrame
  seq : Half
  tick : Tick
  deriving DecidableEq, Repr

/-! ### What leaves the part -/

/-- The part's three outward links. -/
inductive Link where
  | display | room | record
  deriving DecidableEq, Repr

/-- A frame that left the part on a link, as bytes (R178). -/
structure SentFrame where
  link : Link
  bytes : List Byte
  deriving DecidableEq, Repr

end Sys2Proof.Machine
end

