-- ==== Sys2Proof/Machine/Blocks.lean ====
section
/-! DEFINITION. The state of the part, block by block, as the manual's block overview divides it, and the
part as a whole. -/

namespace Sys2Proof.Machine

/-- The two timeouts of SET_TIMING (R34). -/
structure Timing where
  idleTimeout : Nat
  frameTimeout : Nat
  deriving DecidableEq, Repr

/-- The part-wide receiver counters (R12). -/
structure Receivers where
  board : LinkCounters
  room : LinkCounters
  deriving DecidableEq, Repr

/-- Staging control (R40). -/
structure Staging where
  pending : Bool
  countdown : Nat
  deriving DecidableEq, Repr

/-- The conditioning unit: calibration sets, width tables in the order of the tools, canvas size
(R50, R51, R52). -/
structure Conditioning where
  sets : Vector CalibrationSet 16
  widths : Vector (Vector Nat 16) 4
  canvasWidth : Nat
  canvasHeight : Nat
  deriving DecidableEq, Repr

/-- The stroke assembler: stroke table, id allocator and counters (R89, R92, R111). `nextSerial` counts
the strokes begun since reset, so that a queue can tell whose record it holds (R137). -/
structure Assembler where
  entries : Vector Entry 48
  nextId : Nat
  nextSerial : Nat
  counters : StrokeCounters
  deriving DecidableEq, Repr

/-- The three ink queues (R134), and the slots held back while a CLEAR runs (R125). -/
structure Queues where
  display : InkQueue
  fanout : InkQueue
  record : InkQueue
  held : DestSet
  deriving DecidableEq, Repr

/-- The egress schedulers: display credit balance and transmitting indication (R145, R146), record
transmitting indication and ready line (R148), room priority mode, bridge signal and offer (R149). -/
structure Egress where
  credit : Nat
  displayBusy : Bool
  recordBusy : Bool
  recorderReady : Bool
  priority : Priority
  bridgeReady : Bool
  offer : Offer
  deriving DecidableEq, Repr

/-- The history list, oldest first (R156). -/
structure History where
  list : List Summary
  unread : Nat
  overrun : Nat
  deriving DecidableEq, Repr

/-- The management agent and the reply queue (R149, R168, R171). `replyHeld` stands while a request that
passed the gate is being executed. -/
structure Agent where
  replies : List ReplyItem
  replySeq : Half
  replyHeld : Bool
  noticesLost : Nat
  deriving DecidableEq, Repr

/-- The error monitor: the items of the thirteen kinds, the first-error log, and whether ALERTn is
driven low (R180, R182, R183). -/
structure Errors where
  items : Vector ErrorItem 13
  log : Option LogRecord
  alertLow : Bool
  deriving DecidableEq, Repr

/-- The part: every block's state, the frames that have left it so far (`sent`, oldest first: the outside
world's view, which no rule reads), and the counter of free values drawn so far. -/
structure Part where
  phase : Phase
  tick : Tick
  timing : Timing
  receivers : Receivers
  seats : Vector Seat 72
  active : Tables
  staged : Tables
  refusals : RefusalCounters
  monitor : Monitor
  staging : Staging
  conditioning : Conditioning
  assembler : Assembler
  layers : Vector Layer 8
  queues : Queues
  egress : Egress
  history : History
  agent : Agent
  errors : Errors
  store : Store
  save : Option Save
  sent : List SentFrame
  freeDraws : Nat
  deriving DecidableEq, Repr

end Sys2Proof.Machine
end

