-- ==== Sys2Proof/Machine/Wire.lean ====
section
/-! DEFINITION. The link check code (R1) and the byte encodings of fields (R177): most significant byte
first, enumerations by number, sets by bits, optional fields behind a presence byte. -/

namespace Sys2Proof

/-- One bit step of the check code's remainder register, with the generator
x^16 + x^12 + x^5 + 1 (R1). -/
def crcBit (r : Half) : Half :=
  if r.msb then (r <<< 1) ^^^ 0x1021#16 else r <<< 1

/-- One byte taken into the remainder register, most significant bit first (R1). -/
def crcByte (r : Half) (b : Byte) : Half :=
  crcBit (crcBit (crcBit (crcBit (crcBit (crcBit (crcBit (crcBit
    (r ^^^ ((b.setWidth 16) <<< 8)))))))))

/-- The link check code of a run of bytes: the register is preset to 0xFFFF and not inverted (R1). -/
def crc (bytes : List Byte) : Half := bytes.foldl crcByte 0xFFFF#16

/-- A 16-bit field, most significant byte first (section 10.6). -/
def be16 (h : Half) : List Byte := [h.extractLsb' 8 8, h.extractLsb' 0 8]

/-- The 16-bit field two bytes spell, the most significant first. -/
def read16 (hi lo : Byte) : Half := hi ++ lo

/-- A 32-bit field, most significant byte first (R177). -/
def be32 (t : Tick) : List Byte :=
  [t.extractLsb' 24 8, t.extractLsb' 16 8, t.extractLsb' 8 8, t.extractLsb' 0 8]

/-- A frame's bytes closed by their check code (R1, R178). -/
def sealFrame (bytes : List Byte) : List Byte := bytes ++ be16 (crc bytes)

/-- Whether a frame's last two bytes are the check code of the bytes before them; a frame too short to
hold a code fails (R1). -/
def codeMatches (frame : List Byte) : Bool :=
  decide (2 ≤ frame.length)
    && decide (frame.drop (frame.length - 2) = be16 (crc (frame.take (frame.length - 2))))

/-! ### Fields of one byte -/

/-- A number in one byte (R177). -/
def byteOf (n : Nat) : Byte := BitVec.ofNat 8 n

/-- A number in two bytes (R177). -/
def halfBytes (n : Nat) : List Byte := be16 (BitVec.ofNat 16 n)

/-- A signed number in two bytes, two's complement (R177). -/
def signedBytes (n : Int) : List Byte := be16 (BitVec.ofInt 16 n)

/-- Yes or no, on or off: 1 or 0 (R177). -/
def flagByte (b : Bool) : Byte := if b then 1 else 0

/-- The value of a yes/no byte; a byte other than 0 and 1 has none (R177). -/
def flagOf? (b : Byte) : Option Bool :=
  if b = 0 then some false else if b = 1 then some true else none

/-- A byte as an index below a bound, when it lies below it. -/
def finOf? (n : Nat) (b : Byte) : Option (Fin n) :=
  if h : b.toNat < n then some ⟨b.toNat, h⟩ else none

/-- The value bytes of an absent optional field. DESIGN CHOICE: R177 has them stand and gives them no value,
so they are free values (log entry 29). -/
def absentBytes (width : Nat) : List Byte := (List.range width).map Config.absentByte

/-- An optional field: a presence byte, then the value's bytes, which stand even when the field is absent
(R177); what they then hold is free (log entry 29). -/
def optionBytes {α : Type} (width : Nat) (encode : α → List Byte) : Option α → List Byte
  | none => 0 :: absentBytes width
  | some a => 1 :: encode a

/-- A list: a count byte followed by the items (R177). -/
def listBytes {α : Type} (encode : α → List Byte) (l : List α) : List Byte :=
  byteOf l.length :: l.flatMap encode

/-! ### Codes of the enumerated values (R177), numbered from 0 in the order of their listing -/

def Tool.code : Tool → Byte
  | .pen => 0 | .marker => 1 | .eraser => 2 | .finger => 3

/-- The tool of a code, none for a code past the last value (R175, R177). -/
def Tool.of? (b : Byte) : Option Tool :=
  if b = 0 then some .pen else if b = 1 then some .marker
  else if b = 2 then some .eraser else if b = 3 then some .finger else none

def Role.code : Role → Byte
  | .student => 0 | .teacher => 1 | .guest => 2

def Role.of? (b : Byte) : Option Role :=
  if b = 0 then some .student else if b = 1 then some .teacher
  else if b = 2 then some .guest else none

def Dest.code : Dest → Byte
  | .display => 0 | .fanout => 1 | .record => 2

def Dest.of? (b : Byte) : Option Dest :=
  if b = 0 then some .display else if b = 1 then some .fanout
  else if b = 2 then some .record else none

def Copy.of? (b : Byte) : Option Copy :=
  if b = 0 then some .active else if b = 1 then some .staged else none

def Action.code : Action → Byte
  | .admitted => 0 | .redirect => 1 | .deliverPrivately => 2 | .deny => 3

def Action.of? (b : Byte) : Option Action :=
  if b = 0 then some .admitted else if b = 1 then some .redirect
  else if b = 2 then some .deliverPrivately else if b = 3 then some .deny else none

/-- A default action is coded as a rule's action is: ADMIT 0, DENY 3 (R31). -/
def DefaultAction.code : DefaultAction → Byte
  | .admitted => 0 | .deny => 3

def DefaultAction.of? (b : Byte) : Option DefaultAction :=
  if b = 0 then some .admitted else if b = 3 then some .deny else none

def Lockout.code : Lockout → Byte
  | .denied => 0 | .notAllowed => 1 | .layerNotOpen => 2 | .tableFull => 3

def MonitorState.code : MonitorState → Byte
  | .noMarks => 0 | .locked => 1 | .lost => 2

def LayerState.code : LayerState → Byte
  | .closed => 0 | .opened => 1 | .frozen => 2 | .draining => 3

def PointOrder.code : PointOrder → Byte
  | .sequential => 0 | .interleaved => 1

def PointOrder.of? (b : Byte) : Option PointOrder :=
  if b = 0 then some .sequential else if b = 1 then some .interleaved else none

def LayerEvent.code : LayerEvent → Byte
  | .opened => 0 | .cleared => 1

def EndReason.code : EndReason → Byte
  | .lifted => 0 | .abandoned => 1 | .revoked => 2 | .cancelled => 3 | .cleared => 4

def Policy.code : Policy → Byte
  | .stop => 0 | .dropOldest => 1

def Policy.of? (b : Byte) : Option Policy :=
  if b = 0 then some .stop else if b = 1 then some .dropOldest else none

def Priority.code : Priority → Byte
  | .replyFirst => 0 | .oldestFirst => 1

def Priority.of? (b : Byte) : Option Priority :=
  if b = 0 then some .replyFirst else if b = 1 then some .oldestFirst else none

/-- The status codes of R178. -/
def Status.code : Status → Byte
  | .ok => 0 | .busy => 1 | .pending => 2 | .state => 3 | .range => 4 | .conflict => 5
  | .room => 6 | .notReady => 7 | .unknown => 8 | .malformed => 9

def Port.code : Port → Byte
  | .board => 0 | .room => 1 | .display => 2 | .record => 3

/-- The number of an error kind (R180). -/
def ErrorKind.index : ErrorKind → Fin 13
  | .linkCheck => 0 | .malformedFrame => 1 | .unknownSource => 2 | .misplacedManagement => 3
  | .sequenceGap => 4 | .tableFull => 5 | .overflowDisplay => 6 | .overflowFanout => 7
  | .overflowRecord => 8 | .creditOverrun => 9 | .frameMarkLost => 10 | .replyOverflow => 11
  | .storeFault => 12

def Severity.code : Severity → Byte
  | .alert => 0 | .advisory => 1

def Severity.of? (b : Byte) : Option Severity :=
  if b = 0 then some .alert else if b = 1 then some .advisory else none

def RestartCause.code : RestartCause → Byte
  | .power => 0 | .pin => 1 | .soft => 2

def LoadResult.code : LoadResult → Byte
  | .valid => 0 | .invalid => 1 | .notLoaded => 2

def SaveOrigin.code : SaveOrigin → Byte
  | .saveCalibration => 0 | .restoreFactory => 1

/-! ### Sets: one bit per member in the order of the listing, bit 0 first (R177) -/

def DestSet.code (d : DestSet) : Byte :=
  (if d.display then 1#8 else 0#8) ||| (if d.fanout then 2#8 else 0#8)
    ||| (if d.record then 4#8 else 0#8)

/-- The destinations of a set byte, none when a bit names no member (R117, R177). -/
def DestSet.of? (b : Byte) : Option DestSet :=
  if b.toNat < 8 then some ⟨b.getLsbD 0, b.getLsbD 1, b.getLsbD 2⟩ else none

def RoleSet.code (r : RoleSet) : Byte :=
  (if r.student then 1#8 else 0#8) ||| (if r.teacher then 2#8 else 0#8)
    ||| (if r.guest then 4#8 else 0#8)

def RoleSet.of? (b : Byte) : Option RoleSet :=
  if b.toNat < 8 then some ⟨b.getLsbD 0, b.getLsbD 1, b.getLsbD 2⟩ else none

def ToolSet.code (t : ToolSet) : Byte :=
  (if t.pen then 1#8 else 0#8) ||| (if t.marker then 2#8 else 0#8)
    ||| (if t.eraser then 4#8 else 0#8) ||| (if t.finger then 8#8 else 0#8)

def ToolSet.of? (b : Byte) : Option ToolSet :=
  if b.toNat < 16 then
    some ⟨b.getLsbD 0, b.getLsbD 1, b.getLsbD 2, b.getLsbD 3⟩
  else none

def LayerSet.code (l : LayerSet) : Byte :=
  (indexes 8).foldl (fun acc i => if look l.member i then acc ||| (1#8 <<< i.val) else acc) 0#8

/-- Every bit of a layer set byte names a layer (R177). -/
def LayerSet.ofByte (b : Byte) : LayerSet :=
  ⟨#v[b.getLsbD 0, b.getLsbD 1, b.getLsbD 2, b.getLsbD 3, b.getLsbD 4, b.getLsbD 5, b.getLsbD 6,
    b.getLsbD 7]⟩

/-- The stroke flags of an END record: bit 0 CLIPPED, bit 1 GAP, bit 2 POINTS_LOST (R179). -/
def StrokeFlags.code (f : StrokeFlags) : Byte :=
  (if f.clipped then 1#8 else 0#8) ||| (if f.gap then 2#8 else 0#8)
    ||| (if f.pointsLost then 4#8 else 0#8)

/-! ### Membership and change of the sets -/

def DestSet.has (s : DestSet) : Dest → Bool
  | .display => s.display
  | .fanout => s.fanout
  | .record => s.record

def DestSet.insert (s : DestSet) : Dest → DestSet
  | .display => { s with display := true }
  | .fanout => { s with fanout := true }
  | .record => { s with record := true }

def DestSet.erase (s : DestSet) : Dest → DestSet
  | .display => { s with display := false }
  | .fanout => { s with fanout := false }
  | .record => { s with record := false }

def DestSet.isEmpty (s : DestSet) : Bool := !s.display && !s.fanout && !s.record

def DestSet.empty : DestSet := ⟨false, false, false⟩

/-- The destinations of one set that are not in another. -/
def DestSet.minus (s t : DestSet) : DestSet :=
  ⟨s.display && !t.display, s.fanout && !t.fanout, s.record && !t.record⟩

/-- The destinations in the order in which copies of a record are handed to the queues (R133). -/
def allDests : List Dest := [.display, .fanout, .record]

/-- The members of a set in the order DISPLAY, FANOUT, RECORD. -/
def DestSet.toList (s : DestSet) : List Dest := allDests.filter s.has

def RoleSet.has (s : RoleSet) : Role → Bool
  | .student => s.student
  | .teacher => s.teacher
  | .guest => s.guest

def ToolSet.has (s : ToolSet) : Tool → Bool
  | .pen => s.pen
  | .marker => s.marker
  | .eraser => s.eraser
  | .finger => s.finger

def LayerSet.has (s : LayerSet) (l : Fin 8) : Bool := look s.member l

end Sys2Proof
end

