-- ==== Sys2Proof/Machine/ResetValues.lean ====
section
/-! DEFINITION. The value each piece of state takes at a reset, block by block, each with the rule that
gives it. -/

namespace Sys2Proof.Machine

/-! ### Reset values, block by block -/

/-- An identity entry after every reset (R14): address 0 on room entries, absent on board entries. -/
def resetIdentity (seat : Fin 72) : IdentityEntry where
  enabled := false
  address := if seat.val < 64 then some 0 else none
  role := .student
  calibrationSet := 0
  window := none
  allowedLayers := LayerSet.ofByte 0
  colourOverride := none
  forcedLayer := none

/-- A rule after every reset (R18). -/
def resetRule : Rule where
  valid := false
  low := 0
  high := 71
  roles := ⟨false, false, false⟩
  tools := ⟨false, false, false, false⟩
  layerMatch := none
  action := .deny
  target := 0

/-- Either copy of the staged tables after every reset (R14, R18). -/
def resetTables : Tables where
  identity := Vector.ofFn resetIdentity
  pages := fill 8 (fill 16 resetRule)
  defaults := fill 8 .deny
  page := 0

/-- The factory values of a calibration set's stored fields (R50). -/
def factorySet : StoredSet where
  offsetX := 0
  offsetY := 0
  gainX := 16384
  gainY := 16384
  baseline := 0
  exponent := 4
  autoApply := false

/-- The factory width table of a tool (R51). -/
def factoryWidths (t : Tool) : Vector Nat 16 := Vector.ofFn fun i => Config.factoryWidth t i.val

/-- The factory image: every set and every table at its factory values (R50, R51). -/
def factoryImage : StoreImage where
  sets := fill 16 factorySet
  widths := #v[factoryWidths .pen, factoryWidths .marker, factoryWidths .eraser, factoryWidths .finger]

/-- A calibration set with given stored fields, its estimate absent and its estimator empty. -/
def freshSet (stored : StoredSet) : CalibrationSet := ⟨stored, none, 0, 0⟩

/-- The stored fields of every set and every width table, as the store keeps them (R189, R190). -/
def Conditioning.image (c : Conditioning) : StoreImage := ⟨c.sets.map (·.stored), c.widths⟩

/-- The conditioning unit with an image's tables, estimates absent and estimators empty (R50, R188). -/
def Conditioning.load (c : Conditioning) (img : StoreImage) : Conditioning :=
  { c with sets := img.sets.map freshSet, widths := img.widths }

/-- What every reset does to the conditioning unit: estimates absent, estimators empty, the default
canvas; the stored fields and width tables are left standing (R50, R51, R52, R61). -/
def Conditioning.reset (c : Conditioning) : Conditioning :=
  { c.load c.image with
    canvasWidth := Config.resetCanvasWidth, canvasHeight := Config.resetCanvasHeight }

/-- A seat after every reset (section 1.3). -/
def resetSeat : Seat := ⟨none, 0, none, 0, 0, none, none⟩

def resetLinkCounters : LinkCounters := ⟨0, 0, 0, 0⟩

/-- The frame monitor after a reset, its deadline disarmed (R35). -/
def resetMonitor : Monitor := ⟨.noMarks, 0, none, 0, 0, 0, 0, 0, none⟩

/-- A layer after every reset (R114). -/
def resetLayer : Layer := ⟨.closed, ⟨1, 0, 8, .sequential, ⟨true, true, true⟩⟩, 0⟩

def resetQueueCounters : QueueCounters := ⟨0, 0, 0, 0, 0, 0⟩

/-- An ink queue after every reset (R134). -/
def resetQueue (d : Dest) : InkQueue :=
  ⟨[], Config.resetWatermark d, Config.resetPolicy d, 0, [], resetQueueCounters⟩

def resetQueues : Queues :=
  ⟨resetQueue .display, resetQueue .fanout, resetQueue .record, DestSet.empty⟩

/-- The egress after a reset, with the levels that the recorder and the bridge present (R148, R149). -/
def resetEgress (recorderReady bridgeReady : Bool) : Egress :=
  ⟨0, false, false, recorderReady, .replyFirst, bridgeReady, .none⟩

/-- The stroke assembler after every reset (R109). -/
def resetAssembler : Assembler := ⟨fill 48 .free, 1, 0, ⟨0, 0, 0, 0, 0, 0, 0, 0⟩⟩

/-- The error kinds in number order (R180). -/
def allKinds : Vector ErrorKind 13 :=
  #v[.linkCheck, .malformedFrame, .unknownSource, .misplacedManagement, .sequenceGap, .tableFull,
    .overflowDisplay, .overflowFanout, .overflowRecord, .creditOverrun, .frameMarkLost, .replyOverflow,
    .storeFault]

/-- The error monitor after a power-on reset (R180, R182, R183). -/
def powerOnErrors : Errors where
  items := allKinds.map fun k => ⟨false, Config.defaultMask k, Config.defaultSeverity k, 0⟩
  log := none
  alertLow := false

/-- The part right after a power-on reset has ended: LOADING, tick 0, every block at its reset values
(R187). The calibration RAM before the load, the store's contents, and the levels of the two ready
lines are not the spec's: see the assumption log. -/
def resetPart : Part where
  phase := .loading .power
  tick := 0
  timing := ⟨Config.resetIdleTimeout, Config.resetFrameTimeout⟩
  receivers := ⟨resetLinkCounters, resetLinkCounters⟩
  seats := fill 72 resetSeat
  active := resetTables
  staged := resetTables
  refusals := ⟨0, 0, 0, 0⟩
  monitor := resetMonitor
  staging := ⟨false, 0⟩
  conditioning :=
    ⟨factoryImage.sets.map freshSet, factoryImage.widths, Config.resetCanvasWidth,
      Config.resetCanvasHeight⟩
  assembler := resetAssembler
  layers := fill 8 resetLayer
  queues := resetQueues
  egress := resetEgress false false
  history := ⟨[], 0, 0⟩
  agent := ⟨[], 0, false, 0⟩
  errors := powerOnErrors
  store := ⟨none, none⟩
  save := none
  sent := []
  freeDraws := 0

end Sys2Proof.Machine
end

