-- ==== Sys2Proof/Machine/State.lean ====
section
/-! DEFINITION. The machine's state, what can stop it, and its state right after reset. -/

namespace Sys2Proof.Machine

/-- Why the machine would stop. No rule of the spec stops this part: every command has an effect, is
answered, or is dropped, so there is no fault to name. -/
inductive Fault where
  deriving DecidableEq, Repr

/-- Why a command has no meaning. -/
inductive Refusal where
  /-- Raised by `exec` alone, for a row of the opcode table that has no meaning yet (safe: nothing can
  be proved of that row). -/
  | notModelled (mnemonic : String)
  deriving DecidableEq, Repr

/-- The machine: the part, and the commands that wait to be taken, first in, first out. -/
structure State where
  part : Part
  pending : List Instr
  deriving DecidableEq, Repr

/-- The machine right after reset: the part as a power-on reset leaves it, and no command waiting. -/
def State.reset : State := ⟨resetPart, []⟩

end Sys2Proof.Machine
end

