-- ==== Sys2Proof/Machine/Flags.lean ====
section
/-! DEFINITION. Every flag the spec computes: the ALERTn level from the error kinds' items, and the three
flags of a stroke. -/

namespace Sys2Proof.Machine

/-- Whether some kind has its status set, its mask off and its severity ALERT (R183). -/
def alertLevel (items : Vector ErrorItem 13) : Bool :=
  items.toList.any fun i => i.status && !i.mask && decide (i.severity = .alert)

/-- A stroke gains POINTS_LOST (R106). -/
def StrokeCore.losePoints (c : StrokeCore) : StrokeCore :=
  { c with flags := { c.flags with pointsLost := true } }

/-- A stroke gains GAP (R8, R106). -/
def StrokeCore.markGap (c : StrokeCore) : StrokeCore :=
  { c with flags := { c.flags with gap := true } }

/-- A stroke gains CLIPPED when a clamp changed a coordinate of its sample, and keeps it (R56, R106). -/
def StrokeCore.markClipped (clamped : Bool) (c : StrokeCore) : StrokeCore :=
  { c with flags := { c.flags with clipped := c.flags.clipped || clamped } }

end Sys2Proof.Machine
end

