-- ==== Sys2Proof/Machine/Ops.lean ====
section
/-! DEFINITION. The shared operations of the part: saturating counters, the error monitor's raise, the reply
queue, the room egress choice, and the ink queues. Every meaning is built from these. -/

namespace Sys2Proof.Machine

/-! ### Counters -/

/-- A 16-bit counter advanced by `k`, saturating at 65535 (Conventions, R12). -/
def satAdd (c k : Nat) : Nat := min Config.counterMax (c + k)

/-- A 16-bit counter advanced by 1. -/
def bump (c : Nat) : Nat := satAdd c 1

/-! ### Phases and deadlines -/

/-- Whether the part is LOADING (R187). -/
def Part.isLoading (p : Part) : Bool :=
  match p.phase with
  | .loading _ => true
  | _ => false

/-- Whether the part is held in a reset (R187). -/
def Part.inReset (p : Part) : Bool :=
  match p.phase with
  | .inReset _ => true
  | _ => false

/-- Whether an interval armed at a tick is reached at the current tick (R33). -/
def reached (now armed : Tick) (interval : Nat) : Bool := decide (interval ≤ (now - armed).toNat)

/-! ### The ink queues: access -/

def Queues.get (q : Queues) : Dest → InkQueue
  | .display => q.display
  | .fanout => q.fanout
  | .record => q.record

def Queues.set (q : Queues) (d : Dest) (v : InkQueue) : Queues :=
  match d with
  | .display => { q with display := v }
  | .fanout => { q with fanout := v }
  | .record => { q with record := v }

/-- The queue behind a destination (R133). -/
def Part.queue (p : Part) (d : Dest) : InkQueue := p.queues.get d

def Part.setQueue (p : Part) (d : Dest) (v : InkQueue) : Part :=
  { p with queues := p.queues.set d v }

/-- A queue's level: the records it holds (R134). -/
def Part.level (p : Part) (d : Dest) : Nat := (p.queue d).items.length

/-- A queue's free slots: its capacity less the records it holds (R118). -/
def Part.freeSlots (p : Part) (d : Dest) : Nat := Config.capacity d - p.level d

/-- Whether a record handed to a queue finds a free slot, a slot held back by a CLEAR not counting as one
(R125, R136). -/
def Part.hasRoom (p : Part) (d : Dest) : Bool :=
  decide (p.level d + (if p.queues.held.has d then 1 else 0) < Config.capacity d)

/-- Whether a queue holds at least its watermark (R129). -/
def Part.atWatermark (p : Part) (d : Dest) : Bool := decide ((p.queue d).watermark ≤ p.level d)

/-! ### The room egress choice -/

/-- A head's age: the current tick minus its enqueue tick, modulo 2^32 (R150). -/
def age (now enqueued : Tick) : Nat := (now - enqueued).toNat

/-- Which head the room egress offers (R150). -/
def Part.choice (p : Part) : Offer :=
  match p.agent.replies, p.queues.fanout.items with
  | [], [] => .none
  | _ :: _, [] => .reply
  | [], _ :: _ => .fanout
  | r :: _, f :: _ =>
    match p.egress.priority with
    | .replyFirst => .reply
    | .oldestFirst => if age p.tick r.tick < age p.tick f.tick then .fanout else .reply

def Part.setOffer (p : Part) (o : Offer) : Part := { p with egress := { p.egress with offer := o } }

/-- The choice made when nothing is under offer and the bridge is ready (R150). -/
def roomChoose (p : Part) : Part :=
  if p.egress.offer = .none ∧ p.egress.bridgeReady = true then p.setOffer p.choice else p

/-! ### The reply queue -/

/-- A frame joins the reply queue at its tail, stamped with the queue's sequence number and the current
tick (R149), and may be offered at once (R150). -/
def joinReply (f : ReplyFrame) (p : Part) : Part :=
  roomChoose
    { p with
      agent :=
        { p.agent with
          replies := p.agent.replies ++ [⟨f, p.agent.replySeq, p.tick⟩]
          replySeq := p.agent.replySeq + 1 } }

/-- The limit of the gate: 8 in READY, 7 in LOADING (R167). -/
def Part.gateLimit (p : Part) : Nat :=
  if p.isLoading then Config.replyCapacity - 1 else Config.replyCapacity

/-- The limit a notice meets: the gate's, less the slot held for a reply while a request is executed
(R168, R171). -/
def Part.noticeLimit (p : Part) : Nat := p.gateLimit - (if p.agent.replyHeld then 1 else 0)

/-- A notice is handed to the reply queue: it joins below the limit, and is lost and counted at it
(R171). -/
def notice (n : Notice) (p : Part) : Part :=
  if p.agent.replies.length < p.noticeLimit then joinReply (.notice n) p
  else { p with agent := { p.agent with noticesLost := bump p.agent.noticesLost } }

/-! ### The error monitor -/

/-- The items of the error kinds replaced, and ALERTn brought to the level they give (R183). -/
def Part.setErrorItems (p : Part) (items : Vector ErrorItem 13) : Part :=
  { p with errors := { p.errors with items := items, alertLow := alertLevel items } }

/-- The first-error log filled, when it is empty (R181 step 2, R182). -/
def Part.logFirst (p : Part) (k : ErrorKind) (src : ErrorSource) : Part :=
  if p.errors.log = none then { p with errors := { p.errors with log := some ⟨k, src, p.tick⟩ } }
  else p

/-- A raise of an error kind (R181): it counts; unmasked and with a clear status it may fill the log and,
at ALERT severity, builds an ERROR_NOTICE; then the status is set and ALERTn updated. -/
def raise (k : ErrorKind) (src : ErrorSource) (p : Part) : Part :=
  let item := look p.errors.items k.index
  let fresh := !item.mask && !item.status
  let p1 := if fresh then p.logFirst k src else p
  let p2 := if fresh && decide (item.severity = .alert) then notice (.errorNotice k p.tick) p1 else p1
  p2.setErrorItems
    (put p2.errors.items k.index { item with status := true, counter := bump item.counter })

/-- A source with nothing to supply but the tick (R182). -/
def noSource : ErrorSource := ⟨none, none, none, none, []⟩

/-! ### The stroke table: access -/

/-- An entry of the stroke table. -/
def Part.entry (p : Part) (i : Fin 48) : Entry := look p.assembler.entries i

def Part.setEntry (p : Part) (i : Fin 48) (e : Entry) : Part :=
  { p with assembler := { p.assembler with entries := put p.assembler.entries i e } }

/-- The fields an occupied entry shares, absent for a FREE one (R89). -/
def Entry.core? : Entry → Option StrokeCore
  | .free => none
  | .opened c _ => some c
  | .ending c _ => some c

/-- An occupied entry with its shared fields changed. -/
def Entry.mapCore (f : StrokeCore → StrokeCore) : Entry → Entry
  | .free => .free
  | .opened c a => .opened (f c) a
  | .ending c e => .ending (f c) e

def Part.updateEntry (p : Part) (i : Fin 48) (f : StrokeCore → StrokeCore) : Part :=
  p.setEntry i ((p.entry i).mapCore f)

/-- An entry gains POINTS_LOST when it holds the stroke of a removed record (R137). -/
def Entry.losePointsOf (serial : Option Nat) (e : Entry) : Entry :=
  e.mapCore fun c => if some c.serial = serial then c.losePoints else c

/-- The stroke of a removed record gains POINTS_LOST when it still holds an entry (R137). -/
def Part.losePointsOf (p : Part) (serial : Option Nat) : Part :=
  { p with
    assembler :=
      { p.assembler with entries := p.assembler.entries.map (Entry.losePointsOf serial) } }

/-! ### The ink queues: joining and overflow -/

/-- A record joins a queue's tail, stamped with the queue's next sequence number and the current tick
(R135). -/
def InkQueue.push (q : InkQueue) (r : InkRecord) (serial : Option Nat) (now : Tick) : InkQueue :=
  { q with items := q.items ++ [⟨r, q.nextSeq, now, serial⟩], nextSeq := q.nextSeq + 1 }

/-- A record joins an ink queue (R136); one that joins the fan-out queue may be offered at once
(R150). -/
def joinInk (d : Dest) (r : InkRecord) (serial : Option Nat) (p : Part) : Part :=
  let p1 := p.setQueue d ((p.queue d).push r serial p.tick)
  match d with
  | .fanout => roomChoose p1
  | _ => p1

/-- A LAYER or RETRACT record joins a queue in the slot its room check found; at a queue without room,
which does not arise (R138), nothing happens. -/
def joinIfRoom (r : InkRecord) (p : Part) (d : Dest) : Part :=
  if p.hasRoom d then joinInk d r none p else p

/-- Whether a queued record is a POINTS record. -/
def QueueItem.isPoints (i : QueueItem) : Bool :=
  match i.record with
  | .points _ _ _ => true
  | _ => false

/-- The oldest POINTS record of a list, and the list without it. -/
def takeOldestPoints : List QueueItem → Option (QueueItem × List QueueItem)
  | [] => none
  | i :: rest =>
    if i.isPoints then some (i, rest)
    else (takeOldestPoints rest).map fun r => (r.1, i :: r.2)

/-- The oldest POINTS record eligible for removal, and the records left: the fan-out head under offer to
the bridge is not eligible (R137, R151). -/
def Part.takeEligible (p : Part) (d : Dest) : Option (QueueItem × List QueueItem) :=
  match d, p.egress.offer, (p.queue d).items with
  | .fanout, .fanout, head :: rest => (takeOldestPoints rest).map fun r => (r.1, head :: r.2)
  | _, _, items => takeOldestPoints items

/-- The QUEUE_OVERFLOW kind of a queue (R139). -/
def overflowKind : Dest → ErrorKind
  | .display => .overflowDisplay
  | .fanout => .overflowFanout
  | .record => .overflowRecord

/-- The port of a queue's link (R139). -/
def portOf : Dest → Port
  | .display => .display
  | .fanout => .room
  | .record => .record

/-- A queue raises its QUEUE_OVERFLOW error for a record of a seat's stroke (R139). -/
def raiseOverflow (d : Dest) (seat : Fin 72) (p : Part) : Part :=
  raise (overflowKind d) ⟨some (portOf d), none, none, some seat, []⟩ p

/-- A queue's counters changed (R139). -/
def Part.countQueue (p : Part) (d : Dest) (f : QueueCounters → QueueCounters) : Part :=
  p.setQueue d { p.queue d with counters := f (p.queue d).counters }

/-- The removal of an eligible POINTS record by DROP_OLDEST to make room for a record of a seat's stroke
(R137): the removed record's stroke gains POINTS_LOST, and the removal is counted and raised. -/
def dropOldest (d : Dest) (seat : Fin 72) (removed : QueueItem) (rest : List QueueItem) (p : Part) :
    Part :=
  let p1 := p.setQueue d { p.queue d with items := rest }
  let p2 := p1.countQueue d fun c => { c with oldestRemovals := bump c.oldestRemovals }
  raiseOverflow d seat (p2.losePointsOf removed.serial)

/-- A stroke's record is handed to a queue (R136, R137): it joins when there is a free slot, or when
DROP_OLDEST frees one; otherwise the queue does not take it, and nothing has changed. -/
def handInk (d : Dest) (r : InkRecord) (serial : Nat) (seat : Fin 72) (p : Part) : Bool × Part :=
  if p.hasRoom d then (true, joinInk d r (some serial) p)
  else
    match (p.queue d).policy, p.takeEligible d with
    | .dropOldest, some (removed, rest) =>
      (true, joinInk d r (some serial) (dropOldest d seat removed rest p))
    | _, _ => (false, p)

/-! ### Seats and layers: access -/

def Part.seat (p : Part) (s : Fin 72) : Seat := look p.seats s

def Part.setSeat (p : Part) (s : Fin 72) (v : Seat) : Part := { p with seats := put p.seats s v }

def Part.layer (p : Part) (l : Fin 8) : Layer := look p.layers l

def Part.setLayer (p : Part) (l : Fin 8) (v : Layer) : Part := { p with layers := put p.layers l v }

/-- A seat's active identity entry. -/
def Part.identity (p : Part) (s : Fin 72) : IdentityEntry := look p.active.identity s

/-- Whether a seat is a room seat, 0 to 63 (section 1). -/
def isRoomSeat (s : Fin 72) : Bool := decide (s.val < 64)

/-- A layer is congested while some queue among its mode's destinations holds at least its watermark
(R129). -/
def Part.congested (p : Part) (l : Fin 8) : Bool :=
  (p.layer l).mode.dests.toList.any p.atWatermark

/-! ### Occupancy of the stroke table -/

/-- How many entries satisfy a test. -/
def Part.countEntries (p : Part) (f : Entry → Bool) : Nat := p.assembler.entries.toList.countP f

def Entry.isOccupied (e : Entry) : Bool := e.core?.isSome

/-- Whether an entry is occupied by a room seat's stroke (R26). -/
def Entry.isRoomOccupied (e : Entry) : Bool :=
  match e.core? with
  | some c => isRoomSeat c.seat
  | none => false

/-- Whether an entry is an OPEN stroke of a layer (R115). -/
def Entry.isOpenOn (l : Fin 8) : Entry → Bool
  | .opened c _ => decide (c.layer = l)
  | _ => false

/-- Whether an entry is an ENDING stroke of a layer (R131). -/
def Entry.isEndingOn (l : Fin 8) : Entry → Bool
  | .ending c _ => decide (c.layer = l)
  | _ => false

end Sys2Proof.Machine
end

