-- ==== Sys2Proof/Machine/Conditioning.lean ====
section
/-! DEFINITION. The conditioning unit: snapshots, the coordinate transform, pressure and width, and the hover
baseline estimator (chapter 4). -/

namespace Sys2Proof.Machine

/-! ### Snapshots -/

/-- The calibration snapshot of a set (R53). -/
def StoredSet.snapshot (s : StoredSet) : CalibrationSnapshot :=
  ⟨s.offsetX, s.offsetY, s.gainX, s.gainY, s.baseline⟩

/-- A room seat's bounds on one axis, from the stored base, the exponent and the canvas extent (R54). -/
def roomBounds (base exponent extent : Nat) : AxisBounds :=
  let lo := min base (extent - 1)
  ⟨base, lo, max lo (min (base + 2 ^ exponent) extent - 1)⟩

/-- A board seat's bounds on one axis: the whole canvas (R54). -/
def boardBounds (extent : Nat) : AxisBounds := ⟨0, 0, extent - 1⟩

/-- The window snapshot of a seat's stroke, x then y (R54). An enabled room entry always has a window
(R14); a room entry without one, which no run enables, is given the whole canvas. -/
def windowBounds (seat : Fin 72) (w : Option Window) (canvasWidth canvasHeight : Nat) :
    AxisBounds × AxisBounds :=
  match isRoomSeat seat, w with
  | true, some w =>
    (roomBounds w.baseX w.exponentX canvasWidth, roomBounds w.baseY w.exponentY canvasHeight)
  | _, _ => (boardBounds canvasWidth, boardBounds canvasHeight)

/-! ### The coordinate transform -/

/-- The scaled coordinate: floor(((raw − offset) × gain + 8192) / 16384) (R55). -/
def scale (raw : Nat) (offset : Int) (gain : Nat) : Int :=
  (((raw : Int) - offset) * (gain : Int) + 8192) / 16384

/-- The translated coordinate clamped to the bounds, and whether the clamp changed it (R56). -/
def clampAxis (b : AxisBounds) (scaled : Int) : Nat × Bool :=
  let c := (b.origin : Int) + scaled
  if c < (b.lo : Int) then (b.lo, true)
  else if c > (b.hi : Int) then (b.hi, true)
  else (c.toNat, false)

/-! ### Pressure and width -/

/-- The pressure above the baseline (R58). -/
def pressureAbove (raw baseline : Nat) : Nat := raw - baseline

/-- The width of a pressure above the baseline, interpolated in a width table (R58, R59). -/
def widthOf (table : Vector Nat 16) (pressure : Nat) : Nat :=
  let i := pressure / 256
  let f := pressure % 256
  if h : i < 15 then
    let w0 := look table ⟨i, by omega⟩
    let w1 := look table ⟨i + 1, by omega⟩
    ((w0 : Int) + (((w1 : Int) - (w0 : Int)) * (f : Int) + 128) / 256).toNat
  else look table 15

/-- The index of a tool's width table. -/
def toolIndex : Tool → Fin 4
  | .pen => 0 | .marker => 1 | .eraser => 2 | .finger => 3

/-- A tool's width table as it stands (R57). -/
def Part.widthTable (p : Part) (t : Tool) : Vector Nat 16 :=
  look p.conditioning.widths (toolIndex t)

/-- A sample's conditioned point, and whether either clamp changed it (R55, R56, R57, R60). -/
def condition (cal : CalibrationSnapshot) (bx bY : AxisBounds) (table : Vector Nat 16) (s : Sample) :
    Point × Bool :=
  let x := clampAxis bx (scale s.rawX cal.offsetX cal.gainX)
  let y := clampAxis bY (scale s.rawY cal.offsetY cal.gainY)
  (⟨x.1, y.1, widthOf table (pressureAbove s.pressure cal.baseline)⟩, x.2 || y.2)

/-! ### The hover baseline estimator -/

/-- The estimator window in samples (R61). -/
def StoredSet.window (s : StoredSet) : Nat := 64 * 2 ^ s.exponent

/-- A set's estimator emptied (R64). -/
def CalibrationSet.abort (c : CalibrationSet) : CalibrationSet := { c with sum := 0, count := 0 }

/-- The completion of a full window: the estimate is formed, applied as the baseline when auto-apply is
on, and the estimator is emptied (R63). -/
def CalibrationSet.complete (c : CalibrationSet) : CalibrationSet :=
  let e := (c.sum + c.count / 2) / c.count
  { c with
    stored := if c.stored.autoApply then { c.stored with baseline := e } else c.stored
    estimate := some e
    sum := 0
    count := 0 }

/-- A hover sample counted, with the completion of the window it fills (R62, R63). -/
def CalibrationSet.hover (c : CalibrationSet) (pressure : Nat) : CalibrationSet :=
  let c1 := { c with sum := c.sum + pressure, count := c.count + 1 }
  if c1.stored.window ≤ c1.count then c1.complete else c1

/-- A calibration set of the RAM copy. -/
def Part.calibrationSet (p : Part) (i : Fin 16) : CalibrationSet := look p.conditioning.sets i

def Part.setCalibrationSet (p : Part) (i : Fin 16) (c : CalibrationSet) : Part :=
  { p with conditioning := { p.conditioning with sets := put p.conditioning.sets i c } }

/-- A contact sample of a seat empties its set's window (R64). -/
def abortWindow (seat : Fin 72) (p : Part) : Part :=
  let i := (p.identity seat).calibrationSet
  p.setCalibrationSet i (p.calibrationSet i).abort

/-- A hover sample of a seat is counted in its set's window (R62). -/
def countHover (seat : Fin 72) (pressure : Nat) (p : Part) : Part :=
  let i := (p.identity seat).calibrationSet
  p.setCalibrationSet i ((p.calibrationSet i).hover pressure)

end Sys2Proof.Machine
end

