-- ==== Sys2Proof/Machine/Assembly.lean ====
section
/-! DEFINITION. Smoothing, decimation and the pending list of one OPEN stroke, and the interleaved point
order (chapter 5). -/

namespace Sys2Proof.Machine

def Point.xy (q : Point) : XY := ⟨q.x, q.y⟩

/-- The box of one point (R74). -/
def Box.of (q : Point) : Box := ⟨q.x, q.x, q.y, q.y⟩

/-- A box grown to include a point (R86). -/
def Box.grow (b : Box) (q : Point) : Box :=
  ⟨min b.minX q.x, max b.maxX q.x, min b.minY q.y, max b.maxY q.y⟩

/-- A point enters a window of `n` taps, pushing out the oldest when it is full (R73). -/
def enterWindow (n : Nat) (w : List XY) (q : XY) : List XY :=
  let w1 := w ++ [q]
  w1.drop (w1.length - n)

/-- The average over a window's current fill, rounded to nearest with a half up (R76). -/
def averageOf (l : List Nat) : Nat := (l.sum + l.length / 2) / l.length

/-- A stage's output (R76, R77). -/
def stageOutput (w : List XY) : XY := ⟨averageOf (w.map XY.x), averageOf (w.map XY.y)⟩

/-- The two windows after a conditioned point, and the smoothed point (R76, R77). -/
def smooth (a : Assembly) (q : Point) : List XY × List XY × XY :=
  let n := 2 ^ a.smoothing
  let w1 := enterWindow n a.stage1 q.xy
  let w2 := enterWindow n a.stage2 (stageOutput w1)
  (w1, w2, stageOutput w2)

/-- The assembly state an anchor seeds (R74), with the snapshots and the layer's filter parameters
(R53, R72). -/
def Assembly.start (cal : CalibrationSnapshot) (bounds : AxisBounds × AxisBounds) (mode : LayerMode)
    (anchor : Point) : Assembly where
  calibration := cal
  boundsX := bounds.1
  boundsY := bounds.2
  smoothing := mode.smoothing
  decimation := mode.decimation
  chop := mode.chop
  stage1 := [anchor.xy]
  stage2 := [anchor.xy]
  counter := 0
  lastEmitted := anchor
  lastContact := anchor
  pending := []

/-- A candidate compared with the last emitted point: set aside when equal in x and y, otherwise appended,
counted and boxed (R79). -/
def appendCandidate (q : Point) (c : StrokeCore) (a : Assembly) : StrokeCore × Assembly :=
  if q.x = a.lastEmitted.x ∧ q.y = a.lastEmitted.y then (c, a)
  else
    ({ c with count := bump c.count, box := c.box.grow q },
      { a with lastEmitted := q, pending := a.pending ++ [q] })

/-- Steps 2 to 5 of a contact sample of an OPEN stroke, from its conditioned point on (R75, R78). -/
def takePoint (q : Point) (c : StrokeCore) (a : Assembly) : StrokeCore × Assembly :=
  let s := smooth a q
  let a1 := { a with lastContact := q, stage1 := s.1, stage2 := s.2.1 }
  if a.decimation < a.counter + 1 then
    appendCandidate ⟨s.2.2.x, s.2.2.y, q.width⟩ c { a1 with counter := 0 }
  else (c, { a1 with counter := a.counter + 1 })

/-- The elements of a list at even positions. -/
def evens {α : Type} : List α → List α
  | [] => []
  | [a] => [a]
  | a :: _ :: rest => a :: evens rest

/-- The elements of a list at odd positions. -/
def odds {α : Type} : List α → List α
  | [] => []
  | [_] => []
  | _ :: b :: rest => b :: odds rest

/-- The interleaved order: even positions ascending, then odd positions ascending (R87). -/
def interleave {α : Type} (l : List α) : List α := evens l ++ odds l

/-- How a receiver restores the sequence: of `n` points sent, the first `h = (n + 1) / 2` stood at the even
positions and the others at the odd ones (R87). -/
def restorePosition (n k : Nat) : Nat :=
  let h := (n + 1) / 2
  if k < h then 2 * k else 2 * (k - h) + 1

end Sys2Proof.Machine
end

