-- ==== Sys2Proof/Machine/Layouts.lean ====
section
/-! DEFINITION. The byte layouts of everything the part sends: ink records, fan-out frames, replies and
notices (R177 to R179). -/

namespace Sys2Proof.Machine

/-! ### Ink records (R179) -/

/-- A point: x, y, width (R179). -/
def Point.bytes (q : Point) : List Byte := halfBytes q.x ++ halfBytes q.y ++ [byteOf q.width]

/-- The points of a POINTS record in the order its order field names (R88, R152). -/
def sentOrder (order : PointOrder) (pts : List Point) : List Point :=
  match order with
  | .sequential => pts
  | .interleaved => interleave pts

/-- An ink record as a link sends it (R179). -/
def InkRecord.bytes : InkRecord → List Byte
  | .strokeBegin id l seat tool colour isPrivate anchor tick =>
    [0x11] ++ halfBytes id ++ [byteOf l.val, byteOf seat.val, tool.code, byteOf colour.val,
      flagByte isPrivate] ++ anchor.bytes ++ be32 tick
  | .points id order pts =>
    [0x12] ++ halfBytes id ++ [order.code, byteOf pts.length]
      ++ (sentOrder order pts).flatMap Point.bytes
  | .strokeEnd id final reason flags count =>
    [0x13] ++ halfBytes id ++ final.bytes ++ [reason.code, flags.code] ++ halfBytes count
  | .retract id l => [0x14] ++ halfBytes id ++ [byteOf l.val]
  | .layer l event => [0x15, byteOf l.val, event.code]

/-- A record's frame on the display and record links: sequence number, record, check code (R178). -/
def recordFrame (i : QueueItem) : List Byte := sealFrame (be16 i.seq ++ i.record.bytes)

/-- A room link frame: the 8-byte header with the frame's length, what follows it, the check code
(R178). -/
def roomFrame (kind channel : Byte) (dest seq : Half) (rest : List Byte) : List Byte :=
  sealFrame ([kind, channel] ++ be16 dest ++ be16 seq ++ halfBytes (rest.length + 10) ++ rest)

/-- The broadcast address (R44, R152). -/
def broadcast : Half := 65535

/-- A fan-out record's frame: channel 1, the broadcast address (R152, R178). -/
def fanoutFrame (i : QueueItem) : List Byte := roomFrame 0x05 1 broadcast i.seq i.record.bytes

/-! ### Fields of reply bodies (R177) -/

def Box.bytes (b : Box) : List Byte :=
  halfBytes b.minX ++ halfBytes b.maxX ++ halfBytes b.minY ++ halfBytes b.maxY

def Window.bytes (w : Window) : List Byte :=
  halfBytes w.baseX ++ halfBytes w.baseY ++ [byteOf w.exponentX, byteOf w.exponentY]

/-- An identity entry's fields in the order of R17. -/
def IdentityEntry.bytes (e : IdentityEntry) : List Byte :=
  [flagByte e.enabled, e.role.code, byteOf e.calibrationSet.val, e.allowedLayers.code]
    ++ optionBytes 1 (fun c => [byteOf c.val]) e.colourOverride
    ++ optionBytes 1 (fun l => [byteOf l.val]) e.forcedLayer
    ++ optionBytes 2 be16 e.address ++ optionBytes 6 Window.bytes e.window

/-- A rule's fields in the order of R19; a layer match of ANY is 8 (R177). -/
def Rule.bytes (r : Rule) : List Byte :=
  [flagByte r.valid, byteOf r.low.val, byteOf r.high.val, r.roles.code, r.tools.code,
    byteOf ((r.layerMatch.map Fin.val).getD 8), r.action.code, byteOf r.target.val]

def StoredSet.bytes (s : StoredSet) : List Byte :=
  signedBytes s.offsetX ++ signedBytes s.offsetY ++ halfBytes s.gainX ++ halfBytes s.gainY
    ++ halfBytes s.baseline ++ [byteOf s.exponent, flagByte s.autoApply]

def widthBytes (w : Vector Nat 16) : List Byte := w.toList.map byteOf

/-- The image's fields, over which its check code is computed (R189). -/
def StoreImage.bytes (i : StoreImage) : List Byte :=
  i.sets.toList.flatMap StoredSet.bytes ++ i.widths.toList.flatMap widthBytes

def LayerMode.bytes (m : LayerMode) : List Byte :=
  [byteOf m.smoothing, byteOf m.decimation, byteOf m.chop, m.order.code, m.dests.code]

def LayerReport.bytes (r : LayerReport) : List Byte :=
  [r.state.code] ++ r.mode.bytes
    ++ [byteOf r.openCount, byteOf r.endingCount, flagByte r.congested, r.atWatermark.code]

def QueueCounters.bytes (c : QueueCounters) : List Byte :=
  halfBytes c.sent ++ halfBytes c.oldestRemovals ++ halfBytes c.beginDiscards
    ++ halfBytes c.pointsDiscards ++ halfBytes c.endWaits ++ halfBytes c.flushed

def QueueReport.bytes (q : QueueReport) : List Byte :=
  halfBytes q.level ++ halfBytes q.capacity ++ halfBytes q.watermark
    ++ [q.policy.code, flagByte q.atWatermark] ++ be16 q.nextSeq
    ++ optionBytes 6 (fun h => be16 h.1 ++ be32 h.2) q.head ++ [byteOf q.waitingLength]
    ++ optionBytes 1 (fun i => [byteOf i.val]) q.waitingHead ++ q.counters.bytes

/-- Which queue a frame under offer comes from: the reply queue 0, the fan-out queue 1 (R149, R177); without
an offer the field is absent (log entries 19 and 29). -/
def Offer.bytes : Offer → List Byte
  | .none => 0 :: absentBytes 1
  | .reply => [1, 0]
  | .fanout => [1, 1]

def QueuesReport.bytes (r : QueuesReport) : List Byte :=
  r.display.bytes ++ r.fanout.bytes ++ r.record.bytes ++ [byteOf r.credit, flagByte r.recorderReady,
    r.priority.code, flagByte r.bridgeReady] ++ r.offer.bytes ++ [byteOf r.replyLevel]

/-- An entry of READ_STROKES in the order of R112. DESIGN CHOICE: the fields that R112 gives for an ENDING entry
stand, without a presence byte, for such an entry only, and the state byte tells (log entry 31). -/
def StrokeReport.bytes (r : StrokeReport) : List Byte :=
  [byteOf r.index.val, if r.ending.isSome then 2 else 1] ++ halfBytes r.core.id
    ++ [byteOf r.core.seat.val, byteOf r.core.layer.val, r.core.tool.code, byteOf r.core.colour.val,
      flagByte r.core.isPrivate, r.core.dests.code, r.core.suppressed.code, r.delivered.code,
      r.core.flags.code]
    ++ be32 r.core.beginTick ++ halfBytes r.core.count ++ r.core.box.bytes
    ++ [byteOf r.pendingPoints]
    ++ match r.ending with
      | none => []
      | some (reason, tick, waits) => [reason.code] ++ be32 tick ++ [waits.code]

def LinkCounters.bytes (c : LinkCounters) : List Byte :=
  halfBytes c.checkDrops ++ halfBytes c.malformedDrops ++ halfBytes c.unknownSource
    ++ halfBytes c.inkTaken

def RefusalCounters.bytes (c : RefusalCounters) : List Byte :=
  halfBytes c.denied ++ halfBytes c.notAllowed ++ halfBytes c.layerNotOpen ++ halfBytes c.tableFull

def StrokeCounters.bytes (c : StrokeCounters) : List Byte :=
  halfBytes c.begun ++ halfBytes c.lifted ++ halfBytes c.abandoned ++ halfBytes c.revoked
    ++ halfBytes c.cancelled ++ halfBytes c.cleared ++ halfBytes c.endWaits ++ halfBytes c.lockoutDrops

def SeatReport.bytes (s : SeatReport) : List Byte :=
  halfBytes s.accepted ++ halfBytes s.missing ++ optionBytes 1 (fun l => [Lockout.code l]) s.lockout
    ++ [flagByte s.hasOpenStroke]

def CountersReport.bytes (r : CountersReport) : List Byte :=
  r.board.bytes ++ r.room.bytes ++ r.refusals.bytes ++ r.strokes.bytes
    ++ halfBytes r.historyOverrun ++ halfBytes r.noticesLost ++ listBytes SeatReport.bytes r.seats

/-- A summary's fields in the order of R157. -/
def Summary.bytes (s : Summary) : List Byte :=
  halfBytes s.id ++ [byteOf s.seat.val, byteOf s.layer.val, s.tool.code, byteOf s.colour.val]
    ++ s.box.bytes ++ halfBytes s.count ++ [s.reason.code, s.flags.code] ++ be32 s.beginTick
    ++ be32 s.endTick ++ [s.delivered.code, flagByte s.retracted]

/-- An error kind's items in the order of R184. DESIGN CHOICE: no rule codes a status; set is 1 and clear is
0, as R177 codes on and off, and not by the place in R180's list (log entry 30). -/
def ErrorItem.bytes (i : ErrorItem) : List Byte :=
  [flagByte i.status, flagByte i.mask, i.severity.code] ++ halfBytes i.counter

def kindByte (k : ErrorKind) : Byte := byteOf (ErrorKind.index k).val

/-- The first-error log's record in the order of R182. -/
def LogRecord.bytes (l : LogRecord) : List Byte :=
  [kindByte l.kind] ++ optionBytes 1 (fun q => [Port.code q]) l.source.port
    ++ optionBytes 1 (fun c => [byteOf c]) l.source.channel ++ optionBytes 2 be16 l.source.address
    ++ optionBytes 1 (fun s => [byteOf s.val]) l.source.seat ++ be32 l.tick
    ++ listBytes (fun b => [b]) l.source.header

/-- READ_ERRORS's body (R184): the log's value and the origin of a save stand only when there is one; ALERTn
low is coded 0. -/
def ErrorsReport.bytes (r : ErrorsReport) : List Byte :=
  r.items.toList.flatMap ErrorItem.bytes ++ [flagByte (!r.alertLow)]
    ++ (match r.log with
      | none => [0]
      | some l => 1 :: l.bytes)
    ++ (match r.save with
      | none => [0]
      | some o => [1, o.code])

def MonitorReport.bytes (m : MonitorReport) : List Byte :=
  [m.state.code, m.lastMark] ++ be32 m.lastPeriod ++ be32 m.minPeriod ++ be32 m.maxPeriod
    ++ halfBytes m.captures ++ halfBytes m.substitutes ++ [flagByte m.commitPending,
      byteOf m.countdown] ++ halfBytes m.frameTimeout ++ halfBytes m.idleTimeout ++ be32 m.tick

/-- A reply's body: the fields its owning rule names, in that order, encoded by R177 (R169). -/
def ReplyBody.bytes : ReplyBody → List Byte
  | .empty => []
  | .identity e => e.bytes
  | .rule r => r.bytes
  | .ruleRead r d n => r.bytes ++ [d.code, byteOf n.val]
  | .defaultAction n a => [byteOf n.val, a.code]
  | .page n => [byteOf n.val]
  | .skip k => [byteOf k]
  | .cancelled was k => [flagByte was, byteOf k]
  | .monitor m => m.bytes
  | .timing idle frame => halfBytes idle ++ halfBytes frame
  | .calibration s e => s.bytes ++ optionBytes 2 halfBytes e
  | .calibrationRead s e count window =>
    s.bytes ++ optionBytes 2 halfBytes e ++ halfBytes count ++ halfBytes window
  | .setList l => listBytes (fun i => [byteOf i.val]) l
  | .widthTable w => widthBytes w
  | .canvas w h => halfBytes w ++ halfBytes h
  | .layerMode m => m.bytes
  | .layerState l s => [byteOf l.val, s.code]
  | .absentLayer l s => [l, s]
  | .layerRoom l s d => [byteOf l.val, s.code, d.code]
  | .layerEnded l s n => [byteOf l.val, s.code, byteOf n]
  | .layerCleared l s n m => [byteOf l.val, s.code, byteOf n] ++ halfBytes m
  | .layers rows => rows.toList.flatMap LayerReport.bytes
  | .queueSettings w pol => halfBytes w ++ [pol.code]
  | .priority m => [m.code]
  | .flushed r s c => halfBytes r ++ [byteOf s, byteOf c]
  | .queues r => r.bytes
  | .strokes r =>
    [byteOf r.occupied, byteOf r.roomOccupied] ++ halfBytes r.nextId
      ++ listBytes StrokeReport.bytes r.entries ++ optionBytes 1 (fun i => [byteOf i.val]) r.resume
  | .counters r => r.bytes
  | .history l n u => listBytes Summary.bytes l ++ halfBytes n ++ halfBytes u
  | .undone id l d => halfBytes id ++ [byteOf l.val, d.code]
  | .lacking d => [d.code]
  | .errors r => r.bytes
  | .kindList l => listBytes (fun k => [byteOf k.val]) l
  | .errorMask k m => [byteOf k.val, flagByte m]
  | .errorSeverity k s => [byteOf k.val, s.code]

/-- A notice's kind code and body (R171, R178). -/
def Notice.bytes : Notice → List Byte
  | .restarted cause load => [0x01, cause.code, load.code]
  | .committed mark substitute => [0x02, mark, flagByte substitute]
  | .storeDone origin success => [0x03, origin.code, if success then 0 else 1]
  | .errorNotice kind tick => [0x04, kindByte kind] ++ be32 tick

/-- A reply queue frame as the bridge receives it: channel 0, to the requester or to the broadcast
address (R149, R178). -/
def ReplyItem.bytes (i : ReplyItem) : List Byte :=
  match i.frame with
  | .reply dest kind tag status body =>
    roomFrame 0x03 0 dest i.seq ([kind, tag, status.code] ++ body.bytes)
  | .notice n => roomFrame 0x04 0 broadcast i.seq n.bytes

/-- A frame leaves the part on a link. -/
def send (link : Link) (bytes : List Byte) (p : Part) : Part :=
  { p with sent := p.sent ++ [⟨link, bytes⟩] }

end Sys2Proof.Machine
end

