-- ==== Sys2Proof/Machine/Strokes.lean ====
section
/-! DEFINITION. The life of a stroke: id allocation, begin, contact samples, emission, end, completion into
the history list, and the service of waiting ENDs (chapters 5, 6, 8 and 9). -/

namespace Sys2Proof.Machine

/-! ### Stroke ids -/

/-- The id after an id: 65535 is followed by 1, skipping 0 (R92). -/
def nextIdAfter (v : Nat) : Nat := if 65535 ≤ v then 1 else v + 1

/-- The ids held by occupied entries and by summaries (R92). -/
def Part.heldIds (p : Part) : List Nat :=
  (p.assembler.entries.toList.filterMap Entry.core?).map StrokeCore.id
    ++ p.history.list.map Summary.id

/-- The first value not held, searched upward from a value (R92); `fuel` bounds the values examined. -/
def findId (held : List Nat) : Nat → Nat → Nat
  | 0, v => v
  | fuel + 1, v => if v ∈ held then findId held fuel (nextIdAfter v) else v

/-- The id the allocator gives next (R92). -/
def Part.allocatedId (p : Part) : Nat := findId p.heldIds Config.idSearch p.assembler.nextId

/-- The lowest-numbered FREE entry (R94). -/
def Part.lowestFree (p : Part) : Option (Fin 48) :=
  (indexes 48).find? fun i => !(p.entry i).isOccupied

/-! ### Records of a stroke -/

/-- The destinations a stroke's records go to: its set without its suppressed set (R81, R103). -/
def StrokeCore.targets (c : StrokeCore) : List Dest := (c.dests.minus c.suppressed).toList

/-- The order field of a POINTS copy: the layer mode's for FANOUT, SEQUENTIAL otherwise (R88). -/
def orderFor (fanoutOrder : PointOrder) : Dest → PointOrder
  | .fanout => fanoutOrder
  | _ => .sequential

/-- A BEGIN is handed to one queue; discarded, it suppresses the destination (R95, R138). -/
def handBegin (i : Fin 48) (c : StrokeCore) (r : InkRecord) (p : Part) (d : Dest) : Part :=
  match handInk d r c.serial c.seat p with
  | (true, p1) => p1
  | (false, p1) =>
    raiseOverflow d c.seat
      ((p1.updateEntry i fun c => { c with suppressed := c.suppressed.insert d }).countQueue d
        fun k => { k with beginDiscards := bump k.beginDiscards })

/-- A POINTS record is handed to one queue; discarded, it sets POINTS_LOST (R81, R138). -/
def handPoints (i : Fin 48) (c : StrokeCore) (order : PointOrder) (pts : List Point) (p : Part)
    (d : Dest) : Part :=
  match handInk d (.points c.id (orderFor order d) pts) c.serial c.seat p with
  | (true, p1) => p1
  | (false, p1) =>
    raiseOverflow d c.seat
      ((p1.updateEntry i StrokeCore.losePoints).countQueue d
        fun k => { k with pointsDiscards := bump k.pointsDiscards })

/-- The emission of an OPEN stroke's pending list as one POINTS record, when it is not empty (R81). -/
def emitPoints (i : Fin 48) (p : Part) : Part :=
  match p.entry i with
  | .opened c a =>
    match a.pending with
    | [] => p
    | _ :: _ =>
      c.targets.foldl (handPoints i c (p.layer c.layer).mode.order a.pending)
        (p.setEntry i (.opened c { a with pending := [] }))
  | _ => p

/-! ### The history list -/

/-- A summary appended unread at the newest end, the oldest removed first when the list is full; an unread
one removed is counted as overrun (R158). -/
def History.append (h : History) (s : Summary) : History :=
  if Config.historyLimit ≤ h.list.length then
    if h.list.length ≤ h.unread then
      ⟨h.list.drop 1 ++ [s], h.unread - 1 + 1, bump h.overrun⟩
    else ⟨h.list.drop 1 ++ [s], h.unread + 1, h.overrun⟩
  else ⟨h.list ++ [s], h.unread + 1, h.overrun⟩

/-- The summary a stroke leaves (R105, R157). -/
def summaryOf (c : StrokeCore) (e : Ending) : Summary :=
  ⟨c.id, c.seat, c.layer, c.tool, c.colour, c.box, c.count, e.reason, c.flags, c.beginTick, e.endTick,
    e.delivered, false⟩

/-- The completion of a stroke: its summary enters the history list and its entry becomes FREE
(R105). -/
def complete (i : Fin 48) (p : Part) : Part :=
  match p.entry i with
  | .ending c e => { p.setEntry i .free with history := p.history.append (summaryOf c e) }
  | _ => p

/-- An ENDING entry completes when its END waits on no queue (R104, R105). -/
def completeIfDone (i : Fin 48) (p : Part) : Part :=
  match p.entry i with
  | .ending _ e => if e.waitsOn.isEmpty then complete i p else p
  | _ => p

/-! ### Ending a stroke -/

/-- The layer controller is told that an OPEN stroke of a layer has ended (R115). -/
def Layer.strokeEnded (y : Layer) : Layer :=
  { y with
    openCount := y.openCount - 1
    state := if y.state = .draining ∧ y.openCount - 1 = 0 then .closed else y.state }

/-- The counter of strokes ended with a reason (R111). -/
def StrokeCounters.countEnd (c : StrokeCounters) : EndReason → StrokeCounters
  | .lifted => { c with lifted := bump c.lifted }
  | .abandoned => { c with abandoned := bump c.abandoned }
  | .revoked => { c with revoked := bump c.revoked }
  | .cancelled => { c with cancelled := bump c.cancelled }
  | .cleared => { c with cleared := bump c.cleared }

def Part.countStrokes (p : Part) (f : StrokeCounters → StrokeCounters) : Part :=
  { p with assembler := { p.assembler with counters := f p.assembler.counters } }

/-- An ENDING entry's ending state changed. -/
def Part.updateEnding (p : Part) (i : Fin 48) (f : Ending → Ending) : Part :=
  match p.entry i with
  | .ending c e => p.setEntry i (.ending c (f e))
  | _ => p

/-- The END of an entry is handed to one queue: it is delivered, or it waits there (R103, R138). -/
def handEnd (i : Fin 48) (c : StrokeCore) (r : InkRecord) (p : Part) (d : Dest) : Part :=
  match handInk d r c.serial c.seat p with
  | (true, p1) => p1.updateEnding i fun e => { e with delivered := e.delivered.insert d }
  | (false, p1) =>
    let p2 := p1.updateEnding i fun e => { e with waitsOn := e.waitsOn.insert d }
    let p3 := p2.setQueue d { p2.queue d with waiting := (p2.queue d).waiting ++ [i] }
    raiseOverflow d c.seat (p3.countQueue d fun k => { k with endWaits := bump k.endWaits })

/-- Step 6 of an end (R101, R103): the END is offered to every destination; the stroke completes, or its
entry stays ENDING and the END-wait counter advances. -/
def deliverEnd (i : Fin 48) (c : StrokeCore) (r : InkRecord) (p : Part) : Part :=
  let p1 := c.targets.foldl (handEnd i c r) p
  match p1.entry i with
  | .ending _ e =>
    if e.waitsOn.isEmpty then complete i p1
    else p1.countStrokes fun k => { k with endWaits := bump k.endWaits }
  | _ => p1

/-- Steps 4 to 7 of an end, for the entry as step 3 left it (R101, R102). -/
def closeStroke (i : Fin 48) (reason : EndReason) (c : StrokeCore) (a : Assembly) (p : Part) : Part :=
  let c1 := { c with count := bump c.count, box := c.box.grow a.lastContact }
  let r := InkRecord.strokeEnd c1.id a.lastContact reason c1.flags c1.count
  let p1 := p.setLayer c1.layer (p.layer c1.layer).strokeEnded
  let p2 := p1.setEntry i (.ending c1 ⟨reason, p.tick, r, DestSet.empty, DestSet.empty⟩)
  (deliverEnd i c1 r p2).countStrokes fun k => k.countEnd reason

/-- The end of an OPEN stroke for a reason, in the steps of R101. An entry that is not OPEN is left as it
is (R100). -/
def endStroke (reason : EndReason) (p : Part) (i : Fin 48) : Part :=
  match p.entry i with
  | .opened c _ =>
    let p1 := p.setSeat c.seat { p.seat c.seat with openEntry := none }
    let p2 := emitPoints i p1
    match p2.entry i with
    | .opened c2 a2 => closeStroke i reason c2 a2 p2
    | _ => p2
  | _ => p

/-- The OPEN entries that satisfy a test on their shared fields, in ascending index (R82, R110). -/
def Part.openEntries (p : Part) (f : StrokeCore → Bool) : List (Fin 48) :=
  (indexes 48).filter fun i =>
    match p.entry i with
    | .opened c _ => f c
    | _ => false

/-! ### Departures from an ink queue -/

/-- The slot a departure frees goes to the first waiting END of the queue (R140, R104). -/
def serveWaiting (d : Dest) (p : Part) : Part :=
  match (p.queue d).waiting with
  | [] => p
  | i :: rest =>
    let p1 := p.setQueue d { p.queue d with waiting := rest }
    match p1.entry i with
    | .ending c e =>
      completeIfDone i
        ((joinInk d e.record (some c.serial) p1).updateEnding i fun e =>
          { e with waitsOn := e.waitsOn.erase d, delivered := e.delivered.insert d })
    | _ => p1

/-- The head record departs an ink queue onto its link (R140); `frame` gives the bytes it is sent as. -/
def depart (d : Dest) (link : Link) (frame : QueueItem → List Byte) (p : Part) : Part :=
  match (p.queue d).items with
  | [] => p
  | head :: rest =>
    let p1 := p.setQueue d { p.queue d with items := rest }
    let p2 := p1.countQueue d fun k => { k with sent := bump k.sent }
    serveWaiting d (send link (frame head) p2)

/-! ### Beginning a stroke and taking its samples -/

/-- The stroke an admitted touch-down begins, before its BEGIN is handed out: shared fields and assembly
state (R94 steps 1 to 7). -/
def newStroke (seat : Fin 72) (s : Sample) (layer : Fin 8) (isPrivate : Bool) (p : Part) :
    StrokeCore × Assembly :=
  let ident := p.identity seat
  let mode := (p.layer layer).mode
  let cal := (p.calibrationSet ident.calibrationSet).stored.snapshot
  let bounds :=
    windowBounds seat ident.window p.conditioning.canvasWidth p.conditioning.canvasHeight
  let q := condition cal bounds.1 bounds.2 (p.widthTable s.tool) s
  let core : StrokeCore :=
    { serial := p.assembler.nextSerial
      id := p.allocatedId
      seat := seat
      layer := layer
      tool := s.tool
      colour := ident.colourOverride.getD s.colour
      isPrivate := isPrivate
      dests := if isPrivate then mode.dests.erase .fanout else mode.dests
      suppressed := DestSet.empty
      flags := ⟨q.2, false, false⟩
      beginTick := p.tick
      count := 1
      box := Box.of q.1 }
  (core, Assembly.start cal bounds mode q.1)

/-- The BEGIN record of a stroke (R95). -/
def beginRecord (c : StrokeCore) (a : Assembly) : InkRecord :=
  .strokeBegin c.id c.layer c.seat c.tool c.colour c.isPrivate a.lastEmitted c.beginTick

/-- The begin of a stroke at an entry, with its shared fields and assembly state formed (R94 steps 8 to 10,
R115). -/
def placeStroke (i : Fin 48) (c : StrokeCore) (a : Assembly) (p : Part) : Part :=
  let p1 := p.setEntry i (.opened c a)
  let p2 := { p1 with
    assembler :=
      { p1.assembler with nextId := nextIdAfter c.id, nextSerial := p1.assembler.nextSerial + 1 } }
  let p3 := p2.setSeat c.seat { p2.seat c.seat with openEntry := some i }
  let y := p3.layer c.layer
  let p4 := p3.setLayer c.layer { y with openCount := y.openCount + 1 }
  let p5 := c.dests.toList.foldl (handBegin i c (beginRecord c a)) p4
  p5.countStrokes fun k => { k with begun := bump k.begun }

/-- An admitted touch-down begins a stroke (R94). Admission has found room, so that a FREE entry
exists. -/
def beginStroke (seat : Fin 72) (s : Sample) (layer : Fin 8) (isPrivate : Bool) (p : Part) : Part :=
  match p.lowestFree with
  | some i =>
    let n := newStroke seat s layer isPrivate p
    placeStroke i n.1 n.2 p
  | none => p

/-- A contact sample of an OPEN stroke (R75): conditioned, smoothed, decimated, possibly appended, and a
POINTS record emitted at chop length (R80). -/
def strokeSample (i : Fin 48) (s : Sample) (p : Part) : Part :=
  match p.entry i with
  | .opened c a =>
    let q := condition a.calibration a.boundsX a.boundsY (p.widthTable c.tool) s
    let n := takePoint q.1 (c.markClipped q.2) a
    let p1 := p.setEntry i (.opened n.1 n.2)
    if n.2.chop ≤ n.2.pending.length then emitPoints i p1 else p1
  | _ => p

end Sys2Proof.Machine
end

