-- ==== Sys2Proof/Machine/Admission.lean ====
section
/-! DEFINITION. The admission of a touch-down (chapter 2), the handling of one sample at a seat (R93, R97,
R98), and the seat's quiet expiry (R99). -/

namespace Sys2Proof.Machine

/-- Whether a rule fits a touch-down (R19). -/
def Rule.fits (r : Rule) (seat : Fin 72) (role : Role) (tool : Tool) (target : Fin 8) : Bool :=
  r.valid && decide (r.low ≤ seat) && decide (seat ≤ r.high) && r.roles.has role && r.tools.has tool
    && (match r.layerMatch with
      | none => true
      | some l => decide (l = target))

/-- A default action as a rule's action (R22). -/
def defaultToAction : DefaultAction → Action
  | .admitted => .admitted
  | .deny => .deny

/-- The deciding action and the layer a REDIRECT would lead to: the first rule of the active page that
fits, in index order, or the page's default (R22). -/
def decideAction (t : Tables) (seat : Fin 72) (role : Role) (tool : Tool) (target : Fin 8) :
    Action × Fin 8 :=
  match (look t.pages t.page).toList.find? fun r => r.fits seat role tool target with
  | some r => (r.action, r.target)
  | none => (defaultToAction (look t.defaults t.page), target)

/-- The target layer of a touch-down: the forced layer, or the one the sample requests (R21). -/
def IdentityEntry.targetLayer (e : IdentityEntry) (requested : Fin 8) : Fin 8 :=
  e.forcedLayer.getD requested

/-- Whether the stroke table has room for a seat (R26, R90). -/
def Part.tableRoom (p : Part) (seat : Fin 72) : Bool :=
  decide (p.countEntries Entry.isOccupied < Config.entryLimit)
    && (!isRoomSeat seat
      || decide (p.countEntries Entry.isRoomOccupied < Config.roomEntryLimit))

/-- The checks on a chosen layer: allowed, OPEN, room in the table, in that order (R24, R25, R26). -/
def checkLayer (p : Part) (seat : Fin 72) (layer : Fin 8) (isPrivate : Bool) :
    Except Lockout (Fin 8 × Bool) :=
  if (p.identity seat).allowedLayers.has layer = false then .error .notAllowed
  else if (p.layer layer).state ≠ .opened then .error .layerNotOpen
  else if p.tableRoom seat = false then .error .tableFull
  else .ok (layer, isPrivate)

/-- The evaluation of a touch-down: the chosen layer and the private flag, or the reason of the refusal
(R20 to R27). -/
def evaluate (p : Part) (seat : Fin 72) (s : Sample) : Except Lockout (Fin 8 × Bool) :=
  let ident := p.identity seat
  let target := ident.targetLayer s.layer
  match decideAction p.active seat ident.role s.tool target with
  | (.deny, _) => .error .denied
  | (.redirect, l) => checkLayer p seat l false
  | (.deliverPrivately, _) => checkLayer p seat target true
  | (.admitted, _) => checkLayer p seat target false

/-- The refusal counter of a reason advanced (R28). -/
def RefusalCounters.count (c : RefusalCounters) : Lockout → RefusalCounters
  | .denied => { c with denied := bump c.denied }
  | .notAllowed => { c with notAllowed := bump c.notAllowed }
  | .layerNotOpen => { c with layerNotOpen := bump c.layerNotOpen }
  | .tableFull => { c with tableFull := bump c.tableFull }

/-- A refused touch-down: lockout and counter, and for TABLE_FULL the error, raised without header bytes
(R26, R28). -/
def refuseTouch (seat : Fin 72) (reason : Lockout) (src : ErrorSource) (p : Part) : Part :=
  let p1 := p.setSeat seat { p.seat seat with lockout := some reason }
  let p2 := { p1 with refusals := p1.refusals.count reason }
  match reason with
  | .tableFull => raise .tableFull { src with seat := some seat, header := [] } p2
  | _ => p2

/-- A touch-down: evaluated, and begun or refused (R93, R94, R28). -/
def touchDown (seat : Fin 72) (s : Sample) (src : ErrorSource) (p : Part) : Part :=
  match evaluate p seat s with
  | .ok (layer, isPrivate) => beginStroke seat s layer isPrivate p
  | .error reason => refuseTouch seat reason src p

/-- A contact sample at a seat, by the seat's state (R93); in every case it empties the window of the
seat's calibration set (R64). -/
def contactSample (seat : Fin 72) (s : Sample) (src : ErrorSource) (p : Part) : Part :=
  let p1 := abortWindow seat p
  match (p1.seat seat).openEntry, (p1.seat seat).lockout with
  | some i, _ => strokeSample i s p1
  | none, some _ => p1.countStrokes fun k => { k with lockoutDrops := bump k.lockoutDrops }
  | none, none => touchDown seat s src p1

/-- A seat's OPEN stroke, if any, ends for a reason (R98, R99). -/
def endSeatStroke (seat : Fin 72) (reason : EndReason) (p : Part) : Part :=
  match (p.seat seat).openEntry with
  | some i => endStroke reason p i
  | none => p

/-- A seat's lockout cleared (R98, R99). -/
def clearLockout (seat : Fin 72) (p : Part) : Part :=
  p.setSeat seat { p.seat seat with lockout := none }

/-- A non-contact sample at a seat (R98), with the estimator's count of a hover sample (R62). -/
def liftSample (seat : Fin 72) (s : Sample) (p : Part) : Part :=
  let p1 := clearLockout seat (endSeatStroke seat .lifted p)
  if s.hover then countHover seat s.pressure p1 else p1

/-- One sample handed on for a seat (R9). -/
def handleSample (seat : Fin 72) (src : ErrorSource) (p : Part) (s : Sample) : Part :=
  if s.contact then contactSample seat s src p else liftSample seat s p

/-- Whether a seat's quiet deadline is armed and reached (R10, R33). -/
def Part.quietDue (p : Part) (seat : Fin 72) : Bool :=
  match (p.seat seat).quiet with
  | some interval => reached p.tick (p.seat seat).lastTick interval
  | none => false

/-- A seat's quiet expiry: the expected sequence becomes absent, the deadline is disarmed, an OPEN stroke
ends ABANDONED and the lockout is cleared (R10, R99). -/
def quietExpire (seat : Fin 72) (p : Part) : Part :=
  let p1 := p.setSeat seat { p.seat seat with expected := none, quiet := none }
  clearLockout seat (endSeatStroke seat .abandoned p1)

end Sys2Proof.Machine
end

