-- ==== Sys2Proof/Machine/Egress.lean ====
section
/-! DEFINITION. The egress schedulers: departures onto the display and record links, acceptance by the
bridge, and what every event ends with (chapter 8); then the commands of the links' output side. -/

namespace Sys2Proof.Machine

/-- The display egress sends the head record when the queue holds one, the balance is at least 1 and the
link is idle (R146). -/
def displayPump (p : Part) : Part :=
  if p.queues.display.items ≠ [] ∧ 1 ≤ p.egress.credit ∧ p.egress.displayBusy = false then
    depart .display .display recordFrame
      { p with egress := { p.egress with credit := p.egress.credit - 1, displayBusy := true } }
  else p

/-- The record egress sends the head record when the queue holds one, the ready line is asserted and the
link is idle (R148). -/
def recordPump (p : Part) : Part :=
  if p.queues.record.items ≠ [] ∧ p.egress.recorderReady = true ∧ p.egress.recordBusy = false then
    depart .record .record recordFrame { p with egress := { p.egress with recordBusy := true } }
  else p

/-- What follows every event outside a reset: the departures that its effects allow, and the room egress
choice (R146, R148, R150). Held in a reset the part sends nothing (R187). -/
def settle (p : Part) : Part :=
  if p.inReset then p else roomChoose (recordPump (displayPump p))

/-- An event that the part takes outside a reset only (R187), with what follows it. -/
def event (f : Part → Part) (s : State) : Host.Outcome State Fault Refusal :=
  .next { s with part := if s.part.inReset then s.part else settle (f s.part) }

/-- DISPLAY_TRANSMIT_END: the display egress returns to idle (R146). -/
def execDisplayTransmitEnd (s : State) : Host.Outcome State Fault Refusal :=
  event (fun p => { p with egress := { p.egress with displayBusy := false } }) s

/-- RECORD_TRANSMIT_END: the record egress returns to idle (R148). -/
def execRecordTransmitEnd (s : State) : Host.Outcome State Fault Refusal :=
  event (fun p => { p with egress := { p.egress with recordBusy := false } }) s

/-- RECORD_READY_CHANGE: the ready line's level, which the part follows even in a reset (R148). -/
def execRecordReadyChange (asserted : Bool) (s : State) : Host.Outcome State Fault Refusal :=
  .next
    { s with
      part :=
        settle { s.part with egress := { s.part.egress with recorderReady := asserted } } }

/-- The bridge's signal takes a level; falling, it withdraws the frame under offer (R151). -/
def setBridgeReady (ready : Bool) (p : Part) : Part :=
  { p with
    egress :=
      { p.egress with
        bridgeReady := ready
        offer := if ready then p.egress.offer else .none } }

/-- BRIDGE_READY_CHANGE (R151), a level the part follows even in a reset (R149). -/
def execBridgeReadyChange (ready : Bool) (s : State) : Host.Outcome State Fault Refusal :=
  .next { s with part := settle (setBridgeReady ready s.part) }

/-- The bridge accepts the reply under offer: it leaves the reply queue on the room link (R149, R151). -/
def acceptReply (p : Part) : Part :=
  match p.agent.replies with
  | [] => p
  | head :: rest => send .room head.bytes { p with agent := { p.agent with replies := rest } }

/-- The bridge accepts the frame under offer, which departs its queue; then a new choice is made (R151,
R152). Without an offer there is nothing to accept. -/
def bridgeAccept (p : Part) : Part :=
  match p.egress.offer with
  | .none => p
  | .reply => roomChoose ((acceptReply p).setOffer .none)
  | .fanout => roomChoose ((depart .fanout .room fanoutFrame p).setOffer .none)

/-- BRIDGE_ACCEPT (R151). -/
def execBridgeAccept (s : State) : Host.Outcome State Fault Refusal := event bridgeAccept s

end Sys2Proof.Machine
end

