-- ==== Sys2Proof/Machine/Marks.lean ====
section
/-! DEFINITION. Frame marks and the staged commit (chapter 3), and the frames of the display link
(R145, R147, R176); then their commands. -/

namespace Sys2Proof.Machine

/-! ### The point flush -/

/-- One entry of a frame-mark flush: its pending points are emitted unless its layer is congested; a
layer's congestion is judged once, at its first entry with points (R82, R130). -/
def flushEntry (acc : Part × Vector (Option Bool) 8) (i : Fin 48) : Part × Vector (Option Bool) 8 :=
  match acc.1.entry i with
  | .opened c a =>
    if a.pending = [] then acc
    else
      let congested := (look acc.2 c.layer).getD (acc.1.congested c.layer)
      let judged := put acc.2 c.layer (some congested)
      if congested then (acc.1, judged) else (emitPoints i acc.1, judged)
  | _ => acc

/-- The frame-mark flush, in ascending entry index (R82). -/
def flushPoints (p : Part) : Part := ((indexes 48).foldl flushEntry (p, fill 8 none)).1

/-! ### The commit -/

/-- Whether a commit takes a seat's entry from enabled to disabled (R43). -/
def revokes (old new : Tables) (seat : Fin 72) : Bool :=
  (look old.identity seat).enabled && !(look new.identity seat).enabled

/-- Whether a commit makes a seat's expected sequence absent: a room seat whose address differs, or a seat
that goes from disabled to enabled (R11). -/
def resequences (old new : Tables) (seat : Fin 72) : Bool :=
  let o := look old.identity seat
  let n := look new.identity seat
  (isRoomSeat seat && decide (o.address ≠ n.address)) || (!o.enabled && n.enabled)

/-- The per-seat ingress state adjusted after a commit (R11). -/
def adjustSeats (old new : Tables) (seats : Vector Seat 72) : Vector Seat 72 :=
  Vector.ofFn fun i =>
    if resequences old new i then { look seats i with expected := none } else look seats i

/-- A commit applied at a mark (R43, R44): the staged copies become active, newly disabled seats' strokes
end REVOKED in ascending entry index (R110), ingress state is adjusted, and COMMITTED is built. -/
def applyCommit (mark : Byte) (substitute : Bool) (p : Part) : Part :=
  let old := p.active
  let p1 := { p with active := p.staged, staging := ⟨false, 0⟩ }
  let p2 := (p1.openEntries fun c => revokes old p1.active c.seat).foldl (endStroke .revoked) p1
  let p3 := { p2 with seats := adjustSeats old p2.active p2.seats }
  notice (.committed mark substitute) p3

/-- The countdown of a pending commit stepped (R42). -/
def stepCountdown (p : Part) : Part :=
  if p.staging.pending then
    { p with staging := { p.staging with countdown := p.staging.countdown - 1 } }
  else p

/-- The effects of a mark, real or substitute (R39, R42). When the mark applies a commit, which of the
commit and the flush is taken first is free. -/
def markEffects (mark : Byte) (substitute : Bool) (p : Part) : Part :=
  if p.staging.pending = true ∧ p.staging.countdown = 0 then
    let p1 := { p with freeDraws := p.freeDraws + 1 }
    if Config.commitFirst p.freeDraws then flushPoints (applyCommit mark substitute p1)
    else applyCommit mark substitute (flushPoints p1)
  else flushPoints (stepCountdown p)

/-! ### The frame monitor -/

/-- The frame deadline armed at the current tick with the frame timeout now set (R35, R37). -/
def Part.frameDeadline (p : Part) : Option Deadline := some ⟨p.tick, p.timing.frameTimeout⟩

/-- The period captured by a real mark, when an earlier one was taken (R37). -/
def Monitor.capture (m : Monitor) (now : Tick) : Monitor :=
  match m.lastRealTick with
  | none => m
  | some t =>
    let period := now - t
    { m with
      lastPeriod := period
      minPeriod := if m.captures = 0 then period else if period < m.minPeriod then period else m.minPeriod
      maxPeriod := if m.captures = 0 then period else if m.maxPeriod < period then period else m.maxPeriod
      captures := bump m.captures }

/-- A real mark taken by the frame monitor (R37). -/
def realMark (number : Byte) (p : Part) : Part :=
  let m := p.monitor.capture p.tick
  markEffects number false
    { p with
      monitor :=
        { m with
          state := .locked
          lastMark := number
          lastRealTick := some p.tick
          deadline := p.frameDeadline } }

/-- Whether the frame deadline is armed and reached (R33, R38). -/
def Part.frameDue (p : Part) : Bool :=
  match p.monitor.deadline with
  | some d => reached p.tick d.armed d.interval
  | none => false

/-- What an expiry does to the monitor's state: LOCKED becomes LOST, with FRAME_MARK_LOST raised (R38). -/
def loseMark (p : Part) : Part :=
  match p.monitor.state with
  | .locked =>
    raise .frameMarkLost { noSource with port := some .display }
      { p with monitor := { p.monitor with state := .lost } }
  | _ => p

/-- A substitute mark (R38). -/
def substituteMark (p : Part) : Part :=
  let p1 := loseMark p
  markEffects 0 true
    { p1 with
      monitor :=
        { p1.monitor with
          substitutes := bump p1.monitor.substitutes
          deadline := p1.frameDeadline } }

/-! ### The display link's inward frames -/

/-- A credit grant taken (R145). -/
def grantCredit (count : Byte) (p : Part) : Part :=
  let sum := p.egress.credit + count.toNat
  if Config.creditMax < sum then
    raise .creditOverrun { noSource with port := some .display }
      { p with egress := { p.egress with credit := Config.creditMax } }
  else { p with egress := { p.egress with credit := sum } }

/-- What the display link supplies to the first-error log for a frame: its first bytes, up to 8 (R37,
R147). -/
def displaySource (frame : List Byte) : ErrorSource :=
  { noSource with port := some .display, header := frame.take 8 }

/-- The kinds of frame the display link tells apart once the check code has passed (R147, R176). -/
inductive DisplayForm where
  | mark (number : Byte)
  | grant (count : Byte)
  | other
  deriving DecidableEq, Repr

def displayForm : List Byte → DisplayForm
  | [kind, value, _, _] =>
    if kind = 0x21 then .mark value else if kind = 0x22 then .grant value else .other
  | _ => .other

/-- A frame taken on the display link (R36, R37, R145, R147): during LOADING only grants act, and nothing
is raised for a failing or unknown frame. -/
def takeDisplayFrame (frame : List Byte) (p : Part) : Part :=
  if codeMatches frame then
    match displayForm frame with
    | .mark number => if p.isLoading then p else realMark number p
    | .grant count => grantCredit count p
    | .other => if p.isLoading then p else raise .malformedFrame (displaySource frame) p
  else if p.isLoading then p
  else raise .linkCheck (displaySource frame) p

/-! ### The commands -/

/-- FRAME_MARK: the four bytes of a mark frame arrive (R37, R176). -/
def execFrameMark (number : Byte) (code : Half) (s : State) : Host.Outcome State Fault Refusal :=
  event (takeDisplayFrame ([0x21, number] ++ be16 code)) s

/-- CREDIT_GRANT: the four bytes of a grant frame arrive (R145, R176). -/
def execCreditGrant (count : Byte) (code : Half) (s : State) : Host.Outcome State Fault Refusal :=
  event (takeDisplayFrame ([0x22, count] ++ be16 code)) s

/-- DISPLAY_FRAME_DISCARD: the bytes of another frame arrive on the display link (R147). -/
def execDisplayFrameDiscard (frame : List Byte) (s : State) : Host.Outcome State Fault Refusal :=
  event (takeDisplayFrame frame) s

/-- SUBSTITUTE_MARK: the frame deadline expires, when it is reached (R38). -/
def execSubstituteMark (s : State) : Host.Outcome State Fault Refusal :=
  event (fun p => if p.frameDue then substituteMark p else p) s

/-- QUIET_EXPIRY: a seat's quiet deadline expires, when it is reached (R10, R99). -/
def execQuietExpiry (seat : Fin 72) (s : State) : Host.Outcome State Fault Refusal :=
  event (fun p => if p.quietDue seat then quietExpire seat p else p) s

end Sys2Proof.Machine
end

