-- ==== Sys2Proof/Decode.lean ====
section
/-! DEFINITION. What the part reads from the bytes it takes: the form of a frame and its samples (R2, R175),
and the request in a management frame's body (section 10.3, R177); and after it the other direction, the
frame of a request. The opcode table gives no row any bits, so no word spells a command. -/

namespace Sys2Proof

open Sys2Proof.Machine

/-- The command that a word spells by the opcode table's bits. The table gives no row bits, so there is
none. -/
def decodeTableWord (_nbits _w : Nat) : Option Instr := none

/-! ### Frames -/

/-- The byte at an offset of a frame; past its end, 0, which no reader below relies on. -/
def byteAt (frame : List Byte) (i : Nat) : Byte := frame.getD i 0

/-- The 16-bit field at an offset of a frame (section 10.6). -/
def halfAt (frame : List Byte) (i : Nat) : Half := read16 (byteAt frame i) (byteAt frame (i + 1))

/-- The channel in a frame's header: the low four bits of byte 1 (R175). -/
def channelOf (frame : List Byte) : Nat := (byteAt frame 1).toNat % 16

/-- The source address in a frame's header (R175). -/
def addressOf (frame : List Byte) : Half := halfAt frame 2

/-- The frame length field (R175). -/
def lengthField (frame : List Byte) : Nat := (halfAt frame 6).toNat

/-- The first 8 bytes of a frame, or as many as it holds (R1, R182). -/
def headerOf (frame : List Byte) : List Byte := frame.take 8

/-- What a link's receiver supplies to the first-error log for a frame: the channel and address as they
stand in the header, absent where the frame is too short to hold them (R1, R2). -/
def frameSource (port : Port) (frame : List Byte) : ErrorSource where
  port := some port
  channel := if 2 ≤ frame.length then some (channelOf frame) else none
  address := if 4 ≤ frame.length then some (addressOf frame) else none
  seat := none
  header := headerOf frame

/-- One sample from its ten bytes, none when a field is out of its range (R2, R175). -/
def readSample : List Byte → Option Sample
  | [x1, x0, y1, y0, p1, p0, tool, indications, colour, layer] =>
    let pressure := (read16 p1 p0).toNat
    match Tool.of? tool, finOf? 32 colour, finOf? 8 layer with
    | some t, some c, some l =>
      if pressure ≤ 4095 then
        some ⟨(read16 x1 x0).toNat, (read16 y1 y0).toNat, pressure, t, indications.getLsbD 0,
          indications.getLsbD 1, c, l⟩
      else none
    | _, _, _ => none
  | _ => none

/-- A run of samples, ten bytes each, none when any of them is malformed (R2). -/
def readSamples : Nat → List Byte → Option (List Sample)
  | 0, _ => some []
  | n + 1, bytes =>
    match readSample (bytes.take 10), readSamples n (bytes.drop 10) with
    | some s, some rest => some (s :: rest)
    | _, _ => none

/-- What the form check makes of a frame that passed its link check code (R2). -/
inductive FrameForm where
  | malformed
  | ink (seq : Byte) (samples : List Sample)
  | management
  deriving DecidableEq, Repr

/-- The form check (R2, R175). -/
def formOf (frame : List Byte) : FrameForm :=
  if frame.length < 10 then .malformed
  else if byteAt frame 0 = 0x01 then
    let count := (byteAt frame 5).toNat
    if 1 ≤ count ∧ count ≤ 8 ∧ frame.length = 10 + 10 * count ∧ lengthField frame = 10 + 10 * count
    then
      match readSamples count (frame.drop 8) with
      | some samples => .ink (byteAt frame 4) samples
      | none => .malformed
    else .malformed
  else if byteAt frame 0 = 0x02 then .management
  else .malformed

/-! ### Requests -/

/-- Whether the catalogue lists a request kind (section 10.3). -/
def inCatalogue (kind : Byte) : Bool := decide (0x01 ≤ kind.toNat) && decide (kind.toNat ≤ 0x23)

def readIdentityWrite : List Byte → Option Request
  | [seat, en, role, cal, layers, op, oc, fp, fl, a1, a0, x1, x0, y1, y0, ex, ey] =>
    some (.writeIdentity ⟨seat, en, role, cal, layers, op, oc, fp, fl, read16 a1 a0, read16 x1 x0,
      read16 y1 y0, ex, ey⟩)
  | _ => none

def readRuleWrite : List Byte → Option Request
  | [page, index, valid, low, high, roles, tools, layer, action, target] =>
    some (.writeRule ⟨page, index, valid, low, high, roles, tools, layer, action, target⟩)
  | _ => none

def readCalibrationWrite : List Byte → Option Request
  | [set, a1, a0, b1, b0, c1, c0, d1, d0, e1, e0, t, auto] =>
    some (.writeCalibration ⟨set, read16 a1 a0, read16 b1 b0, read16 c1 c0, read16 d1 d0,
      read16 e1 e0, t, auto⟩)
  | _ => none

/-- A list body: a count byte and as many items (R177). -/
def readListBody (make : List Byte → Request) : List Byte → Option Request
  | n :: items => if items.length = n.toNat then some (make items) else none
  | [] => none

def readWidthWrite : List Byte → Option Request
  | tool :: entries =>
    if h : entries.length = 16 then some (.writeWidthTable tool ⟨entries.toArray, by simpa using h⟩)
    else none
  | [] => none

def readEmpty (r : Request) : List Byte → Option Request
  | [] => some r
  | _ => none

def readOne (make : Byte → Request) : List Byte → Option Request
  | [a] => some (make a)
  | _ => none

def readTwo (make : Byte → Byte → Request) : List Byte → Option Request
  | [a, b] => some (make a b)
  | _ => none

def readThree (make : Byte → Byte → Byte → Request) : List Byte → Option Request
  | [a, b, c] => some (make a b c)
  | _ => none

def readTwoHalves (make : Half → Half → Request) : List Byte → Option Request
  | [a1, a0, b1, b0] => some (make (read16 a1 a0) (read16 b1 b0))
  | _ => none

def readModeWrite : List Byte → Option Request
  | [layer, b, d, chop, order, dests] => some (.setLayerMode ⟨layer, b, d, chop, order, dests⟩)
  | _ => none

def readQueueWrite : List Byte → Option Request
  | [queue, w1, w0, policy] => some (.setQueue queue (read16 w1 w0) policy)
  | _ => none

/-- The request of a kind in a body; none when the kind is not in the catalogue or the body's length is
not the one the catalogue gives for it (R168, section 10.3). -/
def decodeRequest (kind : Byte) (body : List Byte) : Option Request :=
  match kind.toNat with
  | 0x01 => readIdentityWrite body
  | 0x02 => readTwo .readIdentity body
  | 0x03 => readRuleWrite body
  | 0x04 => readThree .readRule body
  | 0x05 => readTwo .setDefaultAction body
  | 0x06 => readOne .selectPage body
  | 0x07 => readOne .commit body
  | 0x08 => readEmpty .cancelCommit body
  | 0x09 => readEmpty .discardStaged body
  | 0x0A => readOne .readMonitor body
  | 0x0B => readTwoHalves .setTiming body
  | 0x0C => readCalibrationWrite body
  | 0x0D => readOne .readCalibration body
  | 0x0E => readListBody .applyBaseline body
  | 0x0F => readWidthWrite body
  | 0x10 => readOne .readWidthTable body
  | 0x11 => readTwoHalves .setCanvas body
  | 0x12 => readModeWrite body
  | 0x13 => readTwo .layerControl body
  | 0x14 => readEmpty .readLayers body
  | 0x15 => readQueueWrite body
  | 0x16 => readOne .setRoomPriority body
  | 0x17 => readOne .flushQueue body
  | 0x18 => readOne .readQueues body
  | 0x19 => readOne .readStrokes body
  | 0x1A => readThree .readCounters body
  | 0x1B => readOne .readHistory body
  | 0x1C => readOne .undo body
  | 0x1D => readEmpty .readErrors body
  | 0x1E => readListBody .clearErrors body
  | 0x1F => readTwo .setErrorMask body
  | 0x20 => readTwo .setErrorSeverity body
  | 0x21 => readEmpty .saveCalibration body
  | 0x22 => readEmpty .restoreFactory body
  | 0x23 => readEmpty .resetPart body
  | _ => none

/-! ### The other direction: the frame of a request -/

/-- The kind code of a request (section 10.3). -/
def Request.code : Request → Byte
  | .writeIdentity _ => 0x01
  | .readIdentity _ _ => 0x02
  | .writeRule _ => 0x03
  | .readRule _ _ _ => 0x04
  | .setDefaultAction _ _ => 0x05
  | .selectPage _ => 0x06
  | .commit _ => 0x07
  | .cancelCommit => 0x08
  | .discardStaged => 0x09
  | .readMonitor _ => 0x0A
  | .setTiming _ _ => 0x0B
  | .writeCalibration _ => 0x0C
  | .readCalibration _ => 0x0D
  | .applyBaseline _ => 0x0E
  | .writeWidthTable _ _ => 0x0F
  | .readWidthTable _ => 0x10
  | .setCanvas _ _ => 0x11
  | .setLayerMode _ => 0x12
  | .layerControl _ _ => 0x13
  | .readLayers => 0x14
  | .setQueue _ _ _ => 0x15
  | .setRoomPriority _ => 0x16
  | .flushQueue _ => 0x17
  | .readQueues _ => 0x18
  | .readStrokes _ => 0x19
  | .readCounters _ _ _ => 0x1A
  | .readHistory _ => 0x1B
  | .undo _ => 0x1C
  | .readErrors => 0x1D
  | .clearErrors _ => 0x1E
  | .setErrorMask _ _ => 0x1F
  | .setErrorSeverity _ _ => 0x20
  | .saveCalibration => 0x21
  | .restoreFactory => 0x22
  | .resetPart => 0x23

/-- The body of a request (R177). -/
def Request.body : Request → List Byte
  | .writeIdentity w =>
    [w.seat, w.enabled, w.role, w.calibrationSet, w.allowedLayers, w.overridePresent,
      w.overrideColour, w.forcedPresent, w.forcedLayer] ++ be16 w.address ++ be16 w.baseX
      ++ be16 w.baseY ++ [w.exponentX, w.exponentY]
  | .readIdentity seat copy => [seat, copy]
  | .writeRule w =>
    [w.page, w.index, w.valid, w.low, w.high, w.roles, w.tools, w.layerMatch, w.action, w.target]
  | .readRule page index copy => [page, index, copy]
  | .setDefaultAction page action => [page, action]
  | .selectPage page => [page]
  | .commit skip => [skip]
  | .cancelCommit => []
  | .discardStaged => []
  | .readMonitor clear => [clear]
  | .setTiming idle frame => be16 idle ++ be16 frame
  | .writeCalibration w =>
    [w.set] ++ be16 w.offsetX ++ be16 w.offsetY ++ be16 w.gainX ++ be16 w.gainY ++ be16 w.baseline
      ++ [w.exponent, w.autoApply]
  | .readCalibration set => [set]
  | .applyBaseline sets => byteOf sets.length :: sets
  | .writeWidthTable tool entries => tool :: entries.toList
  | .readWidthTable tool => [tool]
  | .setCanvas width height => be16 width ++ be16 height
  | .setLayerMode w => [w.layer, w.smoothing, w.decimation, w.chop, w.order, w.destinations]
  | .layerControl layer action => [layer, action]
  | .readLayers => []
  | .setQueue queue watermark policy => [queue] ++ be16 watermark ++ [policy]
  | .setRoomPriority mode => [mode]
  | .flushQueue queue => [queue]
  | .readQueues clear => [clear]
  | .readStrokes start => [start]
  | .readCounters clear first count => [clear, first, count]
  | .readHistory count => [count]
  | .undo seat => [seat]
  | .readErrors => []
  | .clearErrors kinds => byteOf kinds.length :: kinds
  | .setErrorMask kind mask => [kind, mask]
  | .setErrorSeverity kind severity => [kind, severity]
  | .saveCalibration => []
  | .restoreFactory => []
  | .resetPart => []

/-- The 8-byte header of a management frame on channel 0 with a body (R175). -/
def managementHeader (req : Requester) (kind : Byte) (body : List Byte) : List Byte :=
  [0x02, 0x00] ++ be16 req.address ++ [kind, req.tag] ++ halfBytes (body.length + 10)

/-- The management frame that carries a request from a requester (R175). -/
def requestFrame (req : Requester) (r : Request) : List Byte :=
  sealFrame (managementHeader req r.code r.body ++ r.body)

/-- A body can be framed when a list in it fits its count byte (R177). -/
def Request.framable : Request → Bool
  | .applyBaseline sets => decide (sets.length < 256)
  | .clearErrors kinds => decide (kinds.length < 256)
  | _ => true

/-- The requester and request of a command that is a request of the catalogue; none for the other commands.
The six actions of LAYER_CONTROL carry their action byte (R118). -/
def Instr.request? : Instr → Option (Requester × Request)
  | .writeIdentity q w => some (q, .writeIdentity w)
  | .readIdentity q seat copy => some (q, .readIdentity seat copy)
  | .writeRule q w => some (q, .writeRule w)
  | .readRule q page index copy => some (q, .readRule page index copy)
  | .setDefaultAction q page action => some (q, .setDefaultAction page action)
  | .selectPage q page => some (q, .selectPage page)
  | .commit q skip => some (q, .commit skip)
  | .cancelCommit q => some (q, .cancelCommit)
  | .discardStaged q => some (q, .discardStaged)
  | .readMonitor q clear => some (q, .readMonitor clear)
  | .setTiming q idle frame => some (q, .setTiming idle frame)
  | .writeCalibration q w => some (q, .writeCalibration w)
  | .readCalibration q set => some (q, .readCalibration set)
  | .applyBaseline q sets => some (q, .applyBaseline sets)
  | .writeWidthTable q tool entries => some (q, .writeWidthTable tool entries)
  | .readWidthTable q tool => some (q, .readWidthTable tool)
  | .setCanvas q width height => some (q, .setCanvas width height)
  | .setLayerMode q w => some (q, .setLayerMode w)
  | .openLayer q layer => some (q, .layerControl layer 0)
  | .freezeLayer q layer => some (q, .layerControl layer 1)
  | .thawLayer q layer => some (q, .layerControl layer 2)
  | .closeLayer q layer => some (q, .layerControl layer 3)
  | .closeLayerNow q layer => some (q, .layerControl layer 4)
  | .clearLayer q layer => some (q, .layerControl layer 5)
  | .readLayers q => some (q, .readLayers)
  | .setQueue q queue watermark policy => some (q, .setQueue queue watermark policy)
  | .setRoomPriority q mode => some (q, .setRoomPriority mode)
  | .flushQueue q queue => some (q, .flushQueue queue)
  | .readQueues q clear => some (q, .readQueues clear)
  | .readStrokes q start => some (q, .readStrokes start)
  | .readCounters q clear first count => some (q, .readCounters clear first count)
  | .readHistory q count => some (q, .readHistory count)
  | .undo q seat => some (q, .undo seat)
  | .readErrors q => some (q, .readErrors)
  | .clearErrors q kinds => some (q, .clearErrors kinds)
  | .setErrorMask q kind mask => some (q, .setErrorMask kind mask)
  | .setErrorSeverity q kind severity => some (q, .setErrorSeverity kind severity)
  | .saveCalibration q => some (q, .saveCalibration)
  | .restoreFactory q => some (q, .restoreFactory)
  | .resetPart q => some (q, .resetPart)
  | .powerOnReset => none
  | .resetnLow => none
  | .resetEnd => none
  | .loadComplete => none
  | .boardLinkFrame _ => none
  | .roomLinkFrame _ => none
  | .quietExpiry _ => none
  | .frameMark _ _ => none
  | .substituteMark => none
  | .creditGrant _ _ => none
  | .displayFrameDiscard _ => none
  | .displayTransmitEnd => none
  | .recordReadyChange _ => none
  | .recordTransmitEnd => none
  | .bridgeReadyChange _ => none
  | .bridgeAccept => none
  | .saveComplete _ => none
  | .unknownRequest _ _ _ => none

/-! ### The other direction: ink frames -/

/-- The ten bytes of a sample (R175). -/
def Machine.Sample.bytes (s : Sample) : List Byte :=
  halfBytes s.rawX ++ halfBytes s.rawY ++ halfBytes s.pressure
    ++ [s.tool.code, flagByte s.contact ||| (flagByte s.hover <<< 1), byteOf s.colour.val,
      byteOf s.layer.val]

/-- Whether a sample's numbers fit the fields that carry them (R2, R175). -/
def Machine.Sample.fits (s : Sample) : Bool :=
  decide (s.rawX < 65536) && decide (s.rawY < 65536) && decide (s.pressure ≤ 4095)

/-- The ink frame that carries samples, with the channel byte and the source field given (R175). -/
def inkFrame (channel : Byte) (source : Half) (seq : Byte) (samples : List Sample) : List Byte :=
  sealFrame
    ([0x01, channel] ++ be16 source ++ [seq, byteOf samples.length]
      ++ halfBytes (10 + 10 * samples.length) ++ samples.flatMap Machine.Sample.bytes)

end Sys2Proof
end

