-- ==== Sys2Proof/Machine/Operands.lean ====
section
/-! DEFINITION. Every operand form of a request: its encoded fields read into the values the owning rule
allows, none where a field lies outside its range (R177: such a field is refused with RANGE). -/

namespace Sys2Proof.Machine

/-- An optional field: a presence byte, and the value's reading when it is present; an absent field's
value byte is not examined (R177). -/
def optionOf? {α : Type} (read : Byte → Option α) (presence value : Byte) : Option (Option α) :=
  if presence = 0 then some none
  else if presence = 1 then (read value).map some
  else none

/-- A base rounded down to a multiple of its own extent (R15). -/
def storedBase (base exponent : Nat) : Nat := base / 2 ^ exponent * 2 ^ exponent

/-- The address and window of a write to a room seat, the window as it is stored (R14, R15, R16). -/
def roomFields? (w : IdentityWrite) : Option (Half × Window) :=
  let ex := w.exponentX.toNat
  let ey := w.exponentY.toNat
  if 1 ≤ w.address.toNat ∧ w.address.toNat ≤ 65534 ∧ w.baseX.toNat ≤ 32767 ∧ w.baseY.toNat ≤ 32767
      ∧ 8 ≤ ex ∧ ex ≤ 15 ∧ 8 ≤ ey ∧ ey ≤ 15 then
    some (w.address, ⟨storedBase w.baseX.toNat ex, storedBase w.baseY.toNat ey, ex, ey⟩)
  else none

/-- The entry a write gives a seat: a board seat's address and window fields are disregarded (R14,
R16). -/
def entryOf? (seat : Fin 72) (w : IdentityWrite) : Option IdentityEntry := do
  let enabled ← flagOf? w.enabled
  let role ← Role.of? w.role
  let cal ← finOf? 16 w.calibrationSet
  let colour ← optionOf? (finOf? 32) w.overridePresent w.overrideColour
  let forced ← optionOf? (finOf? 8) w.forcedPresent w.forcedLayer
  if isRoomSeat seat then
    let room ← roomFields? w
    some ⟨enabled, some room.1, role, cal, some room.2, LayerSet.ofByte w.allowedLayers, colour, forced⟩
  else some ⟨enabled, none, role, cal, none, LayerSet.ofByte w.allowedLayers, colour, forced⟩

/-- The seat and entry of a WRITE_IDENTITY (R16). -/
def identityOf? (w : IdentityWrite) : Option (Fin 72 × IdentityEntry) := do
  let seat ← finOf? 72 w.seat
  let entry ← entryOf? seat w
  some (seat, entry)

/-- The layer match of a rule: a layer, or ANY, coded 8 (R19, R177). -/
def layerMatchOf? (b : Byte) : Option (Option (Fin 8)) :=
  if b = 8 then some none else (finOf? 8 b).map some

/-- The fields of a rule (R19, R29): a low bound above the high bound cannot be stored. -/
def ruleFields? (w : RuleWrite) : Option Rule := do
  let valid ← flagOf? w.valid
  let low ← finOf? 72 w.low
  let high ← finOf? 72 w.high
  let roles ← RoleSet.of? w.roles
  let tools ← ToolSet.of? w.tools
  let layer ← layerMatchOf? w.layerMatch
  let action ← Action.of? w.action
  let target ← finOf? 8 w.target
  if low ≤ high then some ⟨valid, low, high, roles, tools, layer, action, target⟩ else none

/-- The page, index and rule of a WRITE_RULE (R29). -/
def ruleOf? (w : RuleWrite) : Option (Fin 8 × Fin 16 × Rule) := do
  let page ← finOf? 8 w.page
  let index ← finOf? 16 w.index
  let rule ← ruleFields? w
  some (page, index, rule)

/-- The set number and stored fields of a WRITE_CALIBRATION (R50, R67). -/
def calibrationOf? (w : CalibrationWrite) : Option (Fin 16 × StoredSet) := do
  let set ← finOf? 16 w.set
  let auto ← flagOf? w.autoApply
  if w.baseline.toNat ≤ 4095 ∧ w.exponent.toNat ≤ 6 then
    some (set, ⟨w.offsetX.toInt, w.offsetY.toInt, w.gainX.toNat, w.gainY.toNat, w.baseline.toNat,
      w.exponent.toNat, auto⟩)
  else none

/-- The calibration set numbers of an APPLY_BASELINE, at most 16 (R65). -/
def setsOf? (sets : List Byte) : Option (List (Fin 16)) :=
  if sets.length ≤ 16 then sets.mapM (finOf? 16) else none

/-- A tool's index among the width tables (R69, R70). -/
def toolTable? (tool : Byte) : Option (Fin 4) := (Tool.of? tool).map toolIndex

/-- The tool and entries of a WRITE_WIDTH_TABLE, every entry in 1 to 255 (R69). -/
def widthsOf? (tool : Byte) (entries : Vector Byte 16) : Option (Fin 4 × Vector Nat 16) :=
  match toolTable? tool with
  | some t =>
    if entries.toList.all fun e => decide (1 ≤ e.toNat) then some (t, entries.map BitVec.toNat)
    else none
  | none => none

/-- The canvas size of a SET_CANVAS (R71). -/
def canvasOf? (width height : Half) : Option (Nat × Nat) :=
  if 1024 ≤ width.toNat ∧ width.toNat ≤ 32767 ∧ 1024 ≤ height.toNat ∧ height.toNat ≤ 32767 then
    some (width.toNat, height.toNat)
  else none

/-- The timeouts of a SET_TIMING (R34). -/
def timingOf? (idle frame : Half) : Option Timing :=
  if 200 ≤ idle.toNat ∧ idle.toNat ≤ 20000 ∧ 100 ≤ frame.toNat ∧ frame.toNat ≤ 2000 then
    some ⟨idle.toNat, frame.toNat⟩
  else none

/-- The mode of a SET_LAYER_MODE (R116, R117). -/
def modeOf? (w : LayerModeWrite) : Option LayerMode := do
  let order ← PointOrder.of? w.order
  let dests ← DestSet.of? w.destinations
  if w.smoothing.toNat ≤ 3 ∧ w.decimation.toNat ≤ 15 ∧ (w.chop.toNat = 4 ∨ w.chop.toNat = 8) then
    some ⟨w.smoothing.toNat, w.decimation.toNat, w.chop.toNat, order, dests⟩
  else none

/-- The queue, watermark and policy of a SET_QUEUE (R143). -/
def queueOf? (queue : Byte) (watermark : Half) (policy : Byte) : Option (Dest × Nat × Policy) := do
  let d ← Dest.of? queue
  let pol ← Policy.of? policy
  if 1 ≤ watermark.toNat ∧ watermark.toNat ≤ Config.capacity d then some (d, watermark.toNat, pol)
  else none

/-- The clear flag, first seat and seat count of a READ_COUNTERS (R113). -/
def countersOf? (clear first count : Byte) : Option (Bool × List (Fin 72)) :=
  match flagOf? clear with
  | some flag =>
    if first.toNat ≤ 71 ∧ count.toNat ≤ 8 ∧ first.toNat + count.toNat ≤ 72 then
      some (flag, (indexes 72).filter fun s =>
        decide (first.toNat ≤ s.val ∧ s.val < first.toNat + count.toNat))
    else none
  | none => none

/-- The kinds of a CLEAR_ERRORS, at most 13 (R185). -/
def kindsOf? (kinds : List Byte) : Option (List (Fin 13)) :=
  if kinds.length ≤ 13 then kinds.mapM (finOf? 13) else none

end Sys2Proof.Machine
end

