-- ==== Sys2Proof/Machine/Agent.lean ====
section
/-! DEFINITION. The management agent: the gate, the LOADING answer, the reply slot held during execution,
and the reply (R166 to R169). -/

namespace Sys2Proof.Machine

/-- What the agent knows of a request's frame: the requester's address, the tag, the kind byte, and the
first 8 header bytes (R167, R169). -/
structure RequestHead where
  address : Half
  tag : Byte
  kind : Byte
  header : List Byte
  deriving DecidableEq, Repr

/-- What the owner of a request gives back: the status and body of the reply, or none for RESET_PART
(R170), and the part after the request's effects. -/
abbrev Answer := Option (Status × ReplyBody) × Part

/-- A taken request: status OK and its body (R169). -/
def taken (body : ReplyBody) (p : Part) : Answer := (some (.ok, body), p)

/-- A refused request: another status, an empty body, nothing changed (R169). -/
def refuse (status : Status) (p : Part) : Answer := (some (status, .empty), p)

def Part.holdReply (p : Part) (held : Bool) : Part :=
  { p with agent := { p.agent with replyHeld := held } }

/-- The reply frame to a request (R169). -/
def RequestHead.reply (h : RequestHead) (status : Status) (body : ReplyBody) : ReplyFrame :=
  .reply h.address h.kind h.tag status body

/-- The gate turns a request away: REPLY_OVERFLOW is raised and nothing else happens (R167). -/
def turnAway (h : RequestHead) (p : Part) : Part :=
  raise .replyOverflow ⟨some .room, some 0, some h.address, none, h.header⟩ p

/-- The end of a request's event: the held slot is released, and the reply joins in it (R168). -/
def finish (h : RequestHead) (a : Answer) : Part :=
  match a.1 with
  | some (status, body) => joinReply (h.reply status body) (a.2.holdReply false)
  | none => a.2.holdReply false

/-- The taking of one request: the gate, NOT_READY in LOADING, the owner's execution with a reply slot
held, and the reply (R166, R167, R168). -/
def takeRequest (h : RequestHead) (owner : Part → Answer) (p : Part) : Part :=
  if p.gateLimit ≤ p.agent.replies.length then turnAway h p
  else if p.isLoading then joinReply (h.reply .notReady .empty) p
  else finish h (owner (p.holdReply true))

/-- The head of a request sent as a command: what its frame would carry (R175). -/
def headOf (req : Requester) (kind : Byte) (body : List Byte) : RequestHead :=
  ⟨req.address, req.tag, kind, managementHeader req kind body⟩

/-- A request sent as a command is taken by the agent as its frame would be (R165 to R168). -/
def request (req : Requester) (r : Request) (owner : Part → Answer) (s : State) :
    Host.Outcome State Fault Refusal :=
  event (takeRequest (headOf req r.code r.body) owner) s

end Sys2Proof.Machine
end

