-- ==== Sys2Proof/Machine/ConditioningRequests.lean ====
section
/-! DEFINITION. The requests of the conditioning unit and of the calibration store: WRITE_CALIBRATION to
SET_CANVAS (section 4.7), SAVE_CALIBRATION and RESTORE_FACTORY (section 11.4), and the events that end a
save or a load. -/

namespace Sys2Proof.Machine

/-- WRITE_CALIBRATION's owner (R67): the estimator restarts, the estimate stays. -/
def ownWriteCalibration (w : CalibrationWrite) (p : Part) : Answer :=
  if p.save.isSome then refuse .busy p
  else
    match calibrationOf? w with
    | none => refuse .range p
    | some (i, stored) =>
      let estimate := (p.calibrationSet i).estimate
      taken (.calibration stored estimate) (p.setCalibrationSet i ⟨stored, estimate, 0, 0⟩)

def execWriteCalibration (req : Requester) (w : CalibrationWrite) (s : State) :
    Host.Outcome State Fault Refusal :=
  request req (.writeCalibration w) (ownWriteCalibration w) s

/-- READ_CALIBRATION's owner (R68). -/
def ownReadCalibration (set : Byte) (p : Part) : Answer :=
  match finOf? 16 set with
  | some i =>
    let c := p.calibrationSet i
    taken (.calibrationRead c.stored c.estimate c.count c.stored.window) p
  | none => refuse .range p

def execReadCalibration (req : Requester) (set : Byte) (s : State) :
    Host.Outcome State Fault Refusal :=
  request req (.readCalibration set) (ownReadCalibration set) s

/-- A set's baseline takes its estimate, when one is present (R65). -/
def CalibrationSet.applyEstimate (c : CalibrationSet) : CalibrationSet :=
  match c.estimate with
  | some e => { c with stored := { c.stored with baseline := e } }
  | none => c

/-- APPLY_BASELINE's owner (R65). -/
def ownApplyBaseline (sets : List Byte) (p : Part) : Answer :=
  if p.save.isSome then refuse .busy p
  else
    match setsOf? sets with
    | none => refuse .range p
    | some named =>
      taken
        (.setList ((indexes 16).filter fun i =>
          decide (i ∈ named) && (p.calibrationSet i).estimate.isSome))
        { p with
          conditioning :=
            { p.conditioning with
              sets := Vector.ofFn fun i =>
                if i ∈ named then (p.calibrationSet i).applyEstimate else p.calibrationSet i } }

def execApplyBaseline (req : Requester) (sets : List Byte) (s : State) :
    Host.Outcome State Fault Refusal :=
  request req (.applyBaseline sets) (ownApplyBaseline sets) s

/-- WRITE_WIDTH_TABLE's owner (R69). -/
def ownWriteWidthTable (tool : Byte) (entries : Vector Byte 16) (p : Part) : Answer :=
  if p.save.isSome then refuse .busy p
  else
    match widthsOf? tool entries with
    | none => refuse .range p
    | some (t, w) =>
      taken (.widthTable w)
        { p with conditioning := { p.conditioning with widths := put p.conditioning.widths t w } }

def execWriteWidthTable (req : Requester) (tool : Byte) (entries : Vector Byte 16) (s : State) :
    Host.Outcome State Fault Refusal :=
  request req (.writeWidthTable tool entries) (ownWriteWidthTable tool entries) s

/-- READ_WIDTH_TABLE's owner (R70). -/
def ownReadWidthTable (tool : Byte) (p : Part) : Answer :=
  match toolTable? tool with
  | some t => taken (.widthTable (look p.conditioning.widths t)) p
  | none => refuse .range p

def execReadWidthTable (req : Requester) (tool : Byte) (s : State) :
    Host.Outcome State Fault Refusal :=
  request req (.readWidthTable tool) (ownReadWidthTable tool) s

/-- Whether every layer is CLOSED and no entry of the stroke table is occupied (R71). -/
def Part.canvasFree (p : Part) : Bool :=
  p.layers.toList.all (fun y => decide (y.state = .closed))
    && decide (p.countEntries Entry.isOccupied = 0)

/-- SET_CANVAS's owner (R71). -/
def ownSetCanvas (width height : Half) (p : Part) : Answer :=
  if p.canvasFree = false then refuse .state p
  else
    match canvasOf? width height with
    | none => refuse .range p
    | some (w, h) =>
      taken (.canvas w h)
        { p with conditioning := { p.conditioning with canvasWidth := w, canvasHeight := h } }

def execSetCanvas (req : Requester) (width height : Half) (s : State) :
    Host.Outcome State Fault Refusal :=
  request req (.setCanvas width height) (ownSetCanvas width height) s

/-! ### The calibration store -/

/-- The check code of an image (R189). -/
def StoreImage.checkCode (i : StoreImage) : Half := crc i.bytes

/-- Whether a set's stored fields lie in their ranges (R50). -/
def StoredSet.inRange (s : StoredSet) : Bool :=
  decide (-32768 ≤ s.offsetX) && decide (s.offsetX ≤ 32767) && decide (-32768 ≤ s.offsetY)
    && decide (s.offsetY ≤ 32767) && decide (s.gainX ≤ 65535) && decide (s.gainY ≤ 65535)
    && decide (s.baseline ≤ 4095) && decide (s.exponent ≤ 6)

/-- Whether every field of an image lies in its range (R50, R51, R189). -/
def StoreImage.inRange (i : StoreImage) : Bool :=
  i.sets.toList.all StoredSet.inRange
    && i.widths.toList.all fun w => w.toList.all fun e => decide (1 ≤ e ∧ e ≤ 255)

/-- The image the store would load: its fields, when they are there, in range, and closed by their check
code (R189). -/
def Store.validImage (t : Store) : Option StoreImage :=
  match t.fields, t.code with
  | some img, some code => if code = img.checkCode ∧ img.inRange = true then some img else none
  | _, _ => none

/-- A save taken: the RAM image is copied, the stored code is marked invalid, and the write starts (R189,
R190). -/
def startSave (origin : SaveOrigin) (p : Part) : Part :=
  { p with
    save := some ⟨origin, p.conditioning.image⟩
    store := { p.store with code := none } }

/-- SAVE_CALIBRATION's owner (R190). -/
def ownSaveCalibration (p : Part) : Answer :=
  if p.save.isSome then refuse .busy p else taken .empty (startSave .saveCalibration p)

def execSaveCalibration (req : Requester) (s : State) : Host.Outcome State Fault Refusal :=
  request req .saveCalibration ownSaveCalibration s

/-- RESTORE_FACTORY's owner (R66, R190). -/
def ownRestoreFactory (p : Part) : Answer :=
  if p.save.isSome then refuse .busy p
  else
    taken .empty
      (startSave .restoreFactory { p with conditioning := p.conditioning.load factoryImage })

def execRestoreFactory (req : Requester) (s : State) : Host.Outcome State Fault Refusal :=
  request req .restoreFactory ownRestoreFactory s

/-- The completion of a save in flight (R191): on success the stored image is the one saved, closed by its
code; on failure the stored code stays invalid and STORE_FAULT is raised after STORE_DONE. -/
def saveComplete (success : Bool) (p : Part) : Part :=
  match p.save with
  | none => p
  | some sv =>
    let p1 := { p with save := none }
    if success then
      notice (.storeDone sv.origin true)
        { p1 with store := ⟨some sv.image, some sv.image.checkCode⟩ }
    else raise .storeFault noSource (notice (.storeDone sv.origin false) p1)

/-- SAVE_COMPLETE (R191). Without a save in flight there is nothing to complete. -/
def execSaveComplete (success : Bool) (s : State) : Host.Outcome State Fault Refusal :=
  event (saveComplete success) s

/-- The cause a RESTARTED notice names after a power-on or a pin reset (R172). -/
def HardCause.restart : HardCause → RestartCause
  | .power => .power
  | .pin => .pin

/-- The end of LOADING (R188): the image is used whole or replaced by the factory image, the part is READY
with its frame deadline armed, RESTARTED is built, and STORE_FAULT is raised when there was no valid
image. -/
def finishLoad (cause : HardCause) (p : Part) : Part :=
  let img := p.store.validImage
  let p1 := { p with
    phase := .ready
    conditioning := p.conditioning.load (img.getD factoryImage)
    monitor := { p.monitor with deadline := p.frameDeadline } }
  match img with
  | some _ => notice (.restarted (HardCause.restart cause) .valid) p1
  | none => raise .storeFault noSource (notice (.restarted (HardCause.restart cause) .invalid) p1)

/-- The store read completes, while the part is LOADING (R188). -/
def loadComplete (p : Part) : Part :=
  match p.phase with
  | .loading cause => finishLoad cause p
  | _ => p

/-- LOAD_COMPLETE (R188). -/
def execLoadComplete (s : State) : Host.Outcome State Fault Refusal := event loadComplete s

end Sys2Proof.Machine
end

