-- ==== Sys2Proof/Machine/ErrorRequests.lean ====
section
/-! DEFINITION. The error requests: READ_ERRORS, CLEAR_ERRORS, SET_ERROR_MASK, SET_ERROR_SEVERITY
(section 11.2). -/

namespace Sys2Proof.Machine

/-- READ_ERRORS's owner (R184). -/
def ownReadErrors (p : Part) : Answer :=
  taken (.errors ⟨p.errors.items, p.errors.alertLow, p.errors.log, p.save.map Save.origin⟩) p

def execReadErrors (req : Requester) (s : State) : Host.Outcome State Fault Refusal :=
  request req .readErrors ownReadErrors s

/-- The log after the listed kinds are cleared: empty when it holds one of them (R185). -/
def clearedLog (kinds : List (Fin 13)) (log : Option LogRecord) : Option LogRecord :=
  log.filter fun l => !decide (l.kind.index ∈ kinds)

/-- An item whose kind is cleared (R185). -/
def ErrorItem.clear (i : ErrorItem) : ErrorItem := { i with status := false, counter := 0 }

/-- The listed kinds cleared, the log with them, and ALERTn brought up to date (R183, R185). -/
def clearKinds (kinds : List (Fin 13)) (p : Part) : Part :=
  let p1 := { p with errors := { p.errors with log := clearedLog kinds p.errors.log } }
  p1.setErrorItems
    (Vector.ofFn fun i => if i ∈ kinds then (look p.errors.items i).clear else look p.errors.items i)

/-- CLEAR_ERRORS's owner (R185): the reply lists the kinds whose status was set, ascending. -/
def ownClearErrors (kinds : List Byte) (p : Part) : Answer :=
  match kindsOf? kinds with
  | none => refuse .range p
  | some listed =>
    taken
      (.kindList ((indexes 13).filter fun i => decide (i ∈ listed) && (look p.errors.items i).status))
      (clearKinds listed p)

def execClearErrors (req : Requester) (kinds : List Byte) (s : State) :
    Host.Outcome State Fault Refusal :=
  request req (.clearErrors kinds) (ownClearErrors kinds) s

/-- SET_ERROR_MASK's owner (R186). -/
def ownSetErrorMask (kind mask : Byte) (p : Part) : Answer :=
  match finOf? 13 kind, flagOf? mask with
  | some k, some m =>
    taken (.errorMask k m)
      (p.setErrorItems (put p.errors.items k { look p.errors.items k with mask := m }))
  | _, _ => refuse .range p

def execSetErrorMask (req : Requester) (kind mask : Byte) (s : State) :
    Host.Outcome State Fault Refusal :=
  request req (.setErrorMask kind mask) (ownSetErrorMask kind mask) s

/-- SET_ERROR_SEVERITY's owner (R186). -/
def ownSetErrorSeverity (kind severity : Byte) (p : Part) : Answer :=
  match finOf? 13 kind, Severity.of? severity with
  | some k, some v =>
    taken (.errorSeverity k v)
      (p.setErrorItems (put p.errors.items k { look p.errors.items k with severity := v }))
  | _, _ => refuse .range p

def execSetErrorSeverity (req : Requester) (kind severity : Byte) (s : State) :
    Host.Outcome State Fault Refusal :=
  request req (.setErrorSeverity kind severity) (ownSetErrorSeverity kind severity) s

end Sys2Proof.Machine
end

