-- ==== Sys2Proof/Machine/LayerRequests.lean ====
section
/-! DEFINITION. The layer requests: SET_LAYER_MODE, the six actions of LAYER_CONTROL, READ_LAYERS
(chapter 7). -/

namespace Sys2Proof.Machine

/-- SET_LAYER_MODE's owner (R117). -/
def ownSetLayerMode (w : LayerModeWrite) (p : Part) : Answer :=
  match finOf? 8 w.layer with
  | none => refuse .range p
  | some l =>
    if (p.layer l).state ≠ .closed then refuse .state p
    else
      match modeOf? w with
      | none => refuse .range p
      | some m => taken (.layerMode m) (p.setLayer l { p.layer l with mode := m })

def execSetLayerMode (req : Requester) (w : LayerModeWrite) (s : State) :
    Host.Outcome State Fault Refusal :=
  request req (.setLayerMode w) (ownSetLayerMode w) s

/-! ### LAYER_CONTROL -/

/-- A LAYER_CONTROL on an existing layer, or the refusal of one that names none: its reply carries the layer
as received and a state byte the spec does not give (R118, R169). -/
def withLayer (layer : Byte) (f : Fin 8 → Part → Answer) (p : Part) : Answer :=
  match finOf? 8 layer with
  | some l => f l p
  | none =>
    (some (.range, .absentLayer layer (Config.absentLayerState p.freeDraws)),
      { p with freeDraws := p.freeDraws + 1 })

/-- A refused LAYER_CONTROL carries the layer and its unchanged state (R118). -/
def refuseLayer (status : Status) (l : Fin 8) (p : Part) : Answer :=
  (some (status, .layerState l (p.layer l).state), p)

/-- A taken LAYER_CONTROL carries the layer and its state after the request (R118). -/
def takenLayer (l : Fin 8) (p : Part) : Answer := taken (.layerState l (p.layer l).state) p

def Part.setLayerState (p : Part) (l : Fin 8) (st : LayerState) : Part :=
  p.setLayer l { p.layer l with state := st }

/-- The destinations of a set whose queues have fewer free slots than needed (R118). -/
def Part.lacking (p : Part) (dests : DestSet) (needed : Nat) : DestSet :=
  ⟨dests.display && decide (p.freeSlots .display < needed),
    dests.fanout && decide (p.freeSlots .fanout < needed),
    dests.record && decide (p.freeSlots .record < needed)⟩

/-- A ROOM refusal names the destinations that lack room (R118). -/
def refuseRoom (l : Fin 8) (lacking : DestSet) (p : Part) : Answer :=
  (some (.room, .layerRoom l (p.layer l).state lacking), p)

/-- A LAYER record on every destination of the layer's mode, in the order DISPLAY, FANOUT, RECORD (R119,
R126, R128). -/
def sendLayerRecord (l : Fin 8) (ev : LayerEvent) (p : Part) : Part :=
  (p.layer l).mode.dests.toList.foldl (joinIfRoom (.layer l ev)) p

/-- OPEN on a layer (R119). -/
def layerOpen (l : Fin 8) (p : Part) : Answer :=
  if (p.layer l).state ≠ .closed then refuseLayer .state l p
  else
    let lack := p.lacking (p.layer l).mode.dests 1
    if lack.isEmpty = false then refuseRoom l lack p
    else takenLayer l (sendLayerRecord l .opened (p.setLayerState l .opened))

/-- FREEZE on a layer (R120). -/
def layerFreeze (l : Fin 8) (p : Part) : Answer :=
  if (p.layer l).state ≠ .opened then refuseLayer .state l p
  else takenLayer l (p.setLayerState l .frozen)

/-- THAW on a layer (R121). -/
def layerThaw (l : Fin 8) (p : Part) : Answer :=
  if (p.layer l).state ≠ .frozen then refuseLayer .state l p
  else takenLayer l (p.setLayerState l .opened)

/-- CLOSE on a layer (R122). -/
def layerClose (l : Fin 8) (p : Part) : Answer :=
  match (p.layer l).state with
  | .closed => refuseLayer .state l p
  | .draining => takenLayer l p
  | _ => takenLayer l (p.setLayerState l (if (p.layer l).openCount = 0 then .closed else .draining))

/-- A layer's OPEN strokes, in ascending entry index (R110). -/
def Part.layerStrokes (p : Part) (l : Fin 8) : List (Fin 48) :=
  p.openEntries fun c => decide (c.layer = l)

/-- CLOSE_NOW on a layer (R123). -/
def layerCloseNow (l : Fin 8) (p : Part) : Answer :=
  if (p.layer l).state = .closed then refuseLayer .state l p
  else
    let strokes := p.layerStrokes l
    let p1 := (strokes.foldl (endStroke .cancelled) p).setLayerState l .closed
    taken (.layerEnded l (p1.layer l).state strokes.length) p1

/-- The slots held back for the LAYER records while a CLEAR's strokes end (R125). -/
def Part.holdSlots (p : Part) (held : DestSet) : Part := { p with queues := { p.queues with held := held } }

/-- The summaries of a layer removed from the history list (R127, R164). -/
def History.removeLayer (h : History) (l : Fin 8) : History :=
  { h with
    list := h.list.filter fun s => decide (s.layer ≠ l)
    unread :=
      h.unread - (h.list.drop (h.list.length - h.unread)).countP fun s => decide (s.layer = l) }

/-- How many summaries of a layer the history list holds (R127). -/
def History.countLayer (h : History) (l : Fin 8) : Nat := h.list.countP fun s => decide (s.layer = l)

/-- The effects of a taken CLEAR: its strokes end with a slot held on each destination (R125), the LAYER
records take those slots (R126), and the layer's summaries are removed (R127). -/
def clearEffects (l : Fin 8) (strokes : List (Fin 48)) (p : Part) : Part :=
  let p1 := strokes.foldl (endStroke .cleared) (p.holdSlots (p.layer l).mode.dests)
  sendLayerRecord l .cleared (p1.holdSlots DestSet.empty)

/-- CLEAR on a layer (R124). -/
def layerClear (l : Fin 8) (p : Part) : Answer :=
  if (p.layer l).state = .closed ∨ (p.layer l).state = .draining then refuseLayer .state l p
  else
    let lack := p.lacking (p.layer l).mode.dests ((p.layer l).openCount + 1)
    if lack.isEmpty = false then refuseRoom l lack p
    else
      let strokes := p.layerStrokes l
      let p1 := clearEffects l strokes p
      taken
        (.layerCleared l (p1.layer l).state strokes.length (p1.history.countLayer l))
        { p1 with history := p1.history.removeLayer l }

/-- The owners of the six actions, on a layer byte (R118 to R124). -/
def ownOpenLayer (layer : Byte) (p : Part) : Answer := withLayer layer layerOpen p
def ownFreezeLayer (layer : Byte) (p : Part) : Answer := withLayer layer layerFreeze p
def ownThawLayer (layer : Byte) (p : Part) : Answer := withLayer layer layerThaw p
def ownCloseLayer (layer : Byte) (p : Part) : Answer := withLayer layer layerClose p
def ownCloseLayerNow (layer : Byte) (p : Part) : Answer := withLayer layer layerCloseNow p
def ownClearLayer (layer : Byte) (p : Part) : Answer := withLayer layer layerClear p

/-- LAYER_CONTROL's owner: the action by its code, RANGE for an action that is none of the six (R118). -/
def ownLayerControl (layer action : Byte) (p : Part) : Answer :=
  if action = 0 then ownOpenLayer layer p
  else if action = 1 then ownFreezeLayer layer p
  else if action = 2 then ownThawLayer layer p
  else if action = 3 then ownCloseLayer layer p
  else if action = 4 then ownCloseLayerNow layer p
  else if action = 5 then ownClearLayer layer p
  else withLayer layer (refuseLayer .range) p

def execOpenLayer (req : Requester) (layer : Byte) (s : State) : Host.Outcome State Fault Refusal :=
  request req (.layerControl layer 0) (ownOpenLayer layer) s

def execFreezeLayer (req : Requester) (layer : Byte) (s : State) : Host.Outcome State Fault Refusal :=
  request req (.layerControl layer 1) (ownFreezeLayer layer) s

def execThawLayer (req : Requester) (layer : Byte) (s : State) : Host.Outcome State Fault Refusal :=
  request req (.layerControl layer 2) (ownThawLayer layer) s

def execCloseLayer (req : Requester) (layer : Byte) (s : State) : Host.Outcome State Fault Refusal :=
  request req (.layerControl layer 3) (ownCloseLayer layer) s

def execCloseLayerNow (req : Requester) (layer : Byte) (s : State) :
    Host.Outcome State Fault Refusal :=
  request req (.layerControl layer 4) (ownCloseLayerNow layer) s

def execClearLayer (req : Requester) (layer : Byte) (s : State) : Host.Outcome State Fault Refusal :=
  request req (.layerControl layer 5) (ownClearLayer layer) s

/-! ### READ_LAYERS -/

/-- One layer's report (R131). -/
def Part.layerReport (p : Part) (l : Fin 8) : LayerReport where
  state := (p.layer l).state
  mode := (p.layer l).mode
  openCount := (p.layer l).openCount
  endingCount := p.countEntries (Entry.isEndingOn l)
  congested := p.congested l
  atWatermark :=
    let d := (p.layer l).mode.dests
    ⟨d.display && p.atWatermark .display, d.fanout && p.atWatermark .fanout,
      d.record && p.atWatermark .record⟩

/-- READ_LAYERS's owner (R131). -/
def ownReadLayers (p : Part) : Answer := taken (.layers (Vector.ofFn p.layerReport)) p

def execReadLayers (req : Requester) (s : State) : Host.Outcome State Fault Refusal :=
  request req .readLayers ownReadLayers s

end Sys2Proof.Machine
end

