-- ==== Sys2Proof/Machine/QueueRequests.lean ====
section
/-! DEFINITION. The queue requests: SET_QUEUE, SET_ROOM_PRIORITY, FLUSH_QUEUE, READ_QUEUES (chapter 8). -/

namespace Sys2Proof.Machine

/-- SET_QUEUE's owner (R143). -/
def ownSetQueue (queue : Byte) (watermark : Half) (policy : Byte) (p : Part) : Answer :=
  match queueOf? queue watermark policy with
  | none => refuse .range p
  | some (d, w, pol) =>
    taken (.queueSettings w pol) (p.setQueue d { p.queue d with watermark := w, policy := pol })

def execSetQueue (req : Requester) (queue : Byte) (watermark : Half) (policy : Byte) (s : State) :
    Host.Outcome State Fault Refusal :=
  request req (.setQueue queue watermark policy) (ownSetQueue queue watermark policy) s

/-- SET_ROOM_PRIORITY's owner (R154): with no offer standing the next choice is made at once. -/
def ownSetRoomPriority (mode : Byte) (p : Part) : Answer :=
  match Priority.of? mode with
  | none => refuse .range p
  | some m => taken (.priority m) (roomChoose { p with egress := { p.egress with priority := m } })

def execSetRoomPriority (req : Requester) (mode : Byte) (s : State) :
    Host.Outcome State Fault Refusal :=
  request req (.setRoomPriority mode) (ownSetRoomPriority mode) s

/-! ### FLUSH_QUEUE (R142) -/

/-- Step 1 of a flush: the records are removed and counted, and a fan-out record under offer is
withdrawn. -/
def flushRecords (d : Dest) (p : Part) : Part :=
  let q := p.queue d
  let p1 := p.setQueue d
    { q with
      items := []
      counters := { q.counters with flushed := satAdd q.counters.flushed q.items.length } }
  if d = .fanout ∧ p.egress.offer = .fanout then p1.setOffer .none else p1

/-- Whether a flush newly suppresses a destination for an entry (R142 step 2). -/
def Entry.newlySuppressed (d : Dest) (e : Entry) : Bool :=
  match e.core? with
  | some c => c.dests.has d && !c.suppressed.has d
  | none => false

/-- A destination joins a stroke's suppressed set when its destination set names it (R107). -/
def StrokeCore.suppress (d : Dest) (c : StrokeCore) : StrokeCore :=
  if c.dests.has d then { c with suppressed := c.suppressed.insert d } else c

/-- The destination is suppressed for an entry and not delivered, so that no further record of the stroke, its
RETRACT included, goes there (R104, R107, R142). DEDUCED: that this holds also where the END of an ENDING entry
had joined the flushed queue (log entry 33). -/
def Entry.suppress (d : Dest) : Entry → Entry
  | .free => .free
  | .opened c a => .opened (c.suppress d) a
  | .ending c e => .ending (c.suppress d) { e with delivered := e.delivered.erase d }

/-- Step 2 of a flush (R142). -/
def suppressAll (d : Dest) (p : Part) : Part :=
  { p with
    assembler := { p.assembler with entries := p.assembler.entries.map (Entry.suppress d) } }

/-- Whether an entry is ENDING and waits on no queue. -/
def Entry.doneWaiting : Entry → Bool
  | .ending _ e => e.waitsOn.isEmpty
  | _ => false

/-- The destination leaves the END-pending set of an entry (R104, R142 step 3). -/
def releaseEnd (d : Dest) (p : Part) (i : Fin 48) : Part :=
  p.updateEnding i fun e => { e with waitsOn := e.waitsOn.erase d }

/-- The first half of step 3 of a flush: the waiting ENDs are released and the waiting list emptied. -/
def releaseWaiting (d : Dest) (p : Part) : Part :=
  let p1 := (p.queue d).waiting.foldl (releaseEnd d) p
  p1.setQueue d { p1.queue d with waiting := [] }

/-- FLUSH_QUEUE's owner (R142). -/
def ownFlushQueue (queue : Byte) (p : Part) : Answer :=
  match Dest.of? queue with
  | none => refuse .range p
  | some d =>
    let waiting := (p.queue d).waiting
    let p1 := releaseWaiting d (suppressAll d (flushRecords d p))
    let p2 := roomChoose (waiting.foldl (fun p i => completeIfDone i p) p1)
    taken
      (.flushed (p.level d) (p.countEntries (Entry.newlySuppressed d))
        ((waiting.filter fun i => (p1.entry i).doneWaiting).length))
      p2

def execFlushQueue (req : Requester) (queue : Byte) (s : State) : Host.Outcome State Fault Refusal :=
  request req (.flushQueue queue) (ownFlushQueue queue) s

/-! ### READ_QUEUES (R144) -/

/-- One queue's report (R144). -/
def Part.queueReport (p : Part) (d : Dest) : QueueReport where
  level := p.level d
  capacity := Config.capacity d
  watermark := (p.queue d).watermark
  policy := (p.queue d).policy
  atWatermark := p.atWatermark d
  nextSeq := (p.queue d).nextSeq
  head := (p.queue d).items.head?.map fun i => (i.seq, i.tick)
  waitingLength := (p.queue d).waiting.length
  waitingHead := (p.queue d).waiting.head?
  counters := (p.queue d).counters

/-- READ_QUEUES's report (R144); the reply queue's level is the one before the request's own reply. -/
def Part.queuesReport (p : Part) : QueuesReport where
  display := p.queueReport .display
  fanout := p.queueReport .fanout
  record := p.queueReport .record
  credit := p.egress.credit
  recorderReady := p.egress.recorderReady
  priority := p.egress.priority
  bridgeReady := p.egress.bridgeReady
  offer := p.egress.offer
  replyLevel := p.agent.replies.length

def InkQueue.clearCounters (q : InkQueue) : InkQueue := { q with counters := resetQueueCounters }

/-- The counters of the three queues cleared (R144). -/
def Part.clearQueueCounters (p : Part) : Part :=
  { p with
    queues :=
      { p.queues with
        display := p.queues.display.clearCounters
        fanout := p.queues.fanout.clearCounters
        record := p.queues.record.clearCounters } }

/-- READ_QUEUES's owner (R144). -/
def ownReadQueues (clear : Byte) (p : Part) : Answer :=
  match flagOf? clear with
  | some true => taken (.queues p.queuesReport) p.clearQueueCounters
  | some false => taken (.queues p.queuesReport) p
  | none => refuse .range p

def execReadQueues (req : Requester) (clear : Byte) (s : State) : Host.Outcome State Fault Refusal :=
  request req (.readQueues clear) (ownReadQueues clear) s

end Sys2Proof.Machine
end

