-- ==== Sys2Proof/Machine/Resets.lean ====
section
/-! DEFINITION. The three resets: power-on, pin and soft (R13, R109, R170, R180, R187, R192), and their
commands. -/

namespace Sys2Proof.Machine

/-- The error monitor after a pin or a soft reset: statuses, masks, severities and the log are kept, the
counters are 0 (R180, R182). -/
def Errors.keep (e : Errors) : Errors := { e with items := e.items.map fun i => { i with counter := 0 } }

/-- The part with every block at its reset values. Kept: the calibration RAM (R50, R51), the levels of the
two ready lines (R148, R149), the error monitor (R180), the store, whose code a save in flight has
already marked invalid (R189, R192), and what the outside world has seen. -/
def resetBlocks (phase : Phase) (p : Part) : Part :=
  { resetPart with
    phase := phase
    conditioning := p.conditioning.reset
    egress := resetEgress p.egress.recorderReady p.egress.bridgeReady
    errors := p.errors.keep
    store := p.store
    sent := p.sent
    freeDraws := p.freeDraws }

/-- A power-on reset begins (R187): the part is held, and the error monitor takes its power-on values
(R180). -/
def powerOn (p : Part) : Part :=
  { resetBlocks (.inReset .power) p with errors := powerOnErrors }

/-- RESETn is driven low (R187): a pin reset begins, unless a reset already holds the part. -/
def pinLow (p : Part) : Part := if p.inReset then p else resetBlocks (.inReset .pin) p

/-- The end of a power-on or pin reset (R187): reset values, tick 0, LOADING. -/
def resetEnds (p : Part) : Part :=
  match p.phase with
  | .inReset cause => resetBlocks (.loading cause) p
  | _ => p

/-- A soft reset (R170): reset values, READY at once, the frame deadline armed at tick 0 (R36), and
RESTARTED built (R172). -/
def softReset (p : Part) : Part :=
  let p1 := resetBlocks .ready p
  notice (.restarted .soft .notLoaded)
    { p1 with monitor := { p1.monitor with deadline := p1.frameDeadline } }

/-- POWER_ON_RESET (R187). -/
def execPowerOnReset (s : State) : Host.Outcome State Fault Refusal :=
  .next { s with part := powerOn s.part }

/-- RESETN_LOW (R187). -/
def execResetnLow (s : State) : Host.Outcome State Fault Refusal :=
  .next { s with part := pinLow s.part }

/-- RESET_END (R187); after it the room egress runs in LOADING as in READY (R149). -/
def execResetEnd (s : State) : Host.Outcome State Fault Refusal :=
  .next { s with part := settle (resetEnds s.part) }

/-- RESET_PART's owner: no reply (R170). -/
def ownResetPart (p : Part) : Answer := (none, softReset p)

/-- RESET_PART (R170). -/
def execResetPart (req : Requester) (s : State) : Host.Outcome State Fault Refusal :=
  request req .resetPart ownResetPart s

end Sys2Proof.Machine
end

