-- ==== Sys2Proof/Machine/StrokeRequests.lean ====
section
/-! DEFINITION. The reads of the stroke table and the counters, the history read and UNDO: READ_STROKES,
READ_COUNTERS, READ_HISTORY, UNDO (chapters 6 and 9). -/

namespace Sys2Proof.Machine

/-! ### READ_STROKES (R112) -/

/-- The report of an entry, none for a FREE one (R112). -/
def Entry.report (i : Fin 48) : Entry → Option StrokeReport
  | .free => none
  | .opened c a => some ⟨i, c, DestSet.empty, a.pending.length, none⟩
  | .ending c e => some ⟨i, c, e.delivered, 0, some (e.reason, e.endTick, e.waitsOn)⟩

/-- The reports of the occupied entries at or above an index, ascending (R112). -/
def Part.reportsFrom (p : Part) (start : Nat) : List StrokeReport :=
  ((indexes 48).filter fun i => decide (start ≤ i.val)).filterMap fun i => (p.entry i).report i

/-- READ_STROKES's report: up to 8 entries, and the index at which the next read resumes (R112). -/
def Part.strokesReport (p : Part) (start : Nat) : StrokesReport where
  occupied := p.countEntries Entry.isOccupied
  roomOccupied := p.countEntries Entry.isRoomOccupied
  nextId := p.assembler.nextId
  entries := (p.reportsFrom start).take 8
  resume := ((p.reportsFrom start).drop 8).head?.map StrokeReport.index

/-- READ_STROKES's owner (R112). -/
def ownReadStrokes (start : Byte) (p : Part) : Answer :=
  if start.toNat ≤ 47 then taken (.strokes (p.strokesReport start.toNat)) p else refuse .range p

def execReadStrokes (req : Requester) (start : Byte) (s : State) : Host.Outcome State Fault Refusal :=
  request req (.readStrokes start) (ownReadStrokes start) s

/-! ### READ_COUNTERS (R113) -/

/-- One seat's report (R113). -/
def Part.seatReport (p : Part) (seat : Fin 72) : SeatReport :=
  let v := p.seat seat
  ⟨v.accepted, v.missing, v.lockout, v.openEntry.isSome⟩

/-- READ_COUNTERS's report (R113). -/
def Part.countersReport (p : Part) (seats : List (Fin 72)) : CountersReport where
  board := p.receivers.board
  room := p.receivers.room
  refusals := p.refusals
  strokes := p.assembler.counters
  historyOverrun := p.history.overrun
  noticesLost := p.agent.noticesLost
  seats := seats.map p.seatReport

/-- Every counter READ_COUNTERS reports is set to 0, those of the listed seats among them (R113). -/
def Part.clearCounters (p : Part) (seats : List (Fin 72)) : Part :=
  { p with
    receivers := ⟨resetLinkCounters, resetLinkCounters⟩
    refusals := ⟨0, 0, 0, 0⟩
    assembler := { p.assembler with counters := resetAssembler.counters }
    history := { p.history with overrun := 0 }
    agent := { p.agent with noticesLost := 0 }
    seats :=
      Vector.ofFn fun i =>
        if i ∈ seats then { p.seat i with accepted := 0, missing := 0 } else p.seat i }

/-- READ_COUNTERS's owner (R113): the values are reported before they are cleared. -/
def ownReadCounters (clear first count : Byte) (p : Part) : Answer :=
  match countersOf? clear first count with
  | some (true, seats) => taken (.counters (p.countersReport seats)) (p.clearCounters seats)
  | some (false, seats) => taken (.counters (p.countersReport seats)) p
  | none => refuse .range p

def execReadCounters (req : Requester) (clear first count : Byte) (s : State) :
    Host.Outcome State Fault Refusal :=
  request req (.readCounters clear first count) (ownReadCounters clear first count) s

/-! ### READ_HISTORY (R160) -/

/-- The `k` oldest unread summaries, which stand at the front of the newest run (R159, R160). -/
def History.oldestUnread (h : History) (k : Nat) : List Summary :=
  (h.list.drop (h.list.length - h.unread)).take k

/-- READ_HISTORY's owner (R160). -/
def ownReadHistory (count : Byte) (p : Part) : Answer :=
  let n := count.toNat
  if 1 ≤ n ∧ n ≤ 8 then
    let k := min n p.history.unread
    let h := { p.history with unread := p.history.unread - k }
    taken (.history (p.history.oldestUnread k) h.list.length h.unread) { p with history := h }
  else refuse .range p

def execReadHistory (req : Requester) (count : Byte) (s : State) : Host.Outcome State Fault Refusal :=
  request req (.readHistory count) (ownReadHistory count) s

/-! ### UNDO (R161, R162) -/

/-- Whether an UNDO of a seat may select a summary (R161). -/
def Part.undoable (p : Part) (seat : Fin 72) (m : Summary) : Bool :=
  decide (m.seat = seat) && !m.retracted
    && (decide ((p.layer m.layer).state = .opened) || decide ((p.layer m.layer).state = .frozen))

/-- The first element of a list that satisfies a test, and the list with that element changed. -/
def changeFirst {α : Type} (test : α → Bool) (f : α → α) : List α → Option (α × List α)
  | [] => none
  | a :: rest =>
    if test a then some (a, f a :: rest)
    else (changeFirst test f rest).map fun r => (r.1, a :: r.2)

/-- The newest summary of a list, oldest first, that satisfies a test, and the list with it retracted
(R161, R162). -/
def retractNewest (test : Summary → Bool) (l : List Summary) : Option (Summary × List Summary) :=
  (changeFirst test (fun m => { m with retracted := true }) l.reverse).map fun r => (r.1, r.2.reverse)

/-- The destinations of a set whose queues have no free slot (R162). -/
def Part.fullDests (p : Part) (dests : DestSet) : DestSet :=
  ⟨dests.display && decide (p.freeSlots .display = 0), dests.fanout && decide (p.freeSlots .fanout = 0),
    dests.record && decide (p.freeSlots .record = 0)⟩

/-- UNDO of a seat (R161, R162). -/
def undoSeat (seat : Fin 72) (p : Part) : Answer :=
  match retractNewest (p.undoable seat) p.history.list with
  | none => refuse .state p
  | some (m, list) =>
    let full := p.fullDests m.delivered
    if full.isEmpty = false then (some (.room, .lacking full), p)
    else
      let p1 := m.delivered.toList.foldl (joinIfRoom (.retract m.id m.layer)) p
      taken (.undone m.id m.layer m.delivered) { p1 with history := { p1.history with list := list } }

/-- UNDO's owner (R161). -/
def ownUndo (seat : Byte) (p : Part) : Answer :=
  match finOf? 72 seat with
  | some i => undoSeat i p
  | none => refuse .range p

def execUndo (req : Requester) (seat : Byte) (s : State) : Host.Outcome State Fault Refusal :=
  request req (.undo seat) (ownUndo seat) s

end Sys2Proof.Machine
end

