-- ==== Sys2Proof/Machine/TableRequests.lean ====
section
/-! DEFINITION. The requests on the staged tables, the staged commit and the frame monitor: WRITE_IDENTITY
to SET_TIMING (chapters 1 to 3). `own…` is what the owner of a request does with it (R168); `exec…` is the
command. -/

namespace Sys2Proof.Machine

/-- The copy of the tables a read names (R17, R30). -/
def Part.copy (p : Part) : Copy → Tables
  | .active => p.active
  | .staged => p.staged

/-! ### Identity (R16, R17) -/

/-- Whether enabling a room entry would give two enabled room entries of the staged copy one address
(R16). -/
def addressConflict (staged : Tables) (seat : Fin 72) (e : IdentityEntry) : Bool :=
  isRoomSeat seat && e.enabled
    && (indexes 72).any fun j =>
      isRoomSeat j && decide (j ≠ seat) && (look staged.identity j).enabled
        && decide ((look staged.identity j).address = e.address)

/-- WRITE_IDENTITY's owner (R16). -/
def ownWriteIdentity (w : IdentityWrite) (p : Part) : Answer :=
  if p.staging.pending then refuse .pending p
  else
    match identityOf? w with
    | none => refuse .range p
    | some (seat, e) =>
      if addressConflict p.staged seat e then refuse .conflict p
      else
        taken (.identity e)
          { p with staged := { p.staged with identity := put p.staged.identity seat e } }

def execWriteIdentity (req : Requester) (w : IdentityWrite) (s : State) :
    Host.Outcome State Fault Refusal :=
  request req (.writeIdentity w) (ownWriteIdentity w) s

/-- READ_IDENTITY's owner (R17). -/
def ownReadIdentity (seat copy : Byte) (p : Part) : Answer :=
  match finOf? 72 seat, Copy.of? copy with
  | some i, some c => taken (.identity (look (p.copy c).identity i)) p
  | _, _ => refuse .range p

def execReadIdentity (req : Requester) (seat copy : Byte) (s : State) :
    Host.Outcome State Fault Refusal :=
  request req (.readIdentity seat copy) (ownReadIdentity seat copy) s

/-! ### Rules (R29 to R32) -/

/-- The tables with one rule replaced (R29). -/
def Tables.setRule (t : Tables) (page : Fin 8) (index : Fin 16) (r : Rule) : Tables :=
  { t with pages := put t.pages page (put (look t.pages page) index r) }

/-- WRITE_RULE's owner (R29). -/
def ownWriteRule (w : RuleWrite) (p : Part) : Answer :=
  if p.staging.pending then refuse .pending p
  else
    match ruleOf? w with
    | none => refuse .range p
    | some (page, index, r) => taken (.rule r) { p with staged := p.staged.setRule page index r }

def execWriteRule (req : Requester) (w : RuleWrite) (s : State) : Host.Outcome State Fault Refusal :=
  request req (.writeRule w) (ownWriteRule w) s

/-- READ_RULE's owner (R30). -/
def ownReadRule (page index copy : Byte) (p : Part) : Answer :=
  match finOf? 8 page, finOf? 16 index, Copy.of? copy with
  | some i, some j, some c =>
    let t := p.copy c
    taken (.ruleRead (look (look t.pages i) j) (look t.defaults i) t.page) p
  | _, _, _ => refuse .range p

def execReadRule (req : Requester) (page index copy : Byte) (s : State) :
    Host.Outcome State Fault Refusal :=
  request req (.readRule page index copy) (ownReadRule page index copy) s

/-- SET_DEFAULT_ACTION's owner (R31). -/
def ownSetDefaultAction (page action : Byte) (p : Part) : Answer :=
  if p.staging.pending then refuse .pending p
  else
    match finOf? 8 page, DefaultAction.of? action with
    | some i, some a =>
      taken (.defaultAction i a)
        { p with staged := { p.staged with defaults := put p.staged.defaults i a } }
    | _, _ => refuse .range p

def execSetDefaultAction (req : Requester) (page action : Byte) (s : State) :
    Host.Outcome State Fault Refusal :=
  request req (.setDefaultAction page action) (ownSetDefaultAction page action) s

/-- SELECT_PAGE's owner (R32). -/
def ownSelectPage (page : Byte) (p : Part) : Answer :=
  if p.staging.pending then refuse .pending p
  else
    match finOf? 8 page with
    | some i => taken (.page i) { p with staged := { p.staged with page := i } }
    | none => refuse .range p

def execSelectPage (req : Requester) (page : Byte) (s : State) : Host.Outcome State Fault Refusal :=
  request req (.selectPage page) (ownSelectPage page) s

/-! ### Staged commit (R41, R45, R46) -/

/-- COMMIT's owner (R41). -/
def ownCommit (skip : Byte) (p : Part) : Answer :=
  if p.staging.pending then refuse .pending p
  else if skip.toNat ≤ 7 then
    taken (.skip skip.toNat) { p with staging := ⟨true, skip.toNat⟩ }
  else refuse .range p

def execCommit (req : Requester) (skip : Byte) (s : State) : Host.Outcome State Fault Refusal :=
  request req (.commit skip) (ownCommit skip) s

/-- The countdown as it is shown: 0 when no commit is pending (R49). -/
def Staging.shown (g : Staging) : Nat := if g.pending then g.countdown else 0

/-- CANCEL_COMMIT's owner (R45). -/
def ownCancelCommit (p : Part) : Answer :=
  taken (.cancelled p.staging.pending p.staging.shown) { p with staging := ⟨false, 0⟩ }

def execCancelCommit (req : Requester) (s : State) : Host.Outcome State Fault Refusal :=
  request req .cancelCommit ownCancelCommit s

/-- DISCARD_STAGED's owner (R46). -/
def ownDiscardStaged (p : Part) : Answer :=
  if p.staging.pending then refuse .pending p else taken .empty { p with staged := p.active }

def execDiscardStaged (req : Requester) (s : State) : Host.Outcome State Fault Refusal :=
  request req .discardStaged ownDiscardStaged s

/-! ### Monitor and timing (R34, R49) -/

/-- READ_MONITOR's report (R49). -/
def Part.monitorReport (p : Part) : MonitorReport where
  state := p.monitor.state
  lastMark := p.monitor.lastMark
  lastPeriod := p.monitor.lastPeriod
  minPeriod := p.monitor.minPeriod
  maxPeriod := p.monitor.maxPeriod
  captures := p.monitor.captures
  substitutes := p.monitor.substitutes
  commitPending := p.staging.pending
  countdown := p.staging.shown
  frameTimeout := p.timing.frameTimeout
  idleTimeout := p.timing.idleTimeout
  tick := p.tick

/-- The periods and counts cleared (R49). -/
def Monitor.clear (m : Monitor) : Monitor :=
  { m with minPeriod := 0, maxPeriod := 0, captures := 0, substitutes := 0 }

/-- READ_MONITOR's owner (R49): the values are reported before they are cleared. -/
def ownReadMonitor (clear : Byte) (p : Part) : Answer :=
  match flagOf? clear with
  | some true => taken (.monitor p.monitorReport) { p with monitor := p.monitor.clear }
  | some false => taken (.monitor p.monitorReport) p
  | none => refuse .range p

def execReadMonitor (req : Requester) (clear : Byte) (s : State) : Host.Outcome State Fault Refusal :=
  request req (.readMonitor clear) (ownReadMonitor clear) s

/-- SET_TIMING's owner (R34). -/
def ownSetTiming (idle frame : Half) (p : Part) : Answer :=
  match timingOf? idle frame with
  | some t => taken (.timing t.idleTimeout t.frameTimeout) { p with timing := t }
  | none => refuse .range p

def execSetTiming (req : Requester) (idle frame : Half) (s : State) :
    Host.Outcome State Fault Refusal :=
  request req (.setTiming idle frame) (ownSetTiming idle frame) s

end Sys2Proof.Machine
end

