-- ==== Sys2Proof/Machine/LinkFrames.lean ====
section
/-! DEFINITION. The board link and room link receivers (chapter 1), the passing of a management frame to the
agent (R165, R168), and the commands of the two links. -/

namespace Sys2Proof.Machine

/-! ### Management frames -/

/-- The owner of each request of the catalogue (section 10.3). -/
def ownerOf : Request → Part → Answer
  | .writeIdentity w => ownWriteIdentity w
  | .readIdentity seat copy => ownReadIdentity seat copy
  | .writeRule w => ownWriteRule w
  | .readRule page index copy => ownReadRule page index copy
  | .setDefaultAction page action => ownSetDefaultAction page action
  | .selectPage page => ownSelectPage page
  | .commit skip => ownCommit skip
  | .cancelCommit => ownCancelCommit
  | .discardStaged => ownDiscardStaged
  | .readMonitor clear => ownReadMonitor clear
  | .setTiming idle frame => ownSetTiming idle frame
  | .writeCalibration w => ownWriteCalibration w
  | .readCalibration set => ownReadCalibration set
  | .applyBaseline sets => ownApplyBaseline sets
  | .writeWidthTable tool entries => ownWriteWidthTable tool entries
  | .readWidthTable tool => ownReadWidthTable tool
  | .setCanvas width height => ownSetCanvas width height
  | .setLayerMode w => ownSetLayerMode w
  | .layerControl layer action => ownLayerControl layer action
  | .readLayers => ownReadLayers
  | .setQueue queue watermark policy => ownSetQueue queue watermark policy
  | .setRoomPriority mode => ownSetRoomPriority mode
  | .flushQueue queue => ownFlushQueue queue
  | .readQueues clear => ownReadQueues clear
  | .readStrokes start => ownReadStrokes start
  | .readCounters clear first count => ownReadCounters clear first count
  | .readHistory count => ownReadHistory count
  | .undo seat => ownUndo seat
  | .readErrors => ownReadErrors
  | .clearErrors kinds => ownClearErrors kinds
  | .setErrorMask kind mask => ownSetErrorMask kind mask
  | .setErrorSeverity kind severity => ownSetErrorSeverity kind severity
  | .saveCalibration => ownSaveCalibration
  | .restoreFactory => ownRestoreFactory
  | .resetPart => ownResetPart

/-- What the agent does with a request of a kind and body, the frame's length field agreeing with the frame
or not: UNKNOWN, MALFORMED, or its owner's execution (R168). -/
def answerBody (kind : Byte) (body : List Byte) (lengthAgrees : Bool) (p : Part) : Answer :=
  if inCatalogue kind = false then refuse .unknown p
  else if lengthAgrees = false then refuse .malformed p
  else
    match decodeRequest kind body with
    | none => refuse .malformed p
    | some r => ownerOf r p

/-- The head of the request a management frame carries (R169, R175). -/
def frameHead (frame : List Byte) : RequestHead :=
  ⟨addressOf frame, byteAt frame 5, byteAt frame 4, headerOf frame⟩

/-- The body of a management frame: what stands between header and check code (R175). -/
def frameBody (frame : List Byte) : List Byte := (frame.drop 8).take (frame.length - 10)

/-- An accepted management frame is taken by the agent (R165 to R168). -/
def takeManagement (frame : List Byte) (p : Part) : Part :=
  takeRequest (frameHead frame)
    (answerBody (byteAt frame 4) (frameBody frame) (decide (lengthField frame = frame.length))) p

/-- A management frame that arrived elsewhere than on room link channel 0 is dropped, with a raise in READY
(R165). -/
def misplaced (port : Port) (frame : List Byte) (p : Part) : Part :=
  if p.isLoading then p else raise .misplacedManagement (frameSource port frame) p

/-! ### Ink frames -/

def Part.countBoard (p : Part) (f : LinkCounters → LinkCounters) : Part :=
  { p with receivers := { p.receivers with board := f p.receivers.board } }

def Part.countRoom (p : Part) (f : LinkCounters → LinkCounters) : Part :=
  { p with receivers := { p.receivers with room := f p.receivers.room } }

/-- A link's counters changed (R12). -/
def Part.countLink (p : Part) (port : Port) (f : LinkCounters → LinkCounters) : Part :=
  match port with
  | .board => p.countBoard f
  | _ => p.countRoom f

/-- A seat's OPEN stroke receives the GAP flag (R8, R106). -/
def gapStroke (seat : Fin 72) (p : Part) : Part :=
  match (p.seat seat).openEntry with
  | some i =>
    match p.entry i with
    | .opened c a => p.setEntry i (.opened c.markGap a)
    | _ => p
  | none => p

/-- The sequence check of a frame taken for a seat (R8). -/
def checkSequence (seat : Fin 72) (seq : Byte) (src : ErrorSource) (p : Part) : Part :=
  let v := p.seat seat
  let next := { v with expected := some (seq + 1) }
  match v.expected with
  | none => p.setSeat seat next
  | some e =>
    if seq = e then p.setSeat seat next
    else
      let gap := (seq - e).toNat
      gapStroke seat
        (raise .sequenceGap { src with seat := some seat }
          (p.setSeat seat { next with missing := satAdd v.missing gap }))

/-- The quiet deadline armed afresh from the current tick with the idle timeout now set (R10). -/
def armQuiet (seat : Fin 72) (p : Part) : Part :=
  p.setSeat seat { p.seat seat with lastTick := p.tick, quiet := some p.timing.idleTimeout }

/-- An ink frame taken for a seat: counted, sequence-checked, its deadline armed, and its samples handed on
one at a time (R7, R8, R9, R10, R12). -/
def takeInk (port : Port) (seat : Fin 72) (seq : Byte) (samples : List Sample) (src : ErrorSource)
    (p : Part) : Part :=
  let p1 := p.countLink port fun c => { c with inkTaken := bump c.inkTaken }
  let p2 := p1.setSeat seat { p1.seat seat with accepted := bump (p1.seat seat).accepted }
  let p3 := armQuiet seat (checkSequence seat seq src p2)
  samples.foldl (handleSample seat src) p3

/-- The seat of a room ink frame: the enabled room entry of the active table with the frame's source
address (R5). -/
def roomSeatOf (t : Tables) (address : Half) : Option (Fin 72) :=
  (indexes 72).find? fun i =>
    isRoomSeat i && (look t.identity i).enabled && decide ((look t.identity i).address = some address)

/-- The seat of a board ink frame: seat 64 + s for a pen slot s whose active entry is enabled (R6). -/
def boardSeatOf (t : Tables) (slot : Half) : Option (Fin 72) :=
  if h : slot.toNat < 8 then
    let seat : Fin 72 := ⟨64 + slot.toNat, by omega⟩
    if (look t.identity seat).enabled then some seat else none
  else none

/-- An ink frame without a seat is dropped: counted and raised (R5, R6). -/
def unknownSource (port : Port) (src : ErrorSource) (p : Part) : Part :=
  raise .unknownSource src (p.countLink port fun c => { c with unknownSource := bump c.unknownSource })

/-- What R6 supplies for a board frame: no channel, the source field in place of an address. -/
def boardUnknownSource (frame : List Byte) : ErrorSource :=
  { frameSource .board frame with channel := none }

/-- The seat an ink frame names, and what an unknown source supplies to the log (R5, R6). -/
def lookupSeat (port : Port) (frame : List Byte) (t : Tables) : Option (Fin 72) :=
  match port with
  | .board => boardSeatOf t (addressOf frame)
  | _ => roomSeatOf t (addressOf frame)

def unknownSourceOf (port : Port) (frame : List Byte) : ErrorSource :=
  match port with
  | .board => boardUnknownSource frame
  | _ => frameSource port frame

/-- A well-formed ink frame in READY (R5, R6, R7). -/
def takeInkFrame (port : Port) (frame : List Byte) (seq : Byte) (samples : List Sample) (p : Part) :
    Part :=
  match lookupSeat port frame p.active with
  | some seat => takeInk port seat seq samples (frameSource port frame) p
  | none => unknownSource port (unknownSourceOf port frame) p

/-! ### The receivers -/

/-- A frame that fails the link check code (R1), or the form check (R2), in READY. -/
def dropFrame (port : Port) (kind : ErrorKind) (frame : List Byte) (count : LinkCounters → LinkCounters)
    (p : Part) : Part :=
  raise kind (frameSource port frame) (p.countLink port count)

/-- Whether a management frame is accepted: on the room link, on channel 0 (R165). -/
def accepted (port : Port) (frame : List Byte) : Bool :=
  decide (port = .room) && decide (channelOf frame = 0)

/-- A frame taken by a receiver (R1 to R4): during LOADING failing frames and ink frames are dropped in
silence. -/
def receive (port : Port) (frame : List Byte) (p : Part) : Part :=
  if codeMatches frame = false then
    if p.isLoading then p
    else dropFrame port .linkCheck frame (fun c => { c with checkDrops := bump c.checkDrops }) p
  else
    match formOf frame with
    | .malformed =>
      if p.isLoading then p
      else
        dropFrame port .malformedFrame frame
          (fun c => { c with malformedDrops := bump c.malformedDrops }) p
    | .management => if accepted port frame then takeManagement frame p else misplaced port frame p
    | .ink seq samples => if p.isLoading then p else takeInkFrame port frame seq samples p

/-- BOARD_LINK_FRAME (R6). -/
def execBoardLinkFrame (frame : List Byte) (s : State) : Host.Outcome State Fault Refusal :=
  event (receive .board frame) s

/-- ROOM_LINK_FRAME (R3). -/
def execRoomLinkFrame (frame : List Byte) (s : State) : Host.Outcome State Fault Refusal :=
  event (receive .room frame) s

/-- UNKNOWN_REQUEST: a request of a kind that the catalogue does not list passes the gate and is answered
UNKNOWN (R168). -/
def execUnknownRequest (req : Requester) (kind : Byte) (body : List Byte) (s : State) :
    Host.Outcome State Fault Refusal :=
  event (takeRequest (headOf req kind body) (answerBody kind body true)) s

end Sys2Proof.Machine
end

