-- ==== Sys2Proof/Machine/Clock.lean ====
section
/-! DEFINITION. The tick (R33): what happens while no command waits. The tick count advances, and the
deadlines that it makes due wait as commands. -/

namespace Sys2Proof.Machine

/-- The expiries due at the current tick: the quiet deadlines of the seats, and the frame deadline (R10,
R33, R38). -/
def Part.dueExpiries (p : Part) : List Instr :=
  ((indexes 72).filter p.quietDue).map Instr.quietExpiry
    ++ (if p.frameDue then [.substituteMark] else [])

/-- The order in which a part takes the expiries due on one tick: free (the spec gives none). An order
that is no rearrangement of them is not an order of them, and they then stand as listed. -/
def takenOrder (draw : Nat) (due : List Instr) : List Instr :=
  if (Config.dueOrder draw due).isPerm due then Config.dueOrder draw due else due

/-- The tick count advances by 1 (R33). -/
def Part.advance (p : Part) : Part := { p with tick := p.tick + 1 }

/-- The free value drawn when several expiries fall on one tick. -/
def drawOrder (due : List Instr) (p : Part) : Part :=
  if due.length ≤ 1 then p else { p with freeDraws := p.freeDraws + 1 }

/-- One tick with no command waiting: held in a reset, the tick count does not run (R187); otherwise it
advances and the expiries due wait to be taken (R33). -/
def idleTick (s : State) : State :=
  if s.part.inReset then s
  else
    let p := s.part.advance
    let due := p.dueExpiries
    ⟨drawOrder due p, if due.length ≤ 1 then due else takenOrder p.freeDraws due⟩

end Sys2Proof.Machine
end

