-- ==== Sys2Proof/Machine/Dispatch.lean ====
section
/-! DEFINITION. The meaning of each command: one arm per row of the opcode table. -/

namespace Sys2Proof.Machine

/-- The effect of a command on everything but the queue of waiting commands. -/
def exec (i : Instr) (s : State) : Host.Outcome State Fault Refusal :=
  match i with
  | .powerOnReset => Sys2Proof.Machine.execPowerOnReset s
  | .resetnLow => Sys2Proof.Machine.execResetnLow s
  | .resetEnd => Sys2Proof.Machine.execResetEnd s
  | .loadComplete => Sys2Proof.Machine.execLoadComplete s
  | .boardLinkFrame frame => Sys2Proof.Machine.execBoardLinkFrame frame s
  | .roomLinkFrame frame => Sys2Proof.Machine.execRoomLinkFrame frame s
  | .quietExpiry seat => Sys2Proof.Machine.execQuietExpiry seat s
  | .frameMark number code => Sys2Proof.Machine.execFrameMark number code s
  | .substituteMark => Sys2Proof.Machine.execSubstituteMark s
  | .creditGrant count code => Sys2Proof.Machine.execCreditGrant count code s
  | .displayFrameDiscard frame => Sys2Proof.Machine.execDisplayFrameDiscard frame s
  | .displayTransmitEnd => Sys2Proof.Machine.execDisplayTransmitEnd s
  | .recordReadyChange asserted => Sys2Proof.Machine.execRecordReadyChange asserted s
  | .recordTransmitEnd => Sys2Proof.Machine.execRecordTransmitEnd s
  | .bridgeReadyChange ready => Sys2Proof.Machine.execBridgeReadyChange ready s
  | .bridgeAccept => Sys2Proof.Machine.execBridgeAccept s
  | .saveComplete success => Sys2Proof.Machine.execSaveComplete success s
  | .unknownRequest req kind body => Sys2Proof.Machine.execUnknownRequest req kind body s
  | .writeIdentity req body => Sys2Proof.Machine.execWriteIdentity req body s
  | .readIdentity req seat copy => Sys2Proof.Machine.execReadIdentity req seat copy s
  | .writeRule req body => Sys2Proof.Machine.execWriteRule req body s
  | .readRule req page index copy => Sys2Proof.Machine.execReadRule req page index copy s
  | .setDefaultAction req page action => Sys2Proof.Machine.execSetDefaultAction req page action s
  | .selectPage req page => Sys2Proof.Machine.execSelectPage req page s
  | .commit req skip => Sys2Proof.Machine.execCommit req skip s
  | .cancelCommit req => Sys2Proof.Machine.execCancelCommit req s
  | .discardStaged req => Sys2Proof.Machine.execDiscardStaged req s
  | .readMonitor req clear => Sys2Proof.Machine.execReadMonitor req clear s
  | .setTiming req idle frame => Sys2Proof.Machine.execSetTiming req idle frame s
  | .writeCalibration req body => Sys2Proof.Machine.execWriteCalibration req body s
  | .readCalibration req set => Sys2Proof.Machine.execReadCalibration req set s
  | .applyBaseline req sets => Sys2Proof.Machine.execApplyBaseline req sets s
  | .writeWidthTable req tool entries => Sys2Proof.Machine.execWriteWidthTable req tool entries s
  | .readWidthTable req tool => Sys2Proof.Machine.execReadWidthTable req tool s
  | .setCanvas req width height => Sys2Proof.Machine.execSetCanvas req width height s
  | .setLayerMode req body => Sys2Proof.Machine.execSetLayerMode req body s
  | .openLayer req layer => Sys2Proof.Machine.execOpenLayer req layer s
  | .freezeLayer req layer => Sys2Proof.Machine.execFreezeLayer req layer s
  | .thawLayer req layer => Sys2Proof.Machine.execThawLayer req layer s
  | .closeLayer req layer => Sys2Proof.Machine.execCloseLayer req layer s
  | .closeLayerNow req layer => Sys2Proof.Machine.execCloseLayerNow req layer s
  | .clearLayer req layer => Sys2Proof.Machine.execClearLayer req layer s
  | .readLayers req => Sys2Proof.Machine.execReadLayers req s
  | .setQueue req queue watermark policy => Sys2Proof.Machine.execSetQueue req queue watermark policy s
  | .setRoomPriority req mode => Sys2Proof.Machine.execSetRoomPriority req mode s
  | .flushQueue req queue => Sys2Proof.Machine.execFlushQueue req queue s
  | .readQueues req clear => Sys2Proof.Machine.execReadQueues req clear s
  | .readStrokes req start => Sys2Proof.Machine.execReadStrokes req start s
  | .readCounters req clear firstSeat seatCount => Sys2Proof.Machine.execReadCounters req clear firstSeat seatCount s
  | .readHistory req count => Sys2Proof.Machine.execReadHistory req count s
  | .undo req seat => Sys2Proof.Machine.execUndo req seat s
  | .readErrors req => Sys2Proof.Machine.execReadErrors req s
  | .clearErrors req kinds => Sys2Proof.Machine.execClearErrors req kinds s
  | .setErrorMask req kind mask => Sys2Proof.Machine.execSetErrorMask req kind mask s
  | .setErrorSeverity req kind severity => Sys2Proof.Machine.execSetErrorSeverity req kind severity s
  | .saveCalibration req => Sys2Proof.Machine.execSaveCalibration req s
  | .restoreFactory req => Sys2Proof.Machine.execRestoreFactory req s
  | .resetPart req => Sys2Proof.Machine.execResetPart req s

end Sys2Proof.Machine
end

