-- ==== Sys2Proof/Safety.lean ====
section
/-! DEFINITION. What a safe state is, in the terms the statements use: the laws the manual states of the
whole part, each as a property of one state, and what a reply adds to a part. -/

namespace Sys2Proof.Machine

/-! ### Conditions -/

/-- The part is READY and the gate passes a request (R167). -/
def Part.takes (p : Part) : Prop := p.phase = .ready ∧ p.agent.replies.length < Config.replyCapacity

/-- What a reply makes of a part: it joins the reply queue, no slot is held any longer, and the departures
that the event allows are made (R168, R169). -/
def answered (req : Requester) (kind : Byte) (status : Status) (body : ReplyBody) (p : Part) : Part :=
  settle (joinReply (.reply req.address kind req.tag status body) (p.holdReply false))

/-- A request is refused with RANGE and an empty body, and nothing else happens (R169). -/
def rangeRefused (c : Instr) (req : Requester) (kind : Byte) (p : Part) : Prop :=
  ∀ rest, exec c ⟨p, rest⟩ = .next ⟨answered req kind .range .empty p, rest⟩

/-- The command by which a frame arrives on the room link or on the board link. -/
def arrival (port : Port) (frame : List Byte) : Instr :=
  if port = .room then .roomLinkFrame frame else .boardLinkFrame frame

/-- The counter of strokes ended with a reason (R111). -/
def StrokeCounters.ended (c : StrokeCounters) : EndReason → Nat
  | .lifted => c.lifted
  | .abandoned => c.abandoned
  | .revoked => c.revoked
  | .cancelled => c.cancelled
  | .cleared => c.cleared

/-! ### Departures and joins that meet no waiting END -/

/-- The display queue's head leaves on the display link for one credit, the queue's waiting list being empty
(R140, R146). -/
def displaySent (head : QueueItem) (tail : List QueueItem) (p : Part) : Part :=
  { p with
    queues :=
      { p.queues with
        display :=
          { p.queues.display with
            items := tail
            counters :=
              { p.queues.display.counters with
                sent := min 65535 (p.queues.display.counters.sent + 1) } } }
    egress := { p.egress with credit := p.egress.credit - 1, displayBusy := true }
    sent := p.sent ++ [⟨.display, sealFrame (be16 head.seq ++ head.record.bytes)⟩] }

/-- The record queue's head leaves on the record link, the queue's waiting list being empty (R140,
R148). -/
def recordSent (head : QueueItem) (tail : List QueueItem) (p : Part) : Part :=
  { p with
    queues :=
      { p.queues with
        record :=
          { p.queues.record with
            items := tail
            counters :=
              { p.queues.record.counters with
                sent := min 65535 (p.queues.record.counters.sent + 1) } } }
    egress := { p.egress with recordBusy := true }
    sent := p.sent ++ [⟨.record, sealFrame (be16 head.seq ++ head.record.bytes)⟩] }

/-- The fan-out queue's head leaves on the room link, the queue's waiting list being empty; nothing is then
under offer (R140, R151, R152). -/
def fanoutSent (head : QueueItem) (tail : List QueueItem) (p : Part) : Part :=
  { p with
    queues :=
      { p.queues with
        fanout :=
          { p.queues.fanout with
            items := tail
            counters :=
              { p.queues.fanout.counters with
                sent := min 65535 (p.queues.fanout.counters.sent + 1) } } }
    egress := { p.egress with offer := .none }
    sent := p.sent ++ [⟨.room, fanoutFrame head⟩] }

/-- A record of no stroke joins one queue's tail, or leaves the queue as it is. -/
def InkQueue.pushIf (q : InkQueue) (joins : Bool) (r : InkRecord) (now : Tick) : InkQueue :=
  if joins then { q with items := q.items ++ [⟨r, q.nextSeq, now, none⟩], nextSeq := q.nextSeq + 1 }
  else q

/-- A record of no stroke joins every queue of a destination set (R126, R135, R162). -/
def Queues.pushAll (q : Queues) (dests : DestSet) (r : InkRecord) (now : Tick) : Queues :=
  { q with
    display := q.display.pushIf dests.display r now
    fanout := q.fanout.pushIf dests.fanout r now
    record := q.record.pushIf dests.record r now }

/-! ### The body lengths of the catalogue (section 10.3) -/

/-- The body length in bytes that the catalogue gives for a request kind; for the two kinds that carry a list
it follows from the list's count byte (R168, section 10.3). -/
def catalogueLength (kind : Byte) (body : List Byte) : Nat :=
  match kind.toNat with
  | 0x01 | 0x0F => 17
  | 0x0C => 13
  | 0x03 => 10
  | 0x12 => 6
  | 0x0B | 0x11 | 0x15 => 4
  | 0x04 | 0x1A => 3
  | 0x02 | 0x05 | 0x13 | 0x1F | 0x20 => 2
  | 0x0E | 0x1E => 1 + (body.headD 0).toNat
  | 0x06 | 0x07 | 0x0A | 0x0D | 0x10 | 0x16 | 0x17 | 0x18 | 0x19 | 0x1B | 0x1C => 1
  | _ => 0

/-! ### What every reset leaves (R13, R114, R134, R145, R180, …) -/

/-- A part `q` whose blocks have the values that every reset gives them, from the part `p` before: the ready
lines, the errors but for their counters, and the store are kept. The serial numbers, the trace of sent
frames and the held slots are the model's own (log entries 21 to 23). -/
structure BlocksReset (p q : Part) : Prop where
  tick : q.tick = 0
  seats : ∀ seat, q.seat seat = ⟨none, 0, none, 0, 0, none, none⟩
  identity : ∀ copy seat, look (q.copy copy).identity seat =
    ⟨false, if seat.val < 64 then some 0 else none, .student, 0, none, LayerSet.ofByte 0, none, none⟩
  rules : ∀ copy page i, look (look (q.copy copy).pages page) i =
    ⟨false, 0, 71, ⟨false, false, false⟩, ⟨false, false, false, false⟩, none, .deny, 0⟩
  defaults : ∀ copy page, look (q.copy copy).defaults page = .deny
  page : ∀ copy, (q.copy copy).page = 0
  staging : q.staging = ⟨false, 0⟩
  timing : q.timing = ⟨2500, 500⟩
  canvas : q.conditioning.canvasWidth = 19200 ∧ q.conditioning.canvasHeight = 10800
  estimators : ∀ i, (q.calibrationSet i).estimate = none ∧ (q.calibrationSet i).sum = 0 ∧
    (q.calibrationSet i).count = 0
  entries : ∀ i, q.entry i = .free
  ids : q.assembler.nextId = 1 ∧ q.assembler.nextSerial = 0
  strokes : q.assembler.counters = ⟨0, 0, 0, 0, 0, 0, 0, 0⟩
  refusals : q.refusals = ⟨0, 0, 0, 0⟩
  receivers : q.receivers = ⟨⟨0, 0, 0, 0⟩, ⟨0, 0, 0, 0⟩⟩
  layers : ∀ l, q.layer l = ⟨.closed, ⟨1, 0, 8, .sequential, ⟨true, true, true⟩⟩, 0⟩
  display : q.queue .display = ⟨[], 192, .dropOldest, 0, [], ⟨0, 0, 0, 0, 0, 0⟩⟩
  fanout : q.queue .fanout = ⟨[], 384, .dropOldest, 0, [], ⟨0, 0, 0, 0, 0, 0⟩⟩
  record : q.queue .record = ⟨[], 768, .stop, 0, [], ⟨0, 0, 0, 0, 0, 0⟩⟩
  held : q.queues.held = DestSet.empty
  egress : q.egress = ⟨0, false, false, p.egress.recorderReady, .replyFirst, p.egress.bridgeReady,
    q.egress.offer⟩
  history : q.history = ⟨[], 0, 0⟩
  items : ∀ k, look q.errors.items k = { look p.errors.items k with counter := 0 }
  log : q.errors.log = p.errors.log
  alert : q.errors.alertLow = p.errors.alertLow
  store : q.save = none ∧ q.store = p.store
  sent : q.sent = p.sent

/-! ### Layouts (R152, R178, R179) -/

/-- A room link frame of R178: its 8-byte header with its own length, the content, and a check code that
matches. -/
structure RoomLaidOut (kind channel : Byte) (dest seq : Half) (content frame : List Byte) : Prop where
  length : frame.length = content.length + 10
  header : frame.take 8 =
    [kind, channel] ++ be16 dest ++ be16 seq ++ be16 (BitVec.ofNat 16 frame.length)
  content : (frame.drop 8).take content.length = content
  code : codeMatches frame = true

/-- A point's 5 bytes: x, y and width (R179). -/
def pointLayout (q : Point) : List Byte :=
  be16 (BitVec.ofNat 16 q.x) ++ be16 (BitVec.ofNat 16 q.y) ++ [BitVec.ofNat 8 q.width]

/-- The points of a record in the order in which a link sends them: in sequence, or by R87's positions
(R88, R152). -/
def SentAs (order : PointOrder) (pts sent : List Point) : Prop :=
  sent.length = pts.length ∧ ∀ k, k < pts.length → sent[k]? =
    match order with
    | .sequential => pts[k]?
    | .interleaved =>
      if k < (pts.length + 1) / 2 then pts[2 * k]? else pts[2 * (k - (pts.length + 1) / 2) + 1]?

/-- The bytes of an ink record by R179. -/
def InkRecord.LaidOut (bytes : List Byte) : InkRecord → Prop
  | .strokeBegin id l seat tool colour isPrivate anchor tick =>
    bytes.length = 17 ∧ bytes = [0x11] ++ be16 (BitVec.ofNat 16 id) ++ [BitVec.ofNat 8 l.val,
      BitVec.ofNat 8 seat.val, tool.code, BitVec.ofNat 8 colour.val, if isPrivate then 1 else 0]
      ++ pointLayout anchor ++ be32 tick
  | .points id order pts =>
    bytes.length = 5 + 5 * pts.length ∧ ∃ sent, SentAs order pts sent ∧
      bytes = [0x12] ++ be16 (BitVec.ofNat 16 id)
        ++ [if order = .interleaved then 1 else 0, BitVec.ofNat 8 pts.length] ++ sent.flatMap pointLayout
  | .strokeEnd id final reason flags count =>
    bytes.length = 12 ∧ bytes = [0x13] ++ be16 (BitVec.ofNat 16 id) ++ pointLayout final
      ++ [reason.code, flags.code] ++ be16 (BitVec.ofNat 16 count)
  | .retract id l => bytes = [0x14] ++ be16 (BitVec.ofNat 16 id) ++ [BitVec.ofNat 8 l.val]
  | .layer l event =>
    bytes = [0x15, BitVec.ofNat 8 l.val, if event = .cleared then 1 else 0]

/-- The content of a notice's frame by R171 and R178; the thirteen error kinds are numbered in the order of
R180's table. -/
def Notice.LaidOut (bytes : List Byte) : Notice → Prop
  | .restarted cause load => bytes = [0x01, cause.code, load.code]
  | .committed mark substitute => bytes = [0x02, mark, if substitute then 1 else 0]
  | .storeDone origin success => bytes = [0x03, origin.code, if success then 0 else 1]
  | .errorNotice kind tick => bytes = [0x04, BitVec.ofNat 8 kind.index.val] ++ be32 tick

/-- The codes that R177 to R179 give the values in records, replies and notices: enumerations by their place in
the owning rule's list, sets by one bit for each member, multi-byte fields with the most significant byte
first. -/
structure CodesStand : Prop where
  half : ∀ hi lo : Byte, be16 (hi ++ lo) = [hi, lo]
  tick : ∀ a b c d : Byte, be32 (a ++ b ++ c ++ d) = [a, b, c, d]
  roles : [Role.student, .teacher, .guest].map Role.code = [0, 1, 2]
  actions : [Action.admitted, .redirect, .deliverPrivately, .deny].map Action.code = [0, 1, 2, 3]
  defaults : [DefaultAction.admitted, .deny].map DefaultAction.code = [0, 3]
  lockouts : [Lockout.denied, .notAllowed, .layerNotOpen, .tableFull].map Lockout.code = [0, 1, 2, 3]
  monitor : [MonitorState.noMarks, .locked, .lost].map MonitorState.code = [0, 1, 2]
  layers : [LayerState.closed, .opened, .frozen, .draining].map LayerState.code = [0, 1, 2, 3]
  orders : [PointOrder.sequential, .interleaved].map PointOrder.code = [0, 1]
  policies : [Policy.stop, .dropOldest].map Policy.code = [0, 1]
  priorities : [Priority.replyFirst, .oldestFirst].map Priority.code = [0, 1]
  severities : [Severity.alert, .advisory].map Severity.code = [0, 1]
  ports : [Port.board, .room, .display, .record].map Port.code = [0, 1, 2, 3]
  destSets : ∀ s : DestSet, s.code.toNat < 8 ∧ s.code.getLsbD 0 = s.display ∧
    s.code.getLsbD 1 = s.fanout ∧ s.code.getLsbD 2 = s.record
  roleSets : ∀ s : RoleSet, s.code.toNat < 8 ∧ s.code.getLsbD 0 = s.student ∧
    s.code.getLsbD 1 = s.teacher ∧ s.code.getLsbD 2 = s.guest
  toolSets : ∀ s : ToolSet, s.code.toNat < 16 ∧ s.code.getLsbD 0 = s.pen ∧
    s.code.getLsbD 1 = s.marker ∧ s.code.getLsbD 2 = s.eraser ∧ s.code.getLsbD 3 = s.finger
  layerSets : ∀ (s : LayerSet) (l : Fin 8), s.code.getLsbD l.val = s.has l
  tools : [Tool.pen, .marker, .eraser, .finger].map Tool.code = [0, 1, 2, 3]
  reasons : [EndReason.lifted, .abandoned, .revoked, .cancelled, .cleared].map EndReason.code =
    [0, 1, 2, 3, 4]
  flags : ∀ f : StrokeFlags, f.code.toNat < 8 ∧ f.code.getLsbD 0 = f.clipped ∧
    f.code.getLsbD 1 = f.gap ∧ f.code.getLsbD 2 = f.pointsLost
  statuses : [Status.ok, .busy, .pending, .state, .range, .conflict, .room, .notReady, .unknown,
    .malformed].map Status.code = [0, 1, 2, 3, 4, 5, 6, 7, 8, 9]
  causes : [RestartCause.power, .pin, .soft].map RestartCause.code = [0, 1, 2]
  loads : [LoadResult.valid, .invalid, .notLoaded].map LoadResult.code = [0, 1, 2]
  origins : [SaveOrigin.saveCalibration, .restoreFactory].map SaveOrigin.code = [0, 1]
  kinds : [ErrorKind.linkCheck, .malformedFrame, .unknownSource, .misplacedManagement, .sequenceGap,
    .tableFull, .overflowDisplay, .overflowFanout, .overflowRecord, .creditOverrun, .frameMarkLost,
    .replyOverflow, .storeFault].map ErrorKind.index = [0, 1, 2, 3, 4, 5, 6, 7, 8, 9, 10, 11, 12]

/-- A number in one byte, in two bytes, and a yes or no (R177). -/
def oneByte (n : Nat) : Byte := BitVec.ofNat 8 n

def twoBytes (n : Nat) : List Byte := be16 (BitVec.ofNat 16 n)

def yesByte (b : Bool) : Byte := if b then 1 else 0

/-- An optional field: a presence byte, then the value; absent, as many bytes as the value has, which hold
anything (R177, log entry 29). -/
def OptionLaidOut {α : Type} (width : Nat) (value : α → List Byte) (bytes : List Byte) : Option α → Prop
  | some a => bytes = 1 :: value a
  | none => ∃ free : List Byte, free.length = width ∧ bytes = 0 :: free

/-- Bytes that are the concatenation of some pieces, each laid out in its own way. -/
def Pieces : List (List Byte → Prop) → List Byte → Prop
  | [], bytes => bytes = []
  | piece :: rest, bytes => ∃ front back, bytes = front ++ back ∧ piece front ∧ Pieces rest back

/-- A list: a count byte, then its items one after the other (R177). -/
def ListLaidOut {α : Type} (item : α → List Byte → Prop) (l : List α) : List Byte → Prop :=
  Pieces ((fun bytes => bytes = [oneByte l.length]) :: l.map item)

/-- An identity entry by R17. -/
def IdentityEntry.LaidOut (e : IdentityEntry) : List Byte → Prop :=
  Pieces [fun b => b = [yesByte e.enabled, e.role.code, oneByte e.calibrationSet.val,
      e.allowedLayers.code],
    fun b => OptionLaidOut 1 (fun c : Fin 32 => [oneByte c.val]) b e.colourOverride,
    fun b => OptionLaidOut 1 (fun l : Fin 8 => [oneByte l.val]) b e.forcedLayer,
    fun b => OptionLaidOut 2 be16 b e.address,
    fun b => OptionLaidOut 6 (fun w : Window => twoBytes w.baseX ++ twoBytes w.baseY
      ++ [oneByte w.exponentX, oneByte w.exponentY]) b e.window]

/-- A rule's ten bytes less page and index, by R19; ANY is 8 (R177). -/
def ruleLayout (r : Rule) : List Byte :=
  [yesByte r.valid, oneByte r.low.val, oneByte r.high.val, r.roles.code, r.tools.code,
    match r.layerMatch with
    | none => 8
    | some l => oneByte l.val,
    r.action.code, oneByte r.target.val]

/-- A calibration set's five stored fields by R67 and R68. -/
def storedLayout (s : StoredSet) : List Byte :=
  be16 (BitVec.ofInt 16 s.offsetX) ++ be16 (BitVec.ofInt 16 s.offsetY) ++ twoBytes s.gainX
    ++ twoBytes s.gainY ++ twoBytes s.baseline ++ [oneByte s.exponent, yesByte s.autoApply]

/-- A layer mode's five fields by R116. -/
def modeLayout (m : LayerMode) : List Byte :=
  [oneByte m.smoothing, oneByte m.decimation, oneByte m.chop, m.order.code, m.dests.code]

/-- A bounding box's four bounds, by R157. -/
def boxLayout (b : Box) : List Byte :=
  twoBytes b.minX ++ twoBytes b.maxX ++ twoBytes b.minY ++ twoBytes b.maxY

/-- A summary's fields by R157. -/
def summaryLayout (s : Summary) : List Byte :=
  twoBytes s.id ++ [oneByte s.seat.val, oneByte s.layer.val, s.tool.code, oneByte s.colour.val]
    ++ boxLayout s.box ++ twoBytes s.count ++ [s.reason.code, s.flags.code] ++ be32 s.beginTick
    ++ be32 s.endTick ++ [s.delivered.code, yesByte s.retracted]

/-- One ink queue of READ_QUEUES by R144. -/
def QueueReport.LaidOut (q : QueueReport) : List Byte → Prop :=
  Pieces [fun b => b = twoBytes q.level ++ twoBytes q.capacity ++ twoBytes q.watermark
      ++ [q.policy.code, yesByte q.atWatermark] ++ be16 q.nextSeq,
    fun b => OptionLaidOut 6 (fun h : Half × Tick => be16 h.1 ++ be32 h.2) b q.head,
    fun b => b = [oneByte q.waitingLength],
    fun b => OptionLaidOut 1 (fun i : Fin 48 => [oneByte i.val]) b q.waitingHead,
    fun b => b = twoBytes q.counters.sent ++ twoBytes q.counters.oldestRemovals
      ++ twoBytes q.counters.beginDiscards ++ twoBytes q.counters.pointsDiscards
      ++ twoBytes q.counters.endWaits ++ twoBytes q.counters.flushed]

/-- An entry of READ_STROKES by R112; how its state and its last fields stand is log entries 19 and 31. -/
def strokeLayout (r : StrokeReport) : List Byte :=
  [oneByte r.index.val, if r.ending = none then 1 else 2] ++ twoBytes r.core.id
    ++ [oneByte r.core.seat.val, oneByte r.core.layer.val, r.core.tool.code,
      oneByte r.core.colour.val, yesByte r.core.isPrivate, r.core.dests.code, r.core.suppressed.code,
      r.delivered.code, r.core.flags.code]
    ++ be32 r.core.beginTick ++ twoBytes r.core.count ++ boxLayout r.core.box
    ++ [oneByte r.pendingPoints]
    ++ match r.ending with
      | none => []
      | some (reason, tick, waits) => [reason.code] ++ be32 tick ++ [waits.code]

/-- A receiver's counters by R12 and R113. -/
def linkLayout (c : LinkCounters) : List Byte :=
  twoBytes c.checkDrops ++ twoBytes c.malformedDrops ++ twoBytes c.unknownSource ++ twoBytes c.inkTaken

/-- A seat of READ_COUNTERS by R113. -/
def SeatReport.LaidOut (s : SeatReport) : List Byte → Prop :=
  Pieces [fun b => b = twoBytes s.accepted ++ twoBytes s.missing,
    fun b => OptionLaidOut 1 (fun l : Lockout => [l.code]) b s.lockout,
    fun b => b = [yesByte s.hasOpenStroke]]

/-- The first-error log's record by R182. -/
def LogRecord.LaidOut (l : LogRecord) : List Byte → Prop :=
  Pieces [fun b => b = [oneByte l.kind.index.val],
    fun b => OptionLaidOut 1 (fun q : Port => [q.code]) b l.source.port,
    fun b => OptionLaidOut 1 (fun c : Nat => [oneByte c]) b l.source.channel,
    fun b => OptionLaidOut 2 be16 b l.source.address,
    fun b => OptionLaidOut 1 (fun s : Fin 72 => [oneByte s.val]) b l.source.seat,
    fun b => b = be32 l.tick ++ [oneByte l.source.header.length] ++ l.source.header]

/-- READ_ERRORS's body by R184: the log's record and the origin of a save stand only when there is one. The byte
of a status is log entry 30, the level of ALERTn log entry 19. -/
def ErrorsReport.LaidOut (r : ErrorsReport) : List Byte → Prop :=
  Pieces [Pieces ((indexes 13).map fun k b => b = [yesByte (look r.items k).status,
      yesByte (look r.items k).mask, (look r.items k).severity.code] ++ twoBytes (look r.items k).counter),
    fun b => b = [if r.alertLow then 0 else 1],
    fun b => match r.log with
      | none => b = [0]
      | some l => ∃ record, b = 1 :: record ∧ l.LaidOut record,
    fun b => b = match r.save with
      | none => [0]
      | some o => [1, o.code]]

/-- The bytes of a reply's body: its owning rule's fields in order, each by R177. -/
def ReplyBody.LaidOut (b : List Byte) : ReplyBody → Prop
  | .empty => b = []
  | .identity e => e.LaidOut b
  | .rule r => b = ruleLayout r
  | .ruleRead r d n => b = ruleLayout r ++ [d.code, oneByte n.val]
  | .defaultAction n a => b = [oneByte n.val, a.code]
  | .page n => b = [oneByte n.val]
  | .skip k => b = [oneByte k]
  | .cancelled was k => b = [yesByte was, oneByte k]
  | .monitor m => b = [m.state.code, m.lastMark] ++ be32 m.lastPeriod ++ be32 m.minPeriod
      ++ be32 m.maxPeriod ++ twoBytes m.captures ++ twoBytes m.substitutes
      ++ [yesByte m.commitPending, oneByte m.countdown] ++ twoBytes m.frameTimeout
      ++ twoBytes m.idleTimeout ++ be32 m.tick
  | .timing idle frame => b = twoBytes idle ++ twoBytes frame
  | .calibration s e =>
    Pieces [fun b => b = storedLayout s, fun b => OptionLaidOut 2 twoBytes b e] b
  | .calibrationRead s e count window =>
    Pieces [fun b => b = storedLayout s, fun b => OptionLaidOut 2 twoBytes b e,
      fun b => b = twoBytes count ++ twoBytes window] b
  | .setList l => ListLaidOut (fun i b => b = [oneByte i.val]) l b
  | .widthTable w => b.length = 16 ∧ ∀ i : Fin 16, b[i.val]? = some (oneByte (look w i))
  | .canvas w h => b = twoBytes w ++ twoBytes h
  | .layerMode m => b = modeLayout m
  | .layerState l s => b = [oneByte l.val, s.code]
  | .absentLayer l s => b = [l, s]
  | .layerRoom l s d => b = [oneByte l.val, s.code, d.code]
  | .layerEnded l s n => b = [oneByte l.val, s.code, oneByte n]
  | .layerCleared l s n m => b = [oneByte l.val, s.code, oneByte n] ++ twoBytes m
  | .layers rows => Pieces ((indexes 8).map fun l b => b = [(look rows l).state.code]
      ++ modeLayout (look rows l).mode ++ [oneByte (look rows l).openCount,
        oneByte (look rows l).endingCount, yesByte (look rows l).congested,
        (look rows l).atWatermark.code]) b
  | .queueSettings w pol => b = twoBytes w ++ [pol.code]
  | .priority m => b = [m.code]
  | .flushed r s c => b = twoBytes r ++ [oneByte s, oneByte c]
  | .queues r => Pieces [r.display.LaidOut, r.fanout.LaidOut, r.record.LaidOut,
      fun b => b = [oneByte r.credit, yesByte r.recorderReady, r.priority.code, yesByte r.bridgeReady],
      fun b => match r.offer with
        | .none => ∃ free, b = [0, free]
        | .reply => b = [1, 0]
        | .fanout => b = [1, 1],
      fun b => b = [oneByte r.replyLevel]] b
  | .strokes r => Pieces [fun b => b = [oneByte r.occupied, oneByte r.roomOccupied] ++ twoBytes r.nextId,
      ListLaidOut (fun x b => b = strokeLayout x) r.entries,
      fun b => OptionLaidOut 1 (fun i : Fin 48 => [oneByte i.val]) b r.resume] b
  | .counters r => Pieces [fun b => b = linkLayout r.board ++ linkLayout r.room
        ++ twoBytes r.refusals.denied ++ twoBytes r.refusals.notAllowed
        ++ twoBytes r.refusals.layerNotOpen ++ twoBytes r.refusals.tableFull
        ++ twoBytes r.strokes.begun ++ twoBytes r.strokes.lifted ++ twoBytes r.strokes.abandoned
        ++ twoBytes r.strokes.revoked ++ twoBytes r.strokes.cancelled ++ twoBytes r.strokes.cleared
        ++ twoBytes r.strokes.endWaits ++ twoBytes r.strokes.lockoutDrops
        ++ twoBytes r.historyOverrun ++ twoBytes r.noticesLost,
      ListLaidOut SeatReport.LaidOut r.seats] b
  | .history l n u => Pieces [ListLaidOut (fun s b => b = summaryLayout s) l,
      fun b => b = twoBytes n ++ twoBytes u] b
  | .undone id l d => b = twoBytes id ++ [oneByte l.val, d.code]
  | .lacking d => b = [d.code]
  | .errors r => r.LaidOut b
  | .kindList l => ListLaidOut (fun k b => b = [oneByte k.val]) l b
  | .errorMask k m => b = [oneByte k.val, yesByte m]
  | .errorSeverity k s => b = [oneByte k.val, s.code]

/-! ### Records handed to the ink queues (R81, R88, R95, R103, R135 to R139) -/

/-- The records of a queue among which DROP_OLDEST may remove a POINTS record: all but the fan-out record
under offer (R137, R151). -/
def Part.removable (p : Part) (d : Dest) : List QueueItem :=
  if d = .fanout ∧ p.egress.offer = .fanout then (p.queue d).items.tail else (p.queue d).items

/-- Whether an ink queue takes a record handed to it: it has a free slot, or DROP_OLDEST can free one (R125,
R136, R137). -/
def Part.admits (p : Part) (d : Dest) : Prop :=
  p.hasRoom d = true ∨
    (p.queue d).policy = .dropOldest ∧ ∃ x ∈ p.removable d, x.isPoints = true

/-- The room egress has made the choice that it may make (R150). -/
def Part.RoomChosen (p : Part) : Prop :=
  p.egress.bridgeReady = true → p.agent.replies ≠ [] ∨ p.queues.fanout.items ≠ [] →
    p.egress.offer ≠ .none

/-- A stroke's record has joined a queue's tail (R135, R136), the oldest removable POINTS record having left
a queue without room (R137, R139). -/
structure Joined (d : Dest) (r : InkRecord) (serial : Nat) (p q : Part) : Prop where
  fits : p.hasRoom d = true → q.queue d =
    { p.queue d with
      items := (p.queue d).items ++ [⟨r, (p.queue d).nextSeq, p.tick, some serial⟩]
      nextSeq := (p.queue d).nextSeq + 1 }
  replaces : p.hasRoom d = false → ∃ before gone after,
    (p.queue d).items = before ++ gone :: after ∧ gone.isPoints = true ∧
      (if d = .fanout ∧ p.egress.offer = .fanout then
        before ≠ [] ∧ ∀ x ∈ before.tail, x.isPoints = false
      else ∀ x ∈ before, x.isPoints = false) ∧
      q.queue d =
        { p.queue d with
          items := before ++ after ++ [⟨r, (p.queue d).nextSeq, p.tick, some serial⟩]
          nextSeq := (p.queue d).nextSeq + 1
          counters :=
            { (p.queue d).counters with
              oldestRemovals := min 65535 ((p.queue d).counters.oldestRemovals + 1) } }

/-- A stroke's record has been handed to the queues of some destinations, `r` being its copy for each: it has
joined those that take it, the others among them are `turned`, the rest stand, and each removal, discard or
wait has raised its queue's QUEUE_OVERFLOW (R136 to R139). -/
structure Handed (targets : Dest → Prop) (r : Dest → InkRecord) (serial : Nat) (turned : InkQueue → InkQueue)
    (p q : Part) : Prop where
  joins : ∀ d, targets d → p.admits d → Joined d (r d) serial p q
  turns : ∀ d, targets d → ¬ p.admits d → q.queue d = turned (p.queue d)
  stands : ∀ d, ¬ targets d → q.queue d = p.queue d
  raises : ∀ d, targets d → p.hasRoom d = false → look q.errors.items (overflowKind d).index =
    { look p.errors.items (overflowKind d).index with
      status := true
      counter := min 65535 ((look p.errors.items (overflowKind d).index).counter + 1) }
  quiet : ∀ d, (targets d → p.hasRoom d = true) →
    look q.errors.items (overflowKind d).index = look p.errors.items (overflowKind d).index

/-- Whether a stroke's records go to a destination: it is in the destination set and not suppressed (R81,
R103). -/
def StrokeCore.goesTo (c : StrokeCore) (d : Dest) : Prop :=
  c.dests.has d = true ∧ c.suppressed.has d = false

/-- The slot that the departure of a queue's head has freed has gone to the first END on the queue's waiting
list (R104, R105, R140): `tail` are the records left, `i` the entry served, `ws` the entries that still
wait. -/
structure SlotServed (d : Dest) (tail : List QueueItem) (i : Fin 48) (ws : List (Fin 48)) (c : StrokeCore)
    (e : Ending) (p q : Part) : Prop where
  queue : q.queue d =
    { p.queue d with
      items := tail ++ [⟨e.record, (p.queue d).nextSeq, p.tick, some c.serial⟩]
      nextSeq := (p.queue d).nextSeq + 1
      waiting := ws
      counters :=
        { (p.queue d).counters with sent := min 65535 ((p.queue d).counters.sent + 1) } }
  queues : ∀ other, other ≠ d → q.queue other = p.queue other
  completes : (e.waitsOn.erase d).isEmpty = true → q.entry i = .free ∧ q.history = p.history.append
    ⟨c.id, c.seat, c.layer, c.tool, c.colour, c.box, c.count, e.reason, c.flags, c.beginTick, e.endTick,
      e.delivered.insert d, false⟩
  waits : (e.waitsOn.erase d).isEmpty = false → q.history = p.history ∧ q.entry i = .ending c
    { e with waitsOn := e.waitsOn.erase d, delivered := e.delivered.insert d }
  entries : ∀ j, j ≠ i → q.entry j = p.entry j
  rest : q = { p with
    assembler := { p.assembler with entries := q.assembler.entries }
    queues := q.queues
    history := q.history
    egress := q.egress
    sent := q.sent }

/-! ### Bounds (R134, R145, R156) -/

/-- No queue holds more than its capacity, the balance and the history list keep their limits. -/
structure Part.Bounded (p : Part) : Prop where
  ink : ∀ d, p.level d ≤ Config.capacity d
  replies : p.agent.replies.length ≤ Config.replyCapacity
  credit : p.egress.credit ≤ Config.creditMax
  history : p.history.list.length ≤ Config.historyLimit
  unread : p.history.unread ≤ p.history.list.length

/-! ### The egress leaves nothing undone (R146, R148, R150) -/

/-- Outside a reset, no link is idle while its head may leave, and the room link has an offer whenever the
bridge is ready and a frame waits. -/
structure Part.Settled (p : Part) : Prop where
  display : p.inReset = false → p.queues.display.items ≠ [] → 1 ≤ p.egress.credit →
    p.egress.displayBusy = true
  record : p.inReset = false → p.queues.record.items ≠ [] → p.egress.recorderReady = true →
    p.egress.recordBusy = true
  room : p.inReset = false → p.egress.bridgeReady = true →
    p.agent.replies ≠ [] ∨ p.queues.fanout.items ≠ [] → p.egress.offer ≠ .none

/-- A frame under offer stands at the head of its queue, and the bridge is ready for it (R151). -/
structure Part.OfferStands (p : Part) : Prop where
  reply : p.egress.offer = .reply → p.agent.replies ≠ []
  fanout : p.egress.offer = .fanout → p.queues.fanout.items ≠ []
  ready : p.egress.offer ≠ .none → p.egress.bridgeReady = true

/-- No slot is held between two commands (R125, R168). -/
def Part.NoSlotHeld (p : Part) : Prop := p.queues.held = DestSet.empty ∧ p.agent.replyHeld = false

/-! ### Seats, entries and layers (R90, R91, R115) -/

/-- A seat's open stroke reference names its OPEN entry and no other, and no seat has both a reference and
a lockout (R91). -/
structure Part.SeatsAgree (p : Part) : Prop where
  reference : ∀ seat i,
    (p.seat seat).openEntry = some i ↔ ∃ c a, p.entry i = .opened c a ∧ c.seat = seat
  exclusive : ∀ seat, (p.seat seat).openEntry = none ∨ (p.seat seat).lockout = none

/-- At most 40 entries belong to room seats (R90). -/
def Part.RoomShare (p : Part) : Prop :=
  p.countEntries Entry.isRoomOccupied ≤ Config.roomEntryLimit

/-- A layer's open stroke count is the number of its OPEN entries; a CLOSED layer has none, a DRAINING one
has some (R115, R122). -/
structure Part.LayersAgree (p : Part) : Prop where
  count : ∀ l, (p.layer l).openCount = p.countEntries (Entry.isOpenOn l)
  closed : ∀ l, (p.layer l).state = .closed → (p.layer l).openCount = 0
  draining : ∀ l, (p.layer l).state = .draining → 1 ≤ (p.layer l).openCount

/-! ### Marks (R39, R42, R43, R44, R11) -/

/-- Whether a mark applies the pending commit (R42). -/
abbrev Part.applies (p : Part) : Prop := p.staging.pending = true ∧ p.staging.countdown = 0

/-- Whether the pending commit takes a seat's entry from enabled to disabled (R43). -/
def Part.revokedBy (p : Part) (seat : Fin 72) : Bool :=
  (look p.active.identity seat).enabled && !(look p.staged.identity seat).enabled

/-- How many OPEN strokes the pending commit revokes (R43). -/
def Part.revokedStrokes (p : Part) : Nat :=
  p.countEntries fun e => match e with
    | .opened c _ => p.revokedBy c.seat
    | _ => false

/-- The application of a commit (R11, R43, R44, R110): the tables change whole, the OPEN strokes of the seats it
disables end REVOKED one after the other in ascending entry index, expected sequences become absent, and then
COMMITTED is built. -/
def CommitApplied (mark : Byte) (substitute : Bool) (p q : Part) : Prop :=
  ∃ (revoked : List (Fin 48)) (seats : Vector Seat 72),
    revoked.Pairwise (· < ·) ∧
    (∀ i, i ∈ revoked ↔ ∃ c a, p.entry i = .opened c a ∧ p.revokedBy c.seat = true) ∧
    (let ended := revoked.foldl (endStroke .revoked) { p with active := p.staged, staging := ⟨false, 0⟩ }
    (∀ seat, look seats seat = { ended.seat seat with
      expected :=
        if seat.val < 64 ∧ (look p.active.identity seat).address ≠
              (look p.staged.identity seat).address ∨
            (look p.active.identity seat).enabled = false ∧
              (look p.staged.identity seat).enabled = true then none
        else (ended.seat seat).expected }) ∧
    q = notice (.committed mark substitute) { ended with seats := seats })

/-- What every mark does to the tables, to staging control, to the seats and to the blocks it leaves alone
(R11, R39, R42, R43, R44). -/
structure MarkTaken (mark : Byte) (substitute : Bool) (p q : Part) : Prop where
  staged : q.staged = p.staged
  active : q.active = if p.applies then p.staged else p.active
  staging : q.staging =
    if p.applies then ⟨false, 0⟩
    else if p.staging.pending then ⟨true, p.staging.countdown - 1⟩ else p.staging
  committed : p.applies → p.agent.replyHeld = false →
    (∃ item ∈ q.agent.replies, item.frame = .notice (.committed mark substitute)) ∨
      8 ≤ q.agent.replies.length
  revoked : p.applies → p.SeatsAgree → ∀ seat, (look p.active.identity seat).enabled = true →
    (look p.staged.identity seat).enabled = false → (q.seat seat).openEntry = none
  ends : p.applies → ∀ i c a, p.entry i = .opened c a → p.revokedBy c.seat = true →
    q.entry i = .free ∨ ∃ c' e, q.entry i = .ending c' e ∧ c'.id = c.id ∧ e.reason = .revoked ∧
      e.endTick = p.tick
  counted : q.assembler.counters.revoked =
    if p.applies ∧ p.revokedStrokes ≠ 0 then
      min 65535 (p.assembler.counters.revoked + p.revokedStrokes)
    else p.assembler.counters.revoked
  others : ∀ seat, ¬ p.applies ∨ (look p.active.identity seat).enabled = false ∨
    (look p.staged.identity seat).enabled = true →
      (q.seat seat).openEntry = (p.seat seat).openEntry
  expected : ∀ seat, (q.seat seat).expected =
    if p.applies ∧ (seat.val < 64 ∧ (look p.active.identity seat).address ≠
          (look p.staged.identity seat).address ∨
        (look p.active.identity seat).enabled = false ∧
          (look p.staged.identity seat).enabled = true) then none
    else (p.seat seat).expected
  seats : ∀ seat, q.seat seat =
    { p.seat seat with
      expected := (q.seat seat).expected
      openEntry := (q.seat seat).openEntry }
  untouched : q.tick = p.tick ∧ q.phase = p.phase ∧ q.timing = p.timing ∧
    q.conditioning = p.conditioning ∧ q.receivers = p.receivers ∧ q.refusals = p.refusals ∧
    q.store = p.store ∧ q.save = p.save

/-- A mark's two events, the commit step and the point flush (R39, R42), from the part `p` whose monitor has
taken the mark. When the mark applies a commit, which of the two comes first is free. -/
structure MarkFlushes (mark : Byte) (substitute : Bool) (p q : Part) : Prop where
  waits : ¬ p.applies → q = settle (flushPoints { p with staging := q.staging })
  applies : p.applies →
    let r := { p with freeDraws := p.freeDraws + 1 }
    q = (if Config.commitFirst p.freeDraws = true then
      settle (flushPoints (applyCommit mark substitute r))
    else settle (applyCommit mark substitute (flushPoints r)))

/-! ### Stroke ids (R92, R156) -/

/-- No id is held twice, every held id and the next id lie in 1 to 65535, and the history list keeps its
limit. -/
structure Part.IdsUnique (p : Part) : Prop where
  nodup : p.heldIds.Nodup
  range : ∀ v ∈ p.heldIds, 1 ≤ v ∧ v ≤ 65535
  next : 1 ≤ p.assembler.nextId ∧ p.assembler.nextId ≤ 65535
  history : p.history.list.length ≤ Config.historyLimit

/-! ### Waiting ENDs (R103, R104, R136) -/

/-- Whether an entry is ENDING and its END waits for a queue. -/
def Entry.waitsFor (d : Dest) : Entry → Bool
  | .ending _ e => e.waitsOn.has d
  | _ => false

/-- A queue's waiting list names, once each, the ENDING entries whose END waits for it; an ENDING entry
waits for some queue, and for none that has taken its END; and a queue with a waiting list is full, no slot
being held and no queue above its capacity. -/
structure Part.WaitingAgrees (p : Part) : Prop where
  free : p.queues.held = DestSet.empty
  ink : ∀ d, p.level d ≤ Config.capacity d
  once : ∀ d, (p.queue d).waiting.Nodup
  names : ∀ d i, i ∈ (p.queue d).waiting ↔ (p.entry i).waitsFor d = true
  waits : ∀ i c e, p.entry i = .ending c e → e.waitsOn.isEmpty = false
  apart : ∀ i c e d, p.entry i = .ending c e → e.waitsOn.has d = true → e.delivered.has d = false
  full : ∀ d, (p.queue d).waiting ≠ [] → p.level d = Config.capacity d

/-! ### The order of a stroke's records in a queue (R141) -/

/-- Whether a record is a BEGIN. -/
def InkRecord.isBegin : InkRecord → Bool
  | .strokeBegin _ _ _ _ _ _ _ _ => true
  | _ => false

/-- Whether a record is an END. -/
def InkRecord.isEnd : InkRecord → Bool
  | .strokeEnd _ _ _ _ _ => true
  | _ => false

/-- In every queue, of two records of one stroke the later is no BEGIN and the earlier is no END; a stroke
whose END is in a queue is not OPEN and does not wait there; strokes are told apart by their serial
numbers. -/
structure Part.RecordsOrdered (p : Part) : Prop where
  pairs : ∀ d, (p.queue d).items.Pairwise fun x y =>
    x.serial = y.serial → x.serial ≠ none → x.record.isEnd = false ∧ y.record.isBegin = false
  distinct : ∀ i j ci cj, (p.entry i).core? = some ci → (p.entry j).core? = some cj →
    ci.serial = cj.serial → i = j
  entriesOlder : ∀ i c, (p.entry i).core? = some c → c.serial < p.assembler.nextSerial
  itemsOlder : ∀ d x n, x ∈ (p.queue d).items → x.serial = some n → n < p.assembler.nextSerial
  ended : ∀ d x i c, x ∈ (p.queue d).items → x.record.isEnd = true → (p.entry i).core? = some c →
    x.serial = some c.serial → (∃ e, p.entry i = .ending c e) ∧ (p.entry i).waitsFor d = false
  endRecord : ∀ i c e, p.entry i = .ending c e → e.record.isEnd = true

/-! ### Tables (R5, R16) -/

/-- No two enabled room entries of a copy carry one address. -/
def Tables.AddressesDistinct (t : Tables) : Prop :=
  ∀ i j, isRoomSeat i = true → isRoomSeat j = true → (look t.identity i).enabled = true →
    (look t.identity j).enabled = true → (look t.identity i).address = (look t.identity j).address →
    i = j

/-- An enabled room entry has a window and an address in 1 to 65534 (R14, R16). -/
def Tables.EnabledComplete (t : Tables) : Prop :=
  ∀ i, isRoomSeat i = true → (look t.identity i).enabled = true →
    (look t.identity i).window.isSome = true ∧
      ∃ a, (look t.identity i).address = some a ∧ 1 ≤ a.toNat ∧ a.toNat ≤ 65534

/-- Both copies keep the two laws of the identity table. -/
structure Part.TablesSound (p : Part) : Prop where
  activeDistinct : p.active.AddressesDistinct
  stagedDistinct : p.staged.AddressesDistinct
  activeComplete : p.active.EnabledComplete
  stagedComplete : p.staged.EnabledComplete

/-! ### Admission (R19, R22) -/

/-- A rule fits a touch-down (R19). -/
structure Rule.Fits (r : Rule) (seat : Fin 72) (role : Role) (tool : Tool) (target : Fin 8) : Prop where
  valid : r.valid = true
  low : r.low ≤ seat
  high : seat ≤ r.high
  role : r.roles.has role = true
  tool : r.tools.has tool = true
  layer : r.layerMatch = none ∨ r.layerMatch = some target

/-- What an action makes of a touch-down (R23): the chosen layer and the private flag, none for DENY. -/
def actionOutcome (a : Action) (own target : Fin 8) : Option (Fin 8 × Bool) :=
  match a with
  | .admitted => some (target, false)
  | .redirect => some (own, false)
  | .deliverPrivately => some (target, true)
  | .deny => none

/-- The deciding action of a touch-down leads to an outcome (R21, R22, R23): the chosen layer and the private
flag, or none for DENY. It is the action of the first rule of the active page that fits, or the page's
default. -/
def Part.Decides (p : Part) (seat : Fin 72) (s : Sample) (o : Option (Fin 8 × Bool)) : Prop :=
  let e := look p.active.identity seat
  let target := e.forcedLayer.getD s.layer
  let page := look p.active.pages p.active.page
  (∃ k : Fin 16, (look page k).Fits seat e.role s.tool target ∧
      (∀ j : Fin 16, j < k → ¬ (look page j).Fits seat e.role s.tool target) ∧
      actionOutcome (look page k).action (look page k).target target = o) ∨
    (∀ k : Fin 16, ¬ (look page k).Fits seat e.role s.tool target) ∧
      (look p.active.defaults p.active.page = .admitted ∧ o = some (target, false) ∨
        look p.active.defaults p.active.page = .deny ∧ o = none)

/-! ### Errors (R181, R182, R183) -/

/-- ALERTn is low exactly when some kind has its status set, its mask off and severity ALERT (R183). -/
def Part.AlertAgrees (p : Part) : Prop :=
  p.errors.alertLow = true ↔ ∃ k : Fin 13,
    (look p.errors.items k).status = true ∧ (look p.errors.items k).mask = false ∧
      (look p.errors.items k).severity = .alert

/-- While the log holds a kind, that kind's status is set (R182). -/
def Part.LogAgrees (p : Part) : Prop :=
  ∀ l, p.errors.log = some l → (look p.errors.items l.kind.index).status = true

/-! ### Points inside the canvas (R54, R56, R77) -/

/-- A stroke's bounds on one axis lie in order on a canvas of an extent (R54). -/
def AxisBounds.within (b : AxisBounds) (extent : Nat) : Prop := b.lo ≤ b.hi ∧ b.hi < extent

/-- A point lies inside a stroke's bounds (R132). -/
def Assembly.holds (a : Assembly) (x y : Nat) : Prop :=
  a.boundsX.lo ≤ x ∧ x ≤ a.boundsX.hi ∧ a.boundsY.lo ≤ y ∧ y ≤ a.boundsY.hi

/-- Every point an OPEN stroke keeps lies inside its bounds, its pending list is shorter than its chop
length, and its windows hold from 1 to 2^B points (R73, R77, R80). -/
structure Assembly.Sound (a : Assembly) : Prop where
  boundsX : a.boundsX.lo ≤ a.boundsX.hi
  boundsY : a.boundsY.lo ≤ a.boundsY.hi
  stage1 : ∀ q ∈ a.stage1, a.holds q.x q.y
  stage2 : ∀ q ∈ a.stage2, a.holds q.x q.y
  fill1 : 1 ≤ a.stage1.length ∧ a.stage1.length ≤ 2 ^ a.smoothing
  fill2 : 1 ≤ a.stage2.length ∧ a.stage2.length ≤ 2 ^ a.smoothing
  last : a.holds a.lastContact.x a.lastContact.y
  emitted : a.holds a.lastEmitted.x a.lastEmitted.y
  pending : ∀ q ∈ a.pending, a.holds q.x q.y
  short : a.pending.length < a.chop
  counter : a.counter ≤ a.decimation

/-- Every OPEN stroke's assembly state is sound and its bounds lie on the canvas in force, the canvas is not
empty, and no layer's mode has a chop length of 0 (R54, R71, R116). -/
structure Part.StrokesSound (p : Part) : Prop where
  strokes : ∀ i c a, p.entry i = .opened c a → a.Sound
  inside : ∀ i c a, p.entry i = .opened c a →
    a.boundsX.within p.conditioning.canvasWidth ∧ a.boundsY.within p.conditioning.canvasHeight
  canvas : 1 ≤ p.conditioning.canvasWidth ∧ 1 ≤ p.conditioning.canvasHeight
  chop : ∀ l, 1 ≤ (p.layer l).mode.chop

end Sys2Proof.Machine
end

