-- ==== Sys2Proof/WellFormed.lean ====
section
/-! DEFINITION. Which terms of `Instr` are commands the part can be sent: what the plain fields of a row
do not say by themselves. -/

namespace Sys2Proof

/-- The two kinds of inward display frame with a row of their own, by the kind byte of a frame of their
length (R176). -/
def isMarkOrGrant (frame : List Byte) : Bool :=
  match frame with
  | [kind, _, _, _] => decide (kind = 0x21) || decide (kind = 0x22)
  | _ => false

/-- A list of items fits its count byte (R177). -/
def fitsCount (items : List Byte) : Bool := decide (items.length < 256)

/-- A body fits the frame length field (R175). -/
def fitsFrame (body : List Byte) : Bool := decide (body.length + 10 < 65536)

/-- A well-formed command. A list in a request's body fits its count byte; an UNKNOWN_REQUEST carries a kind
that the catalogue does not list (R168) and a body that fits a frame; a DISPLAY_FRAME_DISCARD carries a
frame that is neither a mark nor a grant (R147). Every other term is a command. -/
def Instr.wellFormed : Instr → Bool
  | .applyBaseline _ sets => fitsCount sets
  | .clearErrors _ kinds => fitsCount kinds
  | .unknownRequest _ kind body => !inCatalogue kind && fitsFrame body
  | .displayFrameDiscard frame => !isMarkOrGrant frame
  | .powerOnReset => true
  | .resetnLow => true
  | .resetEnd => true
  | .loadComplete => true
  | .boardLinkFrame _ => true
  | .roomLinkFrame _ => true
  | .quietExpiry _ => true
  | .frameMark _ _ => true
  | .substituteMark => true
  | .creditGrant _ _ => true
  | .displayTransmitEnd => true
  | .recordReadyChange _ => true
  | .recordTransmitEnd => true
  | .bridgeReadyChange _ => true
  | .bridgeAccept => true
  | .saveComplete _ => true
  | .writeIdentity _ _ => true
  | .readIdentity _ _ _ => true
  | .writeRule _ _ => true
  | .readRule _ _ _ _ => true
  | .setDefaultAction _ _ _ => true
  | .selectPage _ _ => true
  | .commit _ _ => true
  | .cancelCommit _ => true
  | .discardStaged _ => true
  | .readMonitor _ _ => true
  | .setTiming _ _ _ => true
  | .writeCalibration _ _ => true
  | .readCalibration _ _ => true
  | .writeWidthTable _ _ _ => true
  | .readWidthTable _ _ => true
  | .setCanvas _ _ _ => true
  | .setLayerMode _ _ => true
  | .openLayer _ _ => true
  | .freezeLayer _ _ => true
  | .thawLayer _ _ => true
  | .closeLayer _ _ => true
  | .closeLayerNow _ _ => true
  | .clearLayer _ _ => true
  | .readLayers _ => true
  | .setQueue _ _ _ _ => true
  | .setRoomPriority _ _ => true
  | .flushQueue _ _ => true
  | .readQueues _ _ => true
  | .readStrokes _ _ => true
  | .readCounters _ _ _ _ => true
  | .readHistory _ _ => true
  | .undo _ _ => true
  | .readErrors _ => true
  | .setErrorMask _ _ _ => true
  | .setErrorSeverity _ _ _ => true
  | .saveCalibration _ => true
  | .restoreFactory _ => true
  | .resetPart _ => true

end Sys2Proof
end

