-- ==== Sys2Proof/Certificates/Slice0/Obligations.lean ====
section
/-! DEFINITION. The statements for the provers. A part is written `p`, the commands that wait behind the one
taken `rest`; a statement about a next state gives that state, or what it holds. -/

open Sys2Proof Sys2Proof.Machine

/-! ### The step -/

/-- The command at the front of the queue is the one a step executes, on the queue's rest. -/
def Obligations.StepTakesFrontCommand : Prop :=
  ∀ (c : Instr) (p : Part) (rest : List Instr), step ⟨p, c :: rest⟩ = exec c ⟨p, rest⟩

/-- With no command waiting a tick passes (R33), unless a reset holds the part (R187): only the tick count
and the counter of free draws change, and exactly the deadlines reached at the new count wait, once each
(R10, R38). That a step on an empty queue is one tick is the model's choice (log entry 1), and the order
of several expiries is free (log entry 2). -/
def Obligations.EmptyQueueLetsATickPass : Prop :=
  ∀ p : Part,
    (p.inReset = true → step ⟨p, []⟩ = .next ⟨p, []⟩) ∧
    (p.inReset = false → ∃ due draws,
      step ⟨p, []⟩ = .next ⟨{ p with tick := p.tick + 1, freeDraws := draws }, due⟩ ∧
      due.Nodup ∧
      (∀ c ∈ due, c = .substituteMark ∨ ∃ seat, c = .quietExpiry seat) ∧
      (∀ seat, Instr.quietExpiry seat ∈ due ↔ ∃ interval, (p.seat seat).quiet = some interval ∧
        interval ≤ (p.tick + 1 - (p.seat seat).lastTick).toNat) ∧
      (Instr.substituteMark ∈ due ↔ ∃ d, p.monitor.deadline = some d ∧
        d.interval ≤ (p.tick + 1 - d.armed).toNat))

/-- Every command is executed whole, without a fault or a refusal, and neither reads nor changes the
commands that wait. That no rule stops the part is the model's inference (log entry 28, DEDUCED), and so is
what an event does without its occasion (log entry 4, DEDUCED). -/
def Obligations.EveryCommandCompletes : Prop :=
  ∀ (c : Instr) (p : Part), ∃ q, ∀ rest, exec c ⟨p, rest⟩ = .next ⟨q, rest⟩

/-! ### Resets and start-up -/

/-- POWER_ON_RESET and RESETN_LOW hold the part (R187): a save in flight is abandoned and the store is not
written (R192), nothing is sent, both record links fall idle. At a power-on the error monitor takes its
power-on values; at a pin reset statuses, masks, severities, the log and ALERTn are kept and the counters
are 0 (R180, R183). While a reset holds the part nothing but its end, a power-on and the two ready lines
acts on it. That the part takes its values already when the reset begins, and that the ready lines are
followed in it, are the model's choices (log entries 5, 6 and 9). -/
def Obligations.ResetsHoldThePart : Prop :=
  ∀ (p : Part) (rest : List Instr),
    (∃ q, exec .powerOnReset ⟨p, rest⟩ = .next ⟨q, rest⟩ ∧
      q.phase = .inReset .power ∧
      (∀ k : ErrorKind, look q.errors.items k.index =
        ⟨false, Config.defaultMask k, Config.defaultSeverity k, 0⟩) ∧
      q.errors.log = none ∧ q.errors.alertLow = false ∧ q.save = none ∧ q.store = p.store ∧
      q.egress.displayBusy = false ∧ q.egress.recordBusy = false ∧ q.sent = p.sent) ∧
    (p.inReset = false → ∃ q, exec .resetnLow ⟨p, rest⟩ = .next ⟨q, rest⟩ ∧
      q.phase = .inReset .pin ∧
      (∀ k, look q.errors.items k = { look p.errors.items k with counter := 0 }) ∧
      q.errors.log = p.errors.log ∧ q.errors.alertLow = p.errors.alertLow ∧ q.save = none ∧
      q.store = p.store ∧ q.egress.displayBusy = false ∧ q.egress.recordBusy = false ∧
      q.sent = p.sent) ∧
    (p.inReset = true → ∀ c : Instr, c ≠ .powerOnReset → c ≠ .resetEnd →
      (∀ b, c ≠ .recordReadyChange b) → (∀ b, c ≠ .bridgeReadyChange b) →
        exec c ⟨p, rest⟩ = .next ⟨p, rest⟩)

/-- At the end of a power-on or pin reset (R187) the part is LOADING, the tick count is 0 and every block has
its reset values (R12, R13, R14, R18, R28, R33, R34, R35, R40, R52, R109, R111, R114, R134, R145 to R149,
R156), no estimate is present and every estimator is empty (R50, R61). The error monitor's counters are 0
(R180); its statuses, masks, severities and log stand. At the end of a pin reset those are the ones kept from
before it (R180, R182); at the end of a power-on reset they are the ones it took when it began, which are the
power-on values: that it takes them then is the model's choice (log entry 6). -/
def Obligations.ResetEndGivesTheResetValues : Prop :=
  ∀ (p : Part) (rest : List Instr) (cause : HardCause), p.phase = .inReset cause → ∃ q,
    exec .resetEnd ⟨p, rest⟩ = .next ⟨q, rest⟩ ∧
      q.phase = .loading cause ∧ BlocksReset p q ∧
      q.monitor = ⟨.noMarks, 0, none, 0, 0, 0, 0, 0, none⟩ ∧ q.egress.offer = .none ∧
      q.agent = ⟨[], 0, false, 0⟩

/-- LOAD_COMPLETE with room for the notice. With a valid image in the store (R188, R189) the image's tables are
loaded, the part is READY with its frame deadline armed, and RESTARTED joins the reply queue with the cause
and VALID (R172). With an image that is blank, whose code does not match, or with a field out of range,
every set and table takes its factory values (R50, R51, R188), the part is READY, RESTARTED carries INVALID,
after it STORE_FAULT is raised with no port at the current tick, and nothing else changes. Over which bytes
the stored code is computed is log entry 20 (DEDUCED). -/
def Obligations.LoadCompleteLoadsTheImageOrFactory : Prop :=
  ∀ (p : Part) (rest : List Instr) (cause : HardCause), p.phase = .loading cause →
    p.agent.replies.length < 8 → p.agent.replyHeld = false →
    (∀ img : StoreImage, p.store = ⟨some img, some (crc img.bytes)⟩ → img.inRange = true →
      exec .loadComplete ⟨p, rest⟩ = .next ⟨settle
        (joinReply (.notice (.restarted (HardCause.restart cause) .valid))
          { p with
            phase := .ready
            conditioning :=
              { p.conditioning with
                sets := img.sets.map fun stored => ⟨stored, none, 0, 0⟩
                widths := img.widths }
            monitor :=
              { p.monitor with deadline := some ⟨p.tick, p.timing.frameTimeout⟩ } }), rest⟩) ∧
    ((p.store.fields = none ∨ p.store.code = none ∨
        ∃ img code, p.store = ⟨some img, some code⟩ ∧ (code ≠ crc img.bytes ∨ img.inRange = false)) →
      ∃ q, exec .loadComplete ⟨p, rest⟩ = .next ⟨q, rest⟩ ∧
        q.phase = .ready ∧ q.tick = p.tick ∧
        (∀ i, q.calibrationSet i = ⟨⟨0, 0, 16384, 16384, 0, 4, false⟩, none, 0, 0⟩) ∧
        (∀ i : Fin 16, look (q.widthTable .pen) i = 4 + 3 * i.val ∧
          look (q.widthTable .marker) i = 20 + 4 * i.val ∧
          look (q.widthTable .eraser) i = 60 + 10 * i.val ∧ look (q.widthTable .finger) i = 12) ∧
        q.monitor.deadline = some ⟨p.tick, p.timing.frameTimeout⟩ ∧
        (look q.errors.items ErrorKind.storeFault.index).status = true ∧
        (⟨.notice (.restarted (HardCause.restart cause) .invalid), p.agent.replySeq, p.tick⟩ :
          ReplyItem) ∈ q.agent.replies ∧
        q = settle (raise .storeFault ⟨none, none, none, none, []⟩
          (joinReply (.notice (.restarted (HardCause.restart cause) .invalid))
            { p with
              phase := .ready
              conditioning :=
                { p.conditioning with sets := q.conditioning.sets, widths := q.conditioning.widths }
              monitor :=
                { p.monitor with deadline := some ⟨p.tick, p.timing.frameTimeout⟩ } })))

/-- RESET_PART in READY (R170): no reply; every block takes its reset values (R12, R13, R14, R18, R28, R33,
R34, R40, R52, R109, R111, R114, R134, R145 to R149, R156), but the stored calibration fields and the width
tables stand and the estimates are absent (R50, R51), and the errors are kept with counters at 0 (R180); the
part is READY with its deadline armed, and the reply queue holds RESTARTED alone, under offer when the bridge
is ready. -/
def Obligations.ResetPartIsASoftReset : Prop :=
  ∀ (req : Requester) (p : Part) (rest : List Instr), p.takes → ∃ q,
    exec (.resetPart req) ⟨p, rest⟩ = .next ⟨q, rest⟩ ∧
      q.phase = .ready ∧ BlocksReset p q ∧ q.active = resetTables ∧ q.staged = resetTables ∧
      (∀ i, q.calibrationSet i = ⟨(p.calibrationSet i).stored, none, 0, 0⟩) ∧
      q.conditioning.widths = p.conditioning.widths ∧
      q.monitor = ⟨.noMarks, 0, none, 0, 0, 0, 0, 0, some ⟨0, 500⟩⟩ ∧
      q.egress.offer = (if p.egress.bridgeReady = true then .reply else .none) ∧
      q.agent = ⟨[⟨.notice (.restarted .soft .notLoaded), 0, 0⟩], 1, false, 0⟩

/-- In LOADING every frame on the board link, every frame on the room link that is not a well-formed management
frame on channel 0, every mark, every grant whose check code fails and every other frame on the display link
is discarded without a trace (R2, R4, R36, R145, R147, R165). -/
def Obligations.LoadingDiscardsInSilence : Prop :=
  ∀ (p : Part) (rest : List Instr), p.isLoading = true → p.Settled →
    (∀ frame, exec (.boardLinkFrame frame) ⟨p, rest⟩ = .next ⟨p, rest⟩) ∧
    (∀ frame, (codeMatches frame = false ∨ frame.length < 10 ∨ byteAt frame 0 ≠ 0x02 ∨
        channelOf frame ≠ 0) →
      exec (.roomLinkFrame frame) ⟨p, rest⟩ = .next ⟨p, rest⟩) ∧
    (∀ number code, exec (.frameMark number code) ⟨p, rest⟩ = .next ⟨p, rest⟩) ∧
    (∀ count code, code ≠ crc [0x22, count] →
      exec (.creditGrant count code) ⟨p, rest⟩ = .next ⟨p, rest⟩) ∧
    (∀ frame, (Instr.displayFrameDiscard frame).wellFormed = true →
      exec (.displayFrameDiscard frame) ⟨p, rest⟩ = .next ⟨p, rest⟩)

/-! ### The management channel -/

/-- A request's body is read back as that request, with every field at every value, and a body that is read
as a request is the body of that request: no byte is dropped, and no two bodies are read alike (R175,
R177, section 10.3). -/
def Obligations.RequestsAndBodiesAgree : Prop :=
  (∀ r : Request, r.framable = true → decodeRequest r.code r.body = some r) ∧
    ∀ (kind : Byte) (body : List Byte) (r : Request), decodeRequest kind body = some r →
      r.code = kind ∧ r.body = body ∧ r.framable = true

/-- A request's frame arriving on the room link does to the part exactly what the request's command does
(R3, R165 to R168), in every state: READY, LOADING, at the gate's limit, or held in a reset. So does the
frame of a kind outside the catalogue, which is answered UNKNOWN with an empty body when the gate passes
it (R168, R169). The header that a request given as a command is logged with is that of its frame (log entry
24, DEDUCED). -/
def Obligations.RequestFrameActsAsItsCommand : Prop :=
  (∀ (c : Instr) (req : Requester) (r : Request) (p : Part) (rest : List Instr),
    c.request? = some (req, r) → r.framable = true →
      exec (.roomLinkFrame (requestFrame req r)) ⟨p, rest⟩ = exec c ⟨p, rest⟩) ∧
  ∀ (req : Requester) (kind : Byte) (body : List Byte) (p : Part) (rest : List Instr),
    (Instr.unknownRequest req kind body).wellFormed = true →
      exec (.roomLinkFrame (sealFrame (managementHeader req kind body ++ body))) ⟨p, rest⟩
          = exec (.unknownRequest req kind body) ⟨p, rest⟩ ∧
        (p.takes → exec (.unknownRequest req kind body) ⟨p, rest⟩
          = .next ⟨answered req kind .unknown .empty p, rest⟩)

/-- The gate (R167) and LOADING (R168). With the reply queue at its limit, 8 in READY and 7 in LOADING, a
request, of the catalogue or of an unknown kind, is not executed; REPLY_OVERFLOW is raised with what R167
supplies, and nothing else happens. In LOADING a request below the limit is answered NOT_READY, and nothing
else happens. The header bytes are those of the frame that would carry the command (log entry 24). -/
def Obligations.GateAndLoadingTurnRequestsAway : Prop :=
  ∀ (c : Instr) (req : Requester) (kind : Byte) (body : List Byte) (p : Part) (rest : List Instr),
    ((∃ r : Request, c.request? = some (req, r) ∧ r.code = kind ∧ r.body = body) ∨
        c = .unknownRequest req kind body) →
      ((p.phase = .ready ∧ 8 ≤ p.agent.replies.length ∨
          p.isLoading = true ∧ 7 ≤ p.agent.replies.length) →
        exec c ⟨p, rest⟩ = .next ⟨settle (raise .replyOverflow
          ⟨some .room, some 0, some req.address, none, managementHeader req kind body⟩ p), rest⟩) ∧
      (p.isLoading = true → p.agent.replies.length < 7 →
        exec c ⟨p, rest⟩ = .next ⟨settle
          (joinReply (.reply req.address kind req.tag .notReady .empty) p), rest⟩)

/-- A request that passes the gate in READY is always answered, RESET_PART apart: the reply is the last frame
of the reply queue, with the kind and tag echoed, and no slot stays held (R168, R169). -/
def Obligations.EveryRequestIsAnsweredLast : Prop :=
  ∀ (c : Instr) (req : Requester) (r : Request) (p : Part) (rest : List Instr),
    c.request? = some (req, r) → r ≠ .resetPart → p.takes → ∃ q status body earlier item,
      exec c ⟨p, rest⟩ = .next ⟨q, rest⟩ ∧
        q.agent.replies = p.agent.replies ++ earlier ++ [item] ∧
        item.frame = .reply req.address r.code req.tag status body ∧ q.agent.replyHeld = false

/-- A reply or notice that joins the reply queue of a settled part changes the queue and, when the bridge is
ready and nothing is under offer, makes the offer; nothing else changes (R149, R150). A notice joins below its
limit, 8, or 7 in LOADING, less the slot held for a reply, and is lost and counted at it (R171). -/
def Obligations.JoiningReplyTouchesOnlyTheReplyQueue : Prop :=
  (∀ (n : Notice) (p : Part),
    let limit := (if p.isLoading then 7 else 8) - (if p.agent.replyHeld then 1 else 0)
    (p.agent.replies.length < limit → notice n p = joinReply (.notice n) p) ∧
      (limit ≤ p.agent.replies.length → notice n p =
        { p with agent := { p.agent with noticesLost := min 65535 (p.agent.noticesLost + 1) } })) ∧
  ∀ (f : ReplyFrame) (p : Part), p.Settled → p.inReset = false →
    settle (joinReply f p) =
      { p with
        agent :=
          { p.agent with
            replies := p.agent.replies ++ [⟨f, p.agent.replySeq, p.tick⟩]
            replySeq := p.agent.replySeq + 1 }
        egress :=
          { p.egress with
            offer :=
              if p.egress.offer = .none ∧ p.egress.bridgeReady = true then .reply
              else p.egress.offer } }

/-! ### The receivers -/

/-- The form check (R2, R175): exactly these frames are malformed. -/
def Obligations.FormCheckRefusesExactlyTheMalformed : Prop :=
  ∀ frame : List Byte, formOf frame = .malformed ↔
    frame.length < 10 ∨ (byteAt frame 0 ≠ 0x01 ∧ byteAt frame 0 ≠ 0x02) ∨
      (byteAt frame 0 = 0x01 ∧
        ((byteAt frame 5).toNat < 1 ∨ 8 < (byteAt frame 5).toNat ∨
          frame.length ≠ 10 + 10 * (byteAt frame 5).toNat ∨
          (halfAt frame 6).toNat ≠ 10 + 10 * (byteAt frame 5).toNat ∨
          ∃ k, k < (byteAt frame 5).toNat ∧
            (4095 < (halfAt frame (12 + 10 * k)).toNat ∨ 3 < (byteAt frame (14 + 10 * k)).toNat ∨
              31 < (byteAt frame (16 + 10 * k)).toNat ∨ 7 < (byteAt frame (17 + 10 * k)).toNat)))

/-- An ink frame written by R175 passes its link check code and its form check, and its channel, source,
sequence and samples are read back, every field at every value. The link check code of some bytes (R1) is the
remainder of their division by x^16 + x^12 + x^5 + 1, the bytes taken most significant bit first and 0xFFFF
preset, not inverted: the dividend differs from it by shifted copies of the generator. A frame passes exactly
when its last two bytes are the code of those before them. -/
def Obligations.InkFrameReadsBack : Prop :=
  (∀ bytes : List Byte, ∃ shifts : List Nat,
    ((bytes.foldl (fun m b => m * 256 + b.toNat) 0) <<< 16) ^^^ (0xFFFF <<< (8 * bytes.length)) =
      shifts.foldl (fun v k => v ^^^ (0x11021 <<< k)) (crc bytes).toNat) ∧
  (∀ frame : List Byte, codeMatches frame = true ↔ ∃ (bytes : List Byte) (hi lo : Byte),
    frame = bytes ++ [hi, lo] ∧ crc bytes = hi ++ lo) ∧
  ∀ (channel : Byte) (source : Half) (seq : Byte) (samples : List Sample), 1 ≤ samples.length →
    samples.length ≤ 8 → (∀ x ∈ samples, x.fits = true) →
      codeMatches (inkFrame channel source seq samples) = true ∧
        formOf (inkFrame channel source seq samples) = .ink seq samples ∧
        addressOf (inkFrame channel source seq samples) = source ∧
        channelOf (inkFrame channel source seq samples) = channel.toNat % 16

/-- An ink frame of a seat is taken on either link (R5, R6, R8, R9, R10, R12): it is counted on its link and for
its seat, the sequence advances past it with any gap counted, raised as SEQUENCE_GAP with port, channel,
address, seat and first 8 bytes, and flagged on the seat's OPEN stroke, the quiet deadline is armed from the
current tick, and then its samples are handled one after the other. A contact sample, whatever its hover
indication, is taken by the seat's state (R9, R93). The tables, the timeouts, the monitor,
staging control and the store are as before. A non-contact sample (R62, R98) ends the seat's OPEN stroke
LIFTED, clears the lockout, and with its hover indication set is counted by the estimator of the seat's
set. -/
def Obligations.InkFrameIsTakenForItsSeat : Prop :=
  (∀ (channel : Byte) (source : Half) (seq : Byte) (samples : List Sample) (seat : Fin 72) (port : Port)
    (p : Part) (rest : List Instr),
    1 ≤ samples.length → samples.length ≤ 8 → (∀ x ∈ samples, x.fits = true) → p.phase = .ready →
    p.active.AddressesDistinct → (look p.active.identity seat).enabled = true →
    (port = .room ∧ seat.val < 64 ∧ (look p.active.identity seat).address = some source ∨
      port = .board ∧ seat.val = 64 + source.toNat) →
    let header := (inkFrame channel source seq samples).take 8
    let src : ErrorSource := ⟨some port, some (channel.toNat % 16), some source, none, header⟩
    let gap := match (p.seat seat).expected with
      | none => 0
      | some e => (seq - e).toNat
    let gapRaised := raise .sequenceGap { src with seat := some seat } p
    ∃ q taken : Part,
      exec (arrival port (inkFrame channel source seq samples)) ⟨p, rest⟩ = .next ⟨q, rest⟩ ∧
        q = settle (samples.foldl (handleSample seat src) taken) ∧
        taken.receivers =
          (if port = .room then
            { p.receivers with
              room := { p.receivers.room with inkTaken := min 65535 (p.receivers.room.inkTaken + 1) } }
          else
            { p.receivers with
              board :=
                { p.receivers.board with inkTaken := min 65535 (p.receivers.board.inkTaken + 1) } }) ∧
        taken.seat seat =
          { p.seat seat with
            expected := some (seq + 1)
            lastTick := p.tick
            quiet := some p.timing.idleTimeout
            accepted := min 65535 ((p.seat seat).accepted + 1)
            missing :=
              if gap = 0 then (p.seat seat).missing else min 65535 ((p.seat seat).missing + gap) } ∧
        (∀ other, other ≠ seat → taken.seat other = p.seat other) ∧
        taken.errors = (if gap = 0 then p.errors else gapRaised.errors) ∧
        taken.agent = (if gap = 0 then p.agent else gapRaised.agent) ∧
        taken.egress = (if gap = 0 then p.egress else gapRaised.egress) ∧
        (∀ i c a, gap ≠ 0 → (p.seat seat).openEntry = some i → p.entry i = .opened c a →
          taken.entry i = .opened { c with flags := { c.flags with gap := true } } a) ∧
        (∀ i, gap = 0 ∨ (p.seat seat).openEntry ≠ some i → taken.entry i = p.entry i) ∧
        taken =
          { p with
            receivers := taken.receivers
            seats := taken.seats
            assembler := { p.assembler with entries := taken.assembler.entries }
            egress := taken.egress
            agent := taken.agent
            errors := taken.errors } ∧
        q.receivers = taken.receivers ∧ (q.seat seat).accepted = (taken.seat seat).accepted ∧
        (q.seat seat).missing = (taken.seat seat).missing ∧
        (q.seat seat).expected = some (seq + 1) ∧ (q.seat seat).lastTick = p.tick ∧
        (q.seat seat).quiet = some p.timing.idleTimeout ∧
        q.active = p.active ∧ q.staged = p.staged ∧ q.staging = p.staging ∧ q.timing = p.timing ∧
        q.monitor = p.monitor ∧ q.store = p.store ∧ q.save = p.save ∧ q.tick = p.tick ∧
        q.phase = .ready) ∧
  (∀ (p : Part) (seat : Fin 72) (src : ErrorSource) (x : Sample), x.contact = true →
    handleSample seat src p x = contactSample seat x src p) ∧
  ∀ (p : Part) (seat : Fin 72) (src : ErrorSource) (x : Sample), x.contact = false →
    let q := handleSample seat src p x
    let set := (look p.active.identity seat).calibrationSet
    let lifts := fun e : Part =>
      q = { e with
        seats := put p.seats seat { p.seat seat with lockout := none, openEntry := none }
        conditioning :=
          if x.hover = true then
            { p.conditioning with
              sets := put p.conditioning.sets set ((p.calibrationSet set).hover x.pressure) }
          else p.conditioning }
    ((p.seat seat).openEntry = none → lifts p) ∧
      ∀ i c a, (p.seat seat).openEntry = some i → p.entry i = .opened c a → c.seat = seat →
        lifts (endStroke .lifted p i)

/-- In READY a frame that fails its link check code, a malformed frame, a misplaced management frame and an ink
frame whose source no enabled entry of the active table names are dropped on either link: the counter of
the drop advances, the error is raised with what R1, R2, R5, R6 and R165 supply, and nothing else happens.
That a frame too short to hold a channel or an address supplies none is the model's inference (log entry 16),
and that an unknown board source supplies no channel is read from R6's list (log entry 17). -/
def Obligations.DroppedFramesAreCountedAndRaised : Prop :=
  (∀ (port : Port) (frame : List Byte) (p : Part) (rest : List Instr), port = .room ∨ port = .board →
    p.phase = .ready →
    let src : ErrorSource :=
      ⟨some port, if 2 ≤ frame.length then some ((byteAt frame 1).toNat % 16) else none,
        if 4 ≤ frame.length then some (halfAt frame 2) else none, none, frame.take 8⟩
    (codeMatches frame = false →
      exec (arrival port frame) ⟨p, rest⟩ = .next ⟨settle (raise .linkCheck src
        (p.countLink port fun c => { c with checkDrops := min 65535 (c.checkDrops + 1) })), rest⟩) ∧
    (codeMatches frame = true → formOf frame = .malformed →
      exec (arrival port frame) ⟨p, rest⟩ = .next ⟨settle (raise .malformedFrame src
        (p.countLink port fun c => { c with malformedDrops := min 65535 (c.malformedDrops + 1) })),
        rest⟩) ∧
    (codeMatches frame = true → formOf frame = .management →
      (port = .board ∨ (byteAt frame 1).toNat % 16 ≠ 0) →
      exec (arrival port frame) ⟨p, rest⟩ =
        .next ⟨settle (raise .misplacedManagement src p), rest⟩)) ∧
  ∀ (port : Port) (channel : Byte) (source : Half) (seq : Byte) (samples : List Sample) (p : Part)
    (rest : List Instr), 1 ≤ samples.length → samples.length ≤ 8 → (∀ x ∈ samples, x.fits = true) →
    p.phase = .ready →
    (port = .room ∧ (∀ seat : Fin 72, seat.val < 64 → (look p.active.identity seat).enabled = true →
        (look p.active.identity seat).address ≠ some source) ∨
      port = .board ∧ ∀ seat : Fin 72, seat.val = 64 + source.toNat →
        (look p.active.identity seat).enabled = false) →
      exec (arrival port (inkFrame channel source seq samples)) ⟨p, rest⟩ = .next ⟨settle
        (raise .unknownSource
          ⟨some port, if port = .room then some (channel.toNat % 16) else none, some source, none,
            (inkFrame channel source seq samples).take 8⟩
          (p.countLink port fun c => { c with unknownSource := min 65535 (c.unknownSource + 1) })),
        rest⟩

/-- In READY a frame on the display link that fails its link check code raises LINK_CHECK, be it a mark, a
grant or another, and another frame that passes raises MALFORMED_FRAME; the log is supplied port DISPLAY
and up to 8 first bytes, and nothing else happens (R37, R145, R147). That a failing frame which is neither a
mark nor a grant raises LINK_CHECK is the model's inference (log entry 18). -/
def Obligations.DisplayFramesAreDroppedAndRaised : Prop :=
  ∀ (p : Part) (rest : List Instr), p.phase = .ready →
    (∀ number code, code ≠ crc [0x21, number] →
      exec (.frameMark number code) ⟨p, rest⟩ = .next ⟨settle (raise .linkCheck
        ⟨some .display, none, none, none, [0x21, number] ++ be16 code⟩ p), rest⟩) ∧
    (∀ count code, code ≠ crc [0x22, count] →
      exec (.creditGrant count code) ⟨p, rest⟩ = .next ⟨settle (raise .linkCheck
        ⟨some .display, none, none, none, [0x22, count] ++ be16 code⟩ p), rest⟩) ∧
    (∀ frame, (Instr.displayFrameDiscard frame).wellFormed = true →
      exec (.displayFrameDiscard frame) ⟨p, rest⟩ = .next ⟨settle
        (raise (if codeMatches frame then .malformedFrame else .linkCheck)
          ⟨some .display, none, none, none, frame.take 8⟩ p), rest⟩)

/-! ### Samples, admission and strokes -/

/-- The admission of a touch-down (R21 to R26): exactly when it is admitted, to which layer, and whether
privately; and of a refused one the reason, which the first failing check gives: DENY decides (R23), the
layer is not allowed (R24), it is not OPEN (R25), the stroke table has no room (R26). -/
def Obligations.AdmissionFollowsTheFirstFittingRule : Prop :=
  ∀ (p : Part) (seat : Fin 72) (s : Sample),
    let allowed := fun layer => (look p.active.identity seat).allowedLayers.has layer
    let room := p.countEntries Entry.isOccupied < 48 ∧
      (seat.val < 64 → p.countEntries Entry.isRoomOccupied < 40)
    (∀ layer isPrivate, evaluate p seat s = .ok (layer, isPrivate) ↔
      (p.Decides seat s (some (layer, isPrivate)) ∧ allowed layer = true ∧
        (p.layer layer).state = .opened ∧ room)) ∧
    (evaluate p seat s = .error .denied ↔ p.Decides seat s none) ∧
    ∀ layer isPrivate, p.Decides seat s (some (layer, isPrivate)) →
      (allowed layer = false → evaluate p seat s = .error .notAllowed) ∧
      (allowed layer = true → (p.layer layer).state ≠ .opened →
        evaluate p seat s = .error .layerNotOpen) ∧
      (allowed layer = true → (p.layer layer).state = .opened → ¬ room →
        evaluate p seat s = .error .tableFull)

/-- What a contact sample does at a seat without an OPEN stroke (R28, R64, R93, R97). Locked out, it is
dropped and counted. Refused, it leaves the lockout and the refusal counter of its reason, and no entry,
queue or layer changes; TABLE_FULL is raised with the port, channel and address of the sample's frame and the
seat, without header bytes (R26). In both cases it empties the estimator window of the seat's set, whose
estimate and stored fields stand. -/
def Obligations.RefusedSamplesDrawNothing : Prop :=
  ∀ (p : Part) (seat : Fin 72) (s : Sample) (src : ErrorSource), (p.seat seat).openEntry = none →
    let set := (look p.active.identity seat).calibrationSet
    let emptied : Conditioning :=
      { p.conditioning with
        sets := put p.conditioning.sets set { p.calibrationSet set with sum := 0, count := 0 } }
    (∀ reason, (p.seat seat).lockout = some reason →
      contactSample seat s src p =
        { p with
          conditioning := emptied
          assembler :=
            { p.assembler with
              counters :=
                { p.assembler.counters with
                  lockoutDrops := min 65535 (p.assembler.counters.lockoutDrops + 1) } } }) ∧
    (∀ reason, (p.seat seat).lockout = none → evaluate p seat s = .error reason →
      let q := contactSample seat s src p
      (q.seat seat).lockout = some reason ∧ (q.seat seat).openEntry = none ∧
        (∀ other, other ≠ seat → q.seat other = p.seat other) ∧
        q.refusals =
          (match reason with
          | .denied => { p.refusals with denied := min 65535 (p.refusals.denied + 1) }
          | .notAllowed => { p.refusals with notAllowed := min 65535 (p.refusals.notAllowed + 1) }
          | .layerNotOpen => { p.refusals with layerNotOpen := min 65535 (p.refusals.layerNotOpen + 1) }
          | .tableFull => { p.refusals with tableFull := min 65535 (p.refusals.tableFull + 1) }) ∧
        q.assembler = p.assembler ∧ q.queues = p.queues ∧
        q.layers = p.layers ∧ q.history = p.history ∧
        (look q.errors.items ErrorKind.tableFull.index).counter =
          (if reason = .tableFull then
            min 65535 ((look p.errors.items ErrorKind.tableFull.index).counter + 1)
          else (look p.errors.items ErrorKind.tableFull.index).counter) ∧
        q.conditioning = emptied ∧
        (let source : ErrorSource := ⟨src.port, src.channel, src.address, some seat, []⟩
        let told := if reason = .tableFull then raise .tableFull source p else p
        q = { p with
          conditioning := emptied
          seats := q.seats
          refusals := q.refusals
          errors := told.errors
          agent := told.agent
          egress := told.egress } ∧
        (reason = .tableFull → (look p.errors.items ErrorKind.tableFull.index).mask = false →
          (look p.errors.items ErrorKind.tableFull.index).status = false → p.errors.log = none →
            q.errors.log = some ⟨.tableFull, source, p.tick⟩)))

/-- An admitted touch-down begins a stroke (R53, R54, R60, R72, R74, R92, R94): the lowest FREE entry is OPEN
with the seat, the layer, the privacy, the tool, the colour, the destination set and the begin tick that R94
names, an id nothing else holds, the snapshots, a count of 1, and the touch-down's conditioned point as
anchor in both windows and nothing pending; CLIPPED is set when the anchor was clamped. The seat refers to
the entry, and the layer and the strokes-begun counter count it. The BEGIN is handed to every destination,
and those whose queue turns it away are suppressed (R95, R107, R132, R138). -/
def Obligations.AdmittedTouchDownBeginsAStroke : Prop :=
  ∀ (p : Part) (seat : Fin 72) (s : Sample) (src : ErrorSource) (layer : Fin 8) (isPrivate : Bool)
    (i : Fin 48), (p.seat seat).openEntry = none → (p.seat seat).lockout = none →
    evaluate p seat s = .ok (layer, isPrivate) → p.entry i = .free →
    (∀ j, j < i → p.entry j ≠ .free) → p.IdsUnique →
    let q := contactSample seat s src p
    let ident := look p.active.identity seat
    let b := windowBounds seat ident.window p.conditioning.canvasWidth p.conditioning.canvasHeight
    let set := (p.calibrationSet ident.calibrationSet).stored
    let cal : CalibrationSnapshot := ⟨set.offsetX, set.offsetY, set.gainX, set.gainY, set.baseline⟩
    let anchor := condition cal b.1 b.2 (p.widthTable s.tool) s
    ∃ c a, q.entry i = .opened c a ∧
      c.seat = seat ∧ c.layer = layer ∧ c.isPrivate = isPrivate ∧ c.tool = s.tool ∧
      c.colour = ident.colourOverride.getD s.colour ∧
      c.dests = (if isPrivate then { (p.layer layer).mode.dests with fanout := false }
        else (p.layer layer).mode.dests) ∧
      c.beginTick = p.tick ∧ c.count = 1 ∧ c.id = p.allocatedId ∧ c.id ∉ p.heldIds ∧ 1 ≤ c.id ∧
      c.id ≤ 65535 ∧ q.assembler.nextId = nextIdAfter c.id ∧
      a.smoothing = (p.layer layer).mode.smoothing ∧
      a.decimation = (p.layer layer).mode.decimation ∧ a.chop = (p.layer layer).mode.chop ∧
      a.calibration = cal ∧ a.boundsX = b.1 ∧ a.boundsY = b.2 ∧ a.lastEmitted = anchor.1 ∧
      a.stage1 = [⟨anchor.1.x, anchor.1.y⟩] ∧ a.stage2 = a.stage1 ∧
      a.lastContact = anchor.1 ∧ a.counter = 0 ∧ a.pending = [] ∧
      c.box = ⟨anchor.1.x, anchor.1.x, anchor.1.y, anchor.1.y⟩ ∧
      c.flags.clipped = anchor.2 ∧ c.flags.gap = false ∧
      (p.RecordsOrdered → c.flags.pointsLost = false) ∧
      (q.seat seat).openEntry = some i ∧
      (q.layer layer).openCount = (p.layer layer).openCount + 1 ∧
      q.assembler.counters.begun = min 65535 (p.assembler.counters.begun + 1) ∧
      (p.RoomChosen →
        Handed (fun d => c.dests.has d = true)
          (fun _ => .strokeBegin c.id layer seat s.tool c.colour isPrivate anchor.1 p.tick) c.serial
          (fun k =>
            { k with
              counters :=
                { k.counters with beginDiscards := min 65535 (k.counters.beginDiscards + 1) } }) p q ∧
        ∀ d, c.suppressed.has d = true ↔ c.dests.has d = true ∧ ¬ p.admits d)

/-- The allocator (R92): counting upward from the next id, with 65535 followed by 1, it gives the first value
that no occupied entry and no summary holds, and finds one within 305 values examined whenever an entry is
FREE. -/
def Obligations.AllocatorFindsTheFirstFreeId : Prop :=
  nextIdAfter 65535 = 1 ∧ (∀ v, v < 65535 → nextIdAfter v = v + 1) ∧
  (∀ (p : Part) (v : Nat), v ∈ p.heldIds ↔
    (∃ i c a, p.entry i = .opened c a ∧ c.id = v) ∨ (∃ i c e, p.entry i = .ending c e ∧ c.id = v) ∨
      ∃ s ∈ p.history.list, s.id = v) ∧
  ∀ (p : Part) (i : Fin 48), p.entry i = .free → p.history.list.length ≤ 256 →
    1 ≤ p.assembler.nextId → p.assembler.nextId ≤ 65535 → ∃ n, n < 305 ∧
      p.allocatedId = nextIdAfter^[n] p.assembler.nextId ∧ p.allocatedId ∉ p.heldIds ∧
      (∀ m, m < n → nextIdAfter^[m] p.assembler.nextId ∈ p.heldIds) ∧
      1 ≤ p.allocatedId ∧ p.allocatedId ≤ 65535

/-- The end of an OPEN stroke (R85, R86, R91, R101 to R105, R111, R115): its pending points go out first, then
its END, which carries the last contact point, the reason, the flags then set, and the count with the final
point; the box takes in the final point. The END is handed to every destination not suppressed. When all take
it the stroke leaves its summary and a FREE entry; otherwise its entry is ENDING and waits where it was not
taken. Its seat's reference is absent, its layer counts one OPEN stroke fewer and closes when it was DRAINING
and this was the last, the counter of its reason advances, and every other OPEN entry stays OPEN with its
assembly state. A summary joins the history list at its newest end, unread; at 256 summaries the oldest
leaves first, and when it was unread the overrun counter advances and the unread count stands (R158). -/
def Obligations.StrokeEndLeavesTheTable : Prop :=
  (∀ (h : History) (s : Summary),
    (h.list.length < 256 → h.append s = ⟨h.list ++ [s], h.unread + 1, h.overrun⟩) ∧
    ∀ oldest others, h.list = oldest :: others → others.length = 255 →
      (h.unread = 256 → h.append s = ⟨others ++ [s], 256, min 65535 (h.overrun + 1)⟩) ∧
      (h.unread < 256 → h.append s = ⟨others ++ [s], h.unread + 1, h.overrun⟩)) ∧
  ∀ (reason : EndReason) (p : Part) (i : Fin 48) (c : StrokeCore) (a : Assembly),
    p.entry i = .opened c a →
      let q := endStroke reason p i
      (q.entry i = .free ∨ ∃ c' e, q.entry i = .ending c' e ∧ c'.id = c.id ∧ e.reason = reason ∧
          e.endTick = p.tick ∧ e.waitsOn.isEmpty = false) ∧
        (q.seat c.seat).openEntry = none ∧
        (∀ other, other ≠ c.seat → q.seat other = p.seat other) ∧
        (q.layer c.layer).openCount = (p.layer c.layer).openCount - 1 ∧
        ((p.layer c.layer).state = .draining → (p.layer c.layer).openCount = 1 →
          (q.layer c.layer).state = .closed) ∧
        (∀ l, l ≠ c.layer → q.layer l = p.layer l) ∧
        (∀ r, q.assembler.counters.ended r =
          if r = reason then min 65535 (p.assembler.counters.ended r + 1)
          else p.assembler.counters.ended r) ∧
        (∀ j c' a', j ≠ i → p.entry j = .opened c' a' → ∃ c'', q.entry j = .opened c'' a' ∧
          c''.id = c'.id ∧ c''.seat = c'.seat ∧ c''.layer = c'.layer) ∧
        (p.RoomChosen →
          let e := emitPoints i p
          let final := a.lastContact
          let count := min 65535 (c.count + 1)
          let box : Box := ⟨min c.box.minX final.x, max c.box.maxX final.x, min c.box.minY final.y,
            max c.box.maxY final.y⟩
          let targets := c.dests.minus c.suppressed
          ∃ sent, e.entry i = .opened sent { a with pending := [] } ∧
            let record := InkRecord.strokeEnd c.id final reason sent.flags count
            Handed c.goesTo (fun _ => record) c.serial
                (fun k =>
                  { k with
                    waiting := k.waiting ++ [i]
                    counters :=
                      { k.counters with endWaits := min 65535 (k.counters.endWaits + 1) } }) e q ∧
              ((∀ d, c.goesTo d → e.admits d) →
                q.entry i = .free ∧ q.assembler.counters.endWaits = p.assembler.counters.endWaits ∧
                ∃ flags : StrokeFlags,
                  flags = { sent.flags with pointsLost := flags.pointsLost } ∧
                  (sent.flags.pointsLost = true → flags.pointsLost = true) ∧
                  ((∀ d, c.goesTo d → e.hasRoom d = true) → flags = sent.flags) ∧
                  q.history = p.history.append
                    ⟨c.id, c.seat, c.layer, c.tool, c.colour, box, count, reason, flags, c.beginTick,
                      p.tick, targets, false⟩) ∧
              ((∃ d, c.goesTo d ∧ ¬ e.admits d) → ∃ c' waits,
                q.entry i = .ending c' ⟨reason, p.tick, record, waits, targets.minus waits⟩ ∧
                (∀ d, waits.has d = true ↔ c.goesTo d ∧ ¬ e.admits d) ∧
                c' = { c with count := count, box := box, flags := c'.flags } ∧
                q.history = p.history ∧
                q.assembler.counters.endWaits = min 65535 (p.assembler.counters.endWaits + 1)))

/-- The emission of pending points (R81, R88): none from an empty list; otherwise the list goes out whole as one
POINTS record to every destination not suppressed, in the layer's order on the fan-out and sequential
elsewhere, and is then empty; a queue that turns the record away gives the stroke POINTS_LOST (R106, R138).
A frame-mark flush (R82, R84, R130) makes such emissions in ascending entry index: every OPEN stroke stays
OPEN; a stroke of a layer that is congested keeps its pending points, one of a layer that is not congested
even after the flush has none left. A layer is judged at its first OPEN stroke with points pending, in the
state that the emissions of the entries before it have left, and its other strokes follow that judgement
(R130). A layer is congested while a queue among its mode's destinations holds at least its watermark
(R129). -/
def Obligations.MarkFlushSparesCongestedLayers : Prop :=
  (∀ (p : Part) (l : Fin 8), p.congested l = true ↔ ∃ d, (p.layer l).mode.dests.has d = true ∧
    (p.queue d).watermark ≤ (p.queue d).items.length) ∧
  (∀ (p : Part) (i : Fin 48) (c : StrokeCore) (a : Assembly), p.entry i = .opened c a →
    let q := emitPoints i p
    (a.pending = [] → q = p) ∧
    (a.pending ≠ [] → p.RoomChosen →
      Handed c.goesTo
          (fun d => .points c.id (if d = .fanout then (p.layer c.layer).mode.order else .sequential)
            a.pending) c.serial
          (fun k =>
            { k with
              counters :=
                { k.counters with pointsDiscards := min 65535 (k.counters.pointsDiscards + 1) } }) p q ∧
        ∃ c', q.entry i = .opened c' { a with pending := [] } ∧
          c' = { c with flags := { c.flags with pointsLost := c'.flags.pointsLost } } ∧
          ((∃ d, c.goesTo d ∧ ¬ p.admits d) → c'.flags.pointsLost = true) ∧
          (c.flags.pointsLost = true → c'.flags.pointsLost = true) ∧
          ((∀ d, c.goesTo d → p.hasRoom d = true) → c' = c))) ∧
  (∀ (p : Part) (i : Fin 48) (c : StrokeCore) (a : Assembly), p.entry i = .opened c a →
    ∃ c' a', (flushPoints p).entry i = .opened c' a' ∧ c'.layer = c.layer ∧
      (p.congested c.layer = true → a'.pending = a.pending) ∧
      ((flushPoints p).congested c.layer = false → a'.pending = []) ∧
      { a' with pending := a.pending } = a) ∧
  ∀ p : Part, ∃ l : List (Fin 48), l.Pairwise (· < ·) ∧
    flushPoints p = l.foldl (fun r i => emitPoints i r) p ∧
    (∀ i ∈ l, ∃ c a, p.entry i = .opened c a ∧ a.pending ≠ [] ∧ p.congested c.layer = false) ∧
    (∀ i c a, p.entry i = .opened c a → a.pending ≠ [] → i ∉ l →
      (flushPoints p).congested c.layer = true ∧
        ∀ j ∈ l, ∀ d b, p.entry j = .opened d b → d.layer ≠ c.layer) ∧
    ∀ i c a, p.entry i = .opened c a → a.pending ≠ [] →
      (∀ j d b, j < i → p.entry j = .opened d b → b.pending ≠ [] → d.layer ≠ c.layer) →
      let reached := (l.filter (· < i)).foldl (fun r j => emitPoints j r) p
      (i ∈ l ↔ reached.congested c.layer = false) ∧
        ∀ j d b, p.entry j = .opened d b → b.pending ≠ [] → d.layer = c.layer → (j ∈ l ↔ i ∈ l)

/-- A record handed to an ink queue (R135 to R139). With a free slot it joins the tail, stamped with the next
sequence number and the tick. At a full queue under DROP_OLDEST with an eligible POINTS record the oldest
such record leaves, its stroke's entry gains POINTS_LOST, and the record joins. Otherwise nothing changes and
it is not taken: then a BEGIN is discarded and its destination suppressed, a POINTS record is discarded and
its stroke gains POINTS_LOST, an END waits at the tail of the queue's waiting list. Each removal, discard and
wait is counted by the queue and raises its QUEUE_OVERFLOW with the port of the queue's link and the seat of
the stroke whose record was handed (R106, R107, R139). Nothing else changes, but that a record which joins the
fan-out queue may be offered at once (R150). The kinds are
QUEUE_OVERFLOW_DISPLAY, QUEUE_OVERFLOW_FANOUT and QUEUE_OVERFLOW_RECORD, the ports DISPLAY, ROOM and RECORD. -/
def Obligations.HandedRecordJoinsReplacesOrStays : Prop :=
  [Dest.display, .fanout, .record].map overflowKind =
      [.overflowDisplay, .overflowFanout, .overflowRecord] ∧
  [Dest.display, .fanout, .record].map portOf = [.display, .room, .record] ∧
  (∀ (d : Dest) (r : InkRecord) (serial : Nat) (seat : Fin 72) (p : Part),
    p.queues.held = DestSet.empty →
      (p.level d < Config.capacity d →
        (handInk d r serial seat p).1 = true ∧
          ((handInk d r serial seat p).2.queue d).items =
            (p.queue d).items ++ [⟨r, (p.queue d).nextSeq, p.tick, some serial⟩] ∧
          ((handInk d r serial seat p).2.queue d).nextSeq = (p.queue d).nextSeq + 1 ∧
          (∀ other, other ≠ d → (handInk d r serial seat p).2.queue other = p.queue other) ∧
          let joined : Part :=
            { p with
              queues := p.queues.set d
                { p.queue d with
                  items := (p.queue d).items ++ [⟨r, (p.queue d).nextSeq, p.tick, some serial⟩]
                  nextSeq := (p.queue d).nextSeq + 1 } }
          (handInk d r serial seat p).2 = if d = .fanout then roomChoose joined else joined) ∧
      (∀ before gone after, Config.capacity d ≤ p.level d → (p.queue d).policy = .dropOldest →
        (p.queue d).items = before ++ gone :: after → gone.isPoints = true →
        (if d = .fanout ∧ p.egress.offer = .fanout then
          before ≠ [] ∧ ∀ x ∈ before.tail, x.isPoints = false
        else ∀ x ∈ before, x.isPoints = false) →
        (handInk d r serial seat p).1 = true ∧
          ((handInk d r serial seat p).2.queue d).items =
            before ++ after ++ [⟨r, (p.queue d).nextSeq, p.tick, some serial⟩] ∧
          ((handInk d r serial seat p).2.queue d).counters.oldestRemovals =
            min 65535 ((p.queue d).counters.oldestRemovals + 1) ∧
          (look (handInk d r serial seat p).2.errors.items (overflowKind d).index).status = true ∧
          (∀ i, (handInk d r serial seat p).2.entry i = (p.entry i).mapCore fun c =>
            if some c.serial = gone.serial then
              { c with flags := { c.flags with pointsLost := true } }
            else c) ∧
          let told := raise (overflowKind d) ⟨some (portOf d), none, none, some seat, []⟩ p
          let q := (handInk d r serial seat p).2
          q =
            { told with
              queues := p.queues.set d
                { p.queue d with
                  items := before ++ after ++ [⟨r, (p.queue d).nextSeq, p.tick, some serial⟩]
                  nextSeq := (p.queue d).nextSeq + 1
                  counters :=
                    { (p.queue d).counters with
                      oldestRemovals := min 65535 ((p.queue d).counters.oldestRemovals + 1) } }
              assembler := { p.assembler with entries := q.assembler.entries }
              egress := q.egress } ∧
          (p.RoomChosen → q.egress = told.egress)) ∧
      (Config.capacity d ≤ p.level d →
        ((p.queue d).policy = .stop ∨ (∀ x ∈ (p.queue d).items, x.isPoints = false) ∨
          d = .fanout ∧ p.egress.offer = .fanout ∧
            ∀ x ∈ (p.queue d).items.tail, x.isPoints = false) →
        handInk d r serial seat p = (false, p))) ∧
  ∀ (d : Dest) (p : Part) (i : Fin 48) (c : StrokeCore) (r : InkRecord),
    (p.admits d →
      (handInk d r c.serial c.seat p).1 = true ∧
        handBegin i c r p d = (handInk d r c.serial c.seat p).2 ∧
        Joined d r c.serial p (handInk d r c.serial c.seat p).2) ∧
    (¬ p.admits d →
      let told := raise (overflowKind d) ⟨some (portOf d), none, none, some c.seat, []⟩ p
      let turned := fun (k : InkQueue) (e : Entry) =>
        { told with
          queues := p.queues.set d k
          assembler := { p.assembler with entries := put p.assembler.entries i e } }
      let counts := (p.queue d).counters
      handBegin i c r p d = turned
          { p.queue d with
            counters := { counts with beginDiscards := min 65535 (counts.beginDiscards + 1) } }
          ((p.entry i).mapCore fun x => { x with suppressed := x.suppressed.insert d }) ∧
        (∀ order pts, handPoints i c order pts p d = turned
          { p.queue d with
            counters := { counts with pointsDiscards := min 65535 (counts.pointsDiscards + 1) } }
          ((p.entry i).mapCore fun x => { x with flags := { x.flags with pointsLost := true } })) ∧
        ∀ x e, p.entry i = .ending x e → handEnd i c r p d = turned
          { p.queue d with
            waiting := (p.queue d).waiting ++ [i]
            counters := { counts with endWaits := min 65535 (counts.endWaits + 1) } }
          (.ending x { e with waitsOn := e.waitsOn.insert d }))

/-! ### Arithmetic -/

/-- The coordinate transform (R55): dx lies in its range, the scaled value is the floor of the exact quotient,
which is dx times gain over 16384 rounded to nearest with a half toward plus infinity, and it lies in the
range R55 gives. A gain of 16384 gives dx; a gain of 0 gives 0, and the point lands on the origin or on the
nearer bound. -/
def Obligations.ScalingRoundsToNearest : Prop :=
  ∀ (raw : Nat) (offset : Int) (gain : Nat), raw ≤ 65535 → -32768 ≤ offset → offset ≤ 32767 →
    gain ≤ 65535 →
      let dx := (raw : Int) - offset
      dx ≤ 98303 ∧ -32767 ≤ dx ∧
        scale raw offset gain = ⌊((dx : ℚ) * (gain : ℚ) + 8192) / 16384⌋ ∧
        scale raw offset gain = ⌊(dx : ℚ) * (gain : ℚ) / 16384 + 1 / 2⌋ ∧
        -131066 ≤ scale raw offset gain ∧ scale raw offset gain ≤ 393206 ∧
        (gain = 16384 → scale raw offset gain = dx) ∧
        (gain = 8192 → scale raw offset gain = ⌊(dx : ℚ) / 2 + 1 / 2⌋) ∧
        (gain = 0 → scale raw offset gain = 0 ∧ ∀ b : AxisBounds, b.lo ≤ b.hi →
          (clampAxis b (scale raw offset gain)).1 = min (max b.origin b.lo) b.hi)

/-- A conditioned point lies inside its stroke's window snapshot and on the canvas in force (R54, R56), on a
room seat's window wherever its base lies and on a board seat's whole canvas. Each coordinate is the origin
plus the scaled value, lo when it lies below lo and hi when above hi, and a clamp is reported exactly when it
changes one; the width is the table's at the pressure above the snapshot's baseline (R57, R58, R60). Origin, lo and hi are those of R54's table: a room seat's from its
stored window, a board seat's the whole canvas. A room seat without a window, which no run enables, is given
the whole canvas (log entry 26). -/
def Obligations.ConditionedPointsStayInTheWindow : Prop :=
  ∀ (seat : Fin 72) (w : Option Window) (width height : Nat) (cal : CalibrationSnapshot)
    (table : Vector Nat 16) (s : Sample), 1024 ≤ width → 1024 ≤ height →
    let b := windowBounds seat w width height
    let q := condition cal b.1 b.2 table s
    (64 ≤ seat.val ∨ w = none → b = (⟨0, 0, width - 1⟩, ⟨0, 0, height - 1⟩)) ∧
      (∀ r, seat.val < 64 → w = some r →
        let lo := fun base extent : Nat => min base (extent - 1)
        let hi := fun base exponent extent : Nat =>
          max (lo base extent) (min (base + 2 ^ exponent) extent - 1)
        b = (⟨r.baseX, lo r.baseX width, hi r.baseX r.exponentX width⟩,
          ⟨r.baseY, lo r.baseY height, hi r.baseY r.exponentY height⟩)) ∧
      (q.1.x : Int) =
        min (max ((b.1.origin : Int) + scale s.rawX cal.offsetX cal.gainX) b.1.lo) b.1.hi ∧
      (q.1.y : Int) =
        min (max ((b.2.origin : Int) + scale s.rawY cal.offsetY cal.gainY) b.2.lo) b.2.hi ∧
      q.1.width = widthOf table (pressureAbove s.pressure cal.baseline) ∧
      b.1.lo ≤ q.1.x ∧ q.1.x ≤ b.1.hi ∧ b.1.hi < width ∧ b.2.lo ≤ q.1.y ∧ q.1.y ≤ b.2.hi ∧
      b.2.hi < height ∧
      (q.2 = false ↔ (q.1.x : Int) = b.1.origin + scale s.rawX cal.offsetX cal.gainX ∧
        (q.1.y : Int) = b.2.origin + scale s.rawY cal.offsetY cal.gainY)

/-- The width (R58, R59): the entry interpolated at p above the baseline is w[15] from p = 3840 on, and below
it is w[i] plus the floored rise, lies between the two entries it is taken from, and is w[i] itself where f
is 0. A pressure at or below the baseline gives the first entry, and entries in 1 to 255 give a width there. -/
def Obligations.WidthIsInterpolatedBetweenEntries : Prop :=
  ∀ (table : Vector Nat 16) (raw baseline : Nat), raw ≤ 4095 →
    let p := pressureAbove raw baseline
    (raw ≤ baseline → p = 0 ∧ widthOf table p = look table 0) ∧
      (baseline ≤ raw → p + baseline = raw) ∧ p ≤ 4095 ∧
      ((∀ i, 1 ≤ look table i ∧ look table i ≤ 255) →
        1 ≤ widthOf table p ∧ widthOf table p ≤ 255) ∧
      (3840 ≤ p → widthOf table p = look table 15) ∧
      (∀ (i j : Fin 16) (f : Nat), f < 256 → p = 256 * i.val + f → j.val = i.val + 1 →
        (widthOf table p : Int) =
            look table i +
              ⌊((((look table j : Nat) : ℚ) - ((look table i : Nat) : ℚ)) * (f : ℚ) + 128) / 256⌋ ∧
          min (look table i) (look table j) ≤ widthOf table p ∧
          widthOf table p ≤ max (look table i) (look table j) ∧
          (f = 0 → widthOf table p = look table i))

/-- The averages (R76, R77): over a window that is not empty, the average is the floor of the mean plus one
half when the count is even, and in every case it lies between the smallest and the largest value. A point
enters a window that is not full at its end, and pushes the oldest out of a full one (R73). A smoothed point
is the averages of the second window, which the averages of the first have entered (R76, R77). -/
def Obligations.AveragesRoundToNearestWithinTheWindow : Prop :=
  (∀ (l : List Nat) (low high : Nat), l ≠ [] → (∀ v ∈ l, low ≤ v ∧ v ≤ high) →
    low ≤ averageOf l ∧ averageOf l ≤ high ∧
      2 * l.length * averageOf l ≤ 2 * l.sum + l.length ∧
      2 * l.sum < 2 * l.length * averageOf l + l.length + (if l.length % 2 = 0 then 0 else 1)) ∧
  (∀ (n : Nat) (w : List XY) (q : XY), 1 ≤ n →
    (w.length < n → enterWindow n w q = w ++ [q]) ∧
      (w.length = n → enterWindow n w q = w.tail ++ [q] ∧ (enterWindow n w q).length = n)) ∧
  ∀ (a : Assembly) (q : Point),
    let mean := fun w : List XY => (⟨averageOf (w.map XY.x), averageOf (w.map XY.y)⟩ : XY)
    let first := enterWindow (2 ^ a.smoothing) a.stage1 ⟨q.x, q.y⟩
    let second := enterWindow (2 ^ a.smoothing) a.stage2 (mean first)
    smooth a q = (first, second, mean second)

/-- The interleaved order (R87): the k-th point sent stood at position 2k for k below h = floor((n + 1) / 2),
and at 2(k - h) + 1 from there on; no point is lost or repeated. -/
def Obligations.InterleavedOrderIsRestored : Prop :=
  ∀ l : List Point, (interleave l).Perm l ∧
    ∀ k, k < l.length →
      (interleave l)[k]? =
        if k < (l.length + 1) / 2 then l[2 * k]? else l[2 * (k - (l.length + 1) / 2) + 1]?

/-- The hover baseline estimator (R61 to R63): an unbroken run of 64 times 2^T hover samples from an empty
window forms the rounded average as the estimate, applies it when auto-apply is on, and empties the window;
a shorter run changes the sum and the count alone. -/
def Obligations.HoverWindowFormsTheEstimate : Prop :=
  ∀ (c : CalibrationSet) (pressures : List Nat), c.sum = 0 → c.count = 0 →
    (pressures.length < 64 * 2 ^ c.stored.exponent →
      pressures.foldl CalibrationSet.hover c =
        { c with sum := pressures.sum, count := pressures.length }) ∧
    (pressures.length = 64 * 2 ^ c.stored.exponent →
      let e := (pressures.sum + pressures.length / 2) / pressures.length
      pressures.foldl CalibrationSet.hover c =
        { stored := if c.stored.autoApply then { c.stored with baseline := e } else c.stored
          estimate := some e
          sum := 0
          count := 0 })

/-- One contact sample of an OPEN stroke (R60, R75): it is conditioned with the stroke's snapshots and the
current table of the stroke's tool, the window of the seat's set is emptied (R64), and the stroke takes the
point; the pending list is emitted at once when it has reached the chop length (R80), and otherwise no queue
is touched. Its candidate (R78, R79): below the decimation only the counter steps; a candidate at the last
emitted position is set aside, another is appended, counted and boxed, and the counter returns to 0; the id,
the flags, the suppressed set and the other shared fields, the snapshots and the filter parameters stand. -/
def Obligations.CandidatesAreDecimatedAndDeduplicated : Prop :=
  (∀ (p : Part) (seat : Fin 72) (s : Sample) (src : ErrorSource) (i : Fin 48) (c : StrokeCore)
    (a : Assembly), (p.seat seat).openEntry = some i → p.entry i = .opened c a →
    let q := condition a.calibration a.boundsX a.boundsY (p.widthTable c.tool) s
    let next := takePoint q.1 { c with flags := { c.flags with clipped := c.flags.clipped || q.2 } } a
    let set := (look p.active.identity seat).calibrationSet
    let taken : Part :=
      { p with
        conditioning :=
          { p.conditioning with
            sets := put p.conditioning.sets set { p.calibrationSet set with sum := 0, count := 0 } }
        assembler :=
          { p.assembler with entries := put p.assembler.entries i (.opened next.1 next.2) } }
    contactSample seat s src p =
      if next.2.pending.length < a.chop then taken else emitPoints i taken) ∧
  ∀ (q : Point) (c : StrokeCore) (a : Assembly),
    let next := takePoint q c a
    let out := (smooth a q).2.2
    next.1 = { c with count := next.1.count, box := next.1.box } ∧
      next.2 =
        { a with
          lastContact := next.2.lastContact
          stage1 := next.2.stage1
          stage2 := next.2.stage2
          counter := next.2.counter
          lastEmitted := next.2.lastEmitted
          pending := next.2.pending } ∧
      next.2.lastContact = q ∧ next.2.stage1 = (smooth a q).1 ∧ next.2.stage2 = (smooth a q).2.1 ∧
      (a.counter + 1 ≤ a.decimation → next.1 = c ∧ next.2.counter = a.counter + 1 ∧
        next.2.pending = a.pending ∧ next.2.lastEmitted = a.lastEmitted) ∧
      (a.decimation < a.counter + 1 → next.2.counter = 0 ∧
        (out.x = a.lastEmitted.x ∧ out.y = a.lastEmitted.y → next.1 = c ∧
          next.2.pending = a.pending ∧ next.2.lastEmitted = a.lastEmitted) ∧
        (out.x ≠ a.lastEmitted.x ∨ out.y ≠ a.lastEmitted.y →
          next.2.pending = a.pending ++ [⟨out.x, out.y, q.width⟩] ∧
          next.2.lastEmitted = ⟨out.x, out.y, q.width⟩ ∧ next.1.count = min 65535 (c.count + 1) ∧
          next.1.box = ⟨min c.box.minX out.x, max c.box.maxX out.x, min c.box.minY out.y,
            max c.box.maxY out.y⟩))

/-! ### The egress links -/

/-- The display egress (R140, R145, R146). A grant adds to the balance, or sets it to 255 and raises
CREDIT_OVERRUN; the end of a transmission leaves the link idle. Then the head record leaves for one credit
when there are a record, a credit and an idle link, and nothing else happens. -/
def Obligations.DisplayEgressSpendsCreditOnTheHead : Prop :=
  ∀ (p : Part) (rest : List Instr), p.inReset = false → p.Settled →
    (∀ count : Byte,
      let total := p.egress.credit + count.toNat
      let q :=
        if 255 < total then
          raise .creditOverrun ⟨some .display, none, none, none, []⟩
            { p with egress := { p.egress with credit := 255 } }
        else { p with egress := { p.egress with credit := total } }
      ((p.queues.display.items = [] ∨ total = 0 ∨ p.egress.displayBusy = true) →
        exec (.creditGrant count (crc [0x22, count])) ⟨p, rest⟩ = .next ⟨q, rest⟩) ∧
      (∀ head tail, p.queues.display.items = head :: tail → 1 ≤ total →
        p.egress.displayBusy = false → p.queues.display.waiting = [] →
          exec (.creditGrant count (crc [0x22, count])) ⟨p, rest⟩ =
            .next ⟨displaySent head tail q, rest⟩)) ∧
    (p.queues.display.items = [] ∨ p.egress.credit = 0 →
      exec .displayTransmitEnd ⟨p, rest⟩ =
        .next ⟨{ p with egress := { p.egress with displayBusy := false } }, rest⟩) ∧
    (∀ head tail, p.queues.display.items = head :: tail → 1 ≤ p.egress.credit →
      p.queues.display.waiting = [] →
        exec .displayTransmitEnd ⟨p, rest⟩ = .next ⟨displaySent head tail p, rest⟩)

/-- The slot that a departure frees goes to the first END on the queue's waiting list (R104, R105, R140): it
joins at the tail, its entry no longer waits there, and a stroke that waits for no queue leaves its summary
and a FREE entry. So it is for a departure on the display link after a transmission or a grant (R145, R146),
on the record link after a transmission or when the ready line is asserted (R148), and of the fan-out record
that the bridge accepts (R151). -/
def Obligations.FreedSlotGoesToTheFirstWaitingEnd : Prop :=
  ∀ (p : Part) (rest : List Instr) (d : Dest) (head : QueueItem) (tail : List QueueItem) (i : Fin 48)
    (ws : List (Fin 48)) (c : StrokeCore) (e : Ending), p.inReset = false → p.Settled →
    (p.queue d).items = head :: tail → (p.queue d).waiting = i :: ws → p.entry i = .ending c e →
    let bytes := sealFrame (be16 head.seq ++ head.record.bytes)
    let served := fun (o : Host.Outcome State Fault Refusal) (egress : Part → Egress) (frame : SentFrame) =>
      ∃ q, o = .next ⟨q, rest⟩ ∧ SlotServed d tail i ws c e p q ∧ q.egress = egress q ∧
        q.sent = p.sent ++ [frame]
    (d = .display → 1 ≤ p.egress.credit → served (exec .displayTransmitEnd ⟨p, rest⟩)
      (fun _ => { p.egress with credit := p.egress.credit - 1, displayBusy := true })
      ⟨.display, bytes⟩) ∧
    (∀ count : Byte, d = .display → p.egress.displayBusy = false → 1 ≤ count.toNat →
      served (exec (.creditGrant count (crc [0x22, count])) ⟨p, rest⟩)
        (fun _ => { p.egress with credit := p.egress.credit + count.toNat - 1, displayBusy := true })
        ⟨.display, bytes⟩) ∧
    (d = .record → p.egress.recorderReady = true → served (exec .recordTransmitEnd ⟨p, rest⟩)
      (fun _ => { p.egress with recordBusy := true }) ⟨.record, bytes⟩) ∧
    (d = .record → p.egress.recordBusy = false → served (exec (.recordReadyChange true) ⟨p, rest⟩)
      (fun _ => { p.egress with recorderReady := true, recordBusy := true }) ⟨.record, bytes⟩) ∧
    (d = .fanout → p.egress.offer = .fanout → p.egress.bridgeReady = true →
      served (exec .bridgeAccept ⟨p, rest⟩) (fun q => { p.egress with offer := q.choice })
        ⟨.room, fanoutFrame head⟩)

/-- The record egress (R140, R148): it follows the ready line, even in a reset (log entry 9), and sends the
head record when there are a record, the ready line and an idle link; nothing else happens. -/
def Obligations.RecordEgressFollowsTheReadyLine : Prop :=
  ∀ (p : Part) (rest : List Instr),
    (∀ b, p.inReset = true → exec (.recordReadyChange b) ⟨p, rest⟩ =
      .next ⟨{ p with egress := { p.egress with recorderReady := b } }, rest⟩) ∧
    (p.inReset = false → p.Settled →
      (∀ b, p.queues.record.items = [] ∨ b = false ∨ p.egress.recordBusy = true →
        exec (.recordReadyChange b) ⟨p, rest⟩ =
          .next ⟨{ p with egress := { p.egress with recorderReady := b } }, rest⟩) ∧
      (∀ head tail, p.queues.record.items = head :: tail → p.egress.recordBusy = false →
        p.queues.record.waiting = [] →
          exec (.recordReadyChange true) ⟨p, rest⟩ = .next ⟨recordSent head tail
            { p with egress := { p.egress with recorderReady := true } }, rest⟩) ∧
      (p.queues.record.items = [] ∨ p.egress.recorderReady = false →
        exec .recordTransmitEnd ⟨p, rest⟩ =
          .next ⟨{ p with egress := { p.egress with recordBusy := false } }, rest⟩) ∧
      (∀ head tail, p.queues.record.items = head :: tail → p.egress.recorderReady = true →
        p.queues.record.waiting = [] →
          exec .recordTransmitEnd ⟨p, rest⟩ = .next ⟨recordSent head tail p, rest⟩))

/-- The room egress (R149 to R152). The choice: the only head there is, or by the priority mode the reply
head, or the older head with the reply head at equal ages. The bridge's signal falling withdraws the offer,
and rising makes one; in a reset the signal is followed and no choice is made (log entry 9). An accepted
frame leaves its queue and the next choice is made. What the link then carries: a fan-out record, a reply and
a notice are laid out by R178, the record by R179, with a POINTS record's points in the order its order field
names (R87, R88), and a reply's body by its owning rule and R177; where R177 or the owning rule leaves a layout
open, the bodies follow log entries 15, 19, 29, 30 and 31. -/
def Obligations.BridgeTakesTheFrameUnderOffer : Prop :=
  ∀ (p : Part) (rest : List Instr),
    (p.agent.replies = [] → p.queues.fanout.items = [] → p.choice = .none) ∧
    (p.agent.replies ≠ [] → p.queues.fanout.items = [] → p.choice = .reply) ∧
    (p.agent.replies = [] → p.queues.fanout.items ≠ [] → p.choice = .fanout) ∧
    (∀ r rs f fs, p.agent.replies = r :: rs → p.queues.fanout.items = f :: fs →
      p.choice =
        if p.egress.priority = .oldestFirst ∧ (p.tick - r.tick).toNat < (p.tick - f.tick).toNat then
          .fanout
        else .reply) ∧
    (p.Settled →
      exec (.bridgeReadyChange false) ⟨p, rest⟩ = .next ⟨
        { p with egress := { p.egress with bridgeReady := false, offer := .none } }, rest⟩ ∧
      exec (.bridgeReadyChange true) ⟨p, rest⟩ = .next ⟨
        { p with
          egress :=
            { p.egress with
              bridgeReady := true
              offer :=
                if p.egress.offer = .none ∧ p.inReset = false then p.choice
                else p.egress.offer } }, rest⟩) ∧
    (p.inReset = false → p.Settled → p.egress.bridgeReady = true →
      (∀ head tail, p.egress.offer = .reply → p.agent.replies = head :: tail →
        let q : Part :=
          { p with
            agent := { p.agent with replies := tail }
            egress := { p.egress with offer := .none }
            sent := p.sent ++ [⟨.room, head.bytes⟩] }
        exec .bridgeAccept ⟨p, rest⟩ =
          .next ⟨{ q with egress := { q.egress with offer := q.choice } }, rest⟩) ∧
      (∀ head tail, p.egress.offer = .fanout → p.queues.fanout.items = head :: tail →
        p.queues.fanout.waiting = [] →
        let q := fanoutSent head tail p
        exec .bridgeAccept ⟨p, rest⟩ =
          .next ⟨{ q with egress := { q.egress with offer := q.choice } }, rest⟩)) ∧
    CodesStand ∧ (∀ r : InkRecord, r.LaidOut r.bytes) ∧ (∀ n : Notice, n.LaidOut n.bytes) ∧
    (∀ body : ReplyBody, body.LaidOut body.bytes) ∧
    (∀ item : QueueItem,
      RoomLaidOut 0x05 1 65535 item.seq item.record.bytes (fanoutFrame item)) ∧
    (∀ (dest : Half) (kind tag : Byte) (status : Status) (body : ReplyBody) (seq : Half) (tick : Tick),
      RoomLaidOut 0x03 0 dest seq ([kind, tag, status.code] ++ body.bytes)
        (⟨.reply dest kind tag status body, seq, tick⟩ : ReplyItem).bytes) ∧
    ∀ (n : Notice) (seq : Half) (tick : Tick),
      RoomLaidOut 0x04 0 65535 seq n.bytes (⟨.notice n, seq, tick⟩ : ReplyItem).bytes

/-! ### Marks and deadlines -/

/-- A real mark (R37) and, at its deadline, a substitute mark (R38), in READY: the monitor's fields, the
deadline armed afresh, FRAME_MARK_LOST raised on leaving LOCKED, and the effects of R39, R42, R43, R44 and
R11: each mark makes the point flush; one that applies a commit makes it after the commit or before it, as a
free value says (R39, log entry 12). A commit ends the OPEN strokes of the seats it disables with reason
REVOKED, in ascending entry index, and the counter of that reason counts them (R43, R110, R111). -/
def Obligations.MarksUpdateTheMonitorAndTheTables : Prop :=
  (∀ (mark : Byte) (substitute : Bool) (p : Part),
    CommitApplied mark substitute p (applyCommit mark substitute p)) ∧
  ∀ (p : Part) (rest : List Instr), p.phase = .ready →
    (∀ number : Byte, ∃ q,
      exec (.frameMark number (crc [0x21, number])) ⟨p, rest⟩ = .next ⟨q, rest⟩ ∧
        MarkTaken number false p q ∧ MarkFlushes number false { p with monitor := q.monitor } q ∧
        q.monitor =
          match p.monitor.lastRealTick with
          | none =>
            { p.monitor with
              state := .locked
              lastMark := number
              lastRealTick := some p.tick
              deadline := some ⟨p.tick, p.timing.frameTimeout⟩ }
          | some t =>
            ⟨.locked, number, some p.tick, p.tick - t,
              if p.monitor.captures = 0 ∨ p.tick - t < p.monitor.minPeriod then p.tick - t
              else p.monitor.minPeriod,
              if p.monitor.captures = 0 ∨ p.monitor.maxPeriod < p.tick - t then p.tick - t
              else p.monitor.maxPeriod,
              min 65535 (p.monitor.captures + 1), p.monitor.substitutes,
              some ⟨p.tick, p.timing.frameTimeout⟩⟩) ∧
    (∀ d, p.monitor.deadline = some d → d.interval ≤ (p.tick - d.armed).toNat → ∃ q,
      exec .substituteMark ⟨p, rest⟩ = .next ⟨q, rest⟩ ∧
        MarkTaken 0 true p q ∧
        MarkFlushes 0 true
          { (if p.monitor.state = .locked then
              raise .frameMarkLost ⟨some .display, none, none, none, []⟩ p
            else p) with monitor := q.monitor } q ∧
        q.monitor =
          { p.monitor with
            state := if p.monitor.state = .locked then .lost else p.monitor.state
            substitutes := min 65535 (p.monitor.substitutes + 1)
            deadline := some ⟨p.tick, p.timing.frameTimeout⟩ } ∧
        (p.monitor.state = .locked →
          (look q.errors.items ErrorKind.frameMarkLost.index).status = true))

/-- A seat's quiet expiry, its deadline being reached (R10, R99): the expected sequence and the lockout are
absent, the deadline is disarmed, an OPEN stroke of the seat ends ABANDONED by the steps of R101, as every
end does, and no other seat is touched. Where the seat has no OPEN stroke, only the seat changes. -/
def Obligations.QuietExpiryAbandonsTheStroke : Prop :=
  ∀ (p : Part) (rest : List Instr) (seat : Fin 72) (interval : Nat), p.inReset = false →
    p.SeatsAgree → (p.seat seat).quiet = some interval →
    interval ≤ (p.tick - (p.seat seat).lastTick).toNat → ∃ q,
      exec (.quietExpiry seat) ⟨p, rest⟩ = .next ⟨q, rest⟩ ∧
        q.seat seat =
          { p.seat seat with expected := none, quiet := none, lockout := none, openEntry := none } ∧
        (∀ other, other ≠ seat → q.seat other = p.seat other) ∧
        (∀ i, (p.seat seat).openEntry = some i →
          q.entry i = .free ∨ ∃ c e, q.entry i = .ending c e ∧ c.seat = seat ∧
            e.reason = .abandoned ∧ e.endTick = p.tick) ∧
        q.assembler.counters.abandoned =
          (if (p.seat seat).openEntry = none then p.assembler.counters.abandoned
          else min 65535 (p.assembler.counters.abandoned + 1)) ∧
        q.active = p.active ∧ q.staged = p.staged ∧ q.staging = p.staging ∧
        q.monitor = p.monitor ∧ q.tick = p.tick ∧
        let quiet := fun e : Part =>
          { e with
            seats := put p.seats seat
              { p.seat seat with expected := none, quiet := none, lockout := none, openEntry := none } }
        (∀ i, (p.seat seat).openEntry = some i → q = settle (quiet (endStroke .abandoned p i))) ∧
        ((p.seat seat).openEntry = none → q = settle (quiet p) ∧ (p.Settled → q = quiet p))

/-! ### The requests on the tables -/

/-- The staged writes, no commit being pending (R15, R16, R29, R31, R32): the fields as sent, with the bases
of a room window rounded down to a multiple of their extent, stand in the staged copy and in the reply; the
active copy is unchanged. -/
def Obligations.StagedWritesStandInTheStagedCopy : Prop :=
  ∀ (req : Requester) (p : Part) (rest : List Instr), p.takes → p.staging.pending = false →
    (∀ (seat : Fin 72) (enabled : Bool) (role : Role) (cal : Fin 16) (layers : Byte)
      (colour : Option (Fin 32)) (forced : Option (Fin 8)) (colourByte forcedByte : Byte)
      (address baseX baseY : Half) (ex ey : Nat),
      (∀ c, colour = some c → colourByte = byteOf c.val) →
      (∀ l, forced = some l → forcedByte = byteOf l.val) →
      let w : IdentityWrite :=
        ⟨byteOf seat.val, flagByte enabled, role.code, byteOf cal.val, layers, flagByte colour.isSome,
          colourByte, flagByte forced.isSome, forcedByte, address, baseX, baseY, byteOf ex, byteOf ey⟩
      let e : IdentityEntry :=
        ⟨enabled, if seat.val < 64 then some address else none, role, cal,
          if seat.val < 64 then
            some ⟨baseX.toNat - baseX.toNat % 2 ^ ex, baseY.toNat - baseY.toNat % 2 ^ ey, ex, ey⟩
          else none,
          LayerSet.ofByte layers, colour, forced⟩
      (seat.val < 64 → 1 ≤ address.toNat ∧ address.toNat ≤ 65534 ∧ baseX.toNat ≤ 32767 ∧
        baseY.toNat ≤ 32767 ∧ 8 ≤ ex ∧ ex ≤ 15 ∧ 8 ≤ ey ∧ ey ≤ 15 ∧
        (enabled = true → ∀ j : Fin 72, j.val < 64 → j ≠ seat →
          (look p.staged.identity j).enabled = true →
          (look p.staged.identity j).address ≠ some address)) →
      exec (.writeIdentity req w) ⟨p, rest⟩ = .next ⟨answered req 0x01 .ok (.identity e)
        { p with staged := { p.staged with identity := put p.staged.identity seat e } }, rest⟩) ∧
    (∀ (page : Fin 8) (index : Fin 16) (r : Rule), r.low ≤ r.high →
      exec (.writeRule req ⟨byteOf page.val, byteOf index.val, flagByte r.valid, byteOf r.low.val,
          byteOf r.high.val, r.roles.code, r.tools.code, byteOf ((r.layerMatch.map Fin.val).getD 8),
          r.action.code, byteOf r.target.val⟩) ⟨p, rest⟩ =
        .next ⟨answered req 0x03 .ok (.rule r)
          { p with
            staged :=
              { p.staged with
                pages := put p.staged.pages page (put (look p.staged.pages page) index r) } },
          rest⟩) ∧
    (∀ (page : Fin 8) (a : DefaultAction),
      exec (.setDefaultAction req (byteOf page.val) a.code) ⟨p, rest⟩ =
        .next ⟨answered req 0x05 .ok (.defaultAction page a)
          { p with staged := { p.staged with defaults := put p.staged.defaults page a } }, rest⟩) ∧
    (∀ page : Fin 8, exec (.selectPage req (byteOf page.val)) ⟨p, rest⟩ =
      .next ⟨answered req 0x06 .ok (.page page) { p with staged := { p.staged with page := page } },
        rest⟩)

/-- COMMIT, CANCEL_COMMIT and DISCARD_STAGED (R41, R45, R46). -/
def Obligations.CommitRequestsControlStaging : Prop :=
  ∀ (req : Requester) (p : Part) (rest : List Instr), p.takes →
    (∀ k, k ≤ 7 → p.staging.pending = false →
      exec (.commit req (byteOf k)) ⟨p, rest⟩ =
        .next ⟨answered req 0x07 .ok (.skip k) { p with staging := ⟨true, k⟩ }, rest⟩) ∧
    exec (.cancelCommit req) ⟨p, rest⟩ =
      .next ⟨answered req 0x08 .ok
        (.cancelled p.staging.pending (if p.staging.pending then p.staging.countdown else 0))
        { p with staging := ⟨false, 0⟩ }, rest⟩ ∧
    (p.staging.pending = false → exec (.discardStaged req) ⟨p, rest⟩ =
      .next ⟨answered req 0x09 .ok .empty { p with staged := p.active }, rest⟩)

/-! ### The reads -/

/-- The reads that change nothing but the reply queue (R17, R30, R68, R70, R112, R131, R184). -/
def Obligations.ReadsReportTheState : Prop :=
  ∀ (req : Requester) (p : Part) (rest : List Instr), p.takes →
    (∀ (seat : Fin 72) (copy : Copy),
      exec (.readIdentity req (byteOf seat.val) (if copy = .active then 0 else 1)) ⟨p, rest⟩ =
        .next ⟨answered req 0x02 .ok (.identity (look
          (if copy = .active then p.active else p.staged).identity seat)) p, rest⟩) ∧
    (∀ (page : Fin 8) (index : Fin 16) (copy : Copy),
      let t := if copy = .active then p.active else p.staged
      exec (.readRule req (byteOf page.val) (byteOf index.val) (if copy = .active then 0 else 1))
          ⟨p, rest⟩ =
        .next ⟨answered req 0x04 .ok
          (.ruleRead (look (look t.pages page) index) (look t.defaults page) t.page) p, rest⟩) ∧
    (∀ i : Fin 16, exec (.readCalibration req (byteOf i.val)) ⟨p, rest⟩ =
      let c := look p.conditioning.sets i
      .next ⟨answered req 0x0D .ok
        (.calibrationRead c.stored c.estimate c.count (64 * 2 ^ c.stored.exponent)) p, rest⟩) ∧
    (∀ t : Tool, exec (.readWidthTable req t.code) ⟨p, rest⟩ =
      .next ⟨answered req 0x10 .ok (.widthTable (p.widthTable t)) p, rest⟩) ∧
    (∃ rows : Vector LayerReport 8,
      exec (.readLayers req) ⟨p, rest⟩ = .next ⟨answered req 0x14 .ok (.layers rows) p, rest⟩ ∧
        ∀ l, (look rows l).state = (p.layer l).state ∧ (look rows l).mode = (p.layer l).mode ∧
          (look rows l).openCount = (p.layer l).openCount ∧
          (look rows l).endingCount = p.countEntries (Entry.isEndingOn l) ∧
          ((look rows l).congested = true ↔ ∃ d, (p.layer l).mode.dests.has d = true ∧
            (p.queue d).watermark ≤ (p.queue d).items.length) ∧
          ∀ d, (look rows l).atWatermark.has d = true ↔ (p.layer l).mode.dests.has d = true ∧
            (p.queue d).watermark ≤ (p.queue d).items.length) ∧
    (∀ start : Byte, start.toNat ≤ 47 → ∃ report : StrokesReport,
      exec (.readStrokes req start) ⟨p, rest⟩ =
          .next ⟨answered req 0x19 .ok (.strokes report) p, rest⟩ ∧
        report.occupied = p.countEntries Entry.isOccupied ∧
        report.roomOccupied = p.countEntries Entry.isRoomOccupied ∧
        report.nextId = p.assembler.nextId ∧
        report.entries.map StrokeReport.index =
          ((indexes 48).filter fun i =>
            decide (start.toNat ≤ i.val) && (p.entry i).isOccupied).take 8 ∧
        report.resume =
          (((indexes 48).filter fun i =>
            decide (start.toNat ≤ i.val) && (p.entry i).isOccupied).drop 8).head? ∧
        ∀ x ∈ report.entries,
          (∃ c a, p.entry x.index = .opened c a ∧
            x = ⟨x.index, c, DestSet.empty, a.pending.length, none⟩) ∨
          ∃ c e, p.entry x.index = .ending c e ∧
            x = ⟨x.index, c, e.delivered, 0, some (e.reason, e.endTick, e.waitsOn)⟩) ∧
    exec (.readErrors req) ⟨p, rest⟩ =
      .next ⟨answered req 0x1D .ok
        (.errors ⟨p.errors.items, p.errors.alertLow, p.errors.log, p.save.map Save.origin⟩) p, rest⟩

/-- The reads that clear when asked to, after they have reported (R49, R113, R144), and READ_HISTORY, which
reports the oldest unread summaries and marks them read (R159, R160). -/
def Obligations.ReadsClearWhatTheyReport : Prop :=
  ∀ (req : Requester) (p : Part) (rest : List Instr), p.takes →
    (∀ clear : Bool, exec (.readMonitor req (flagByte clear)) ⟨p, rest⟩ =
      .next ⟨answered req 0x0A .ok
        (.monitor ⟨p.monitor.state, p.monitor.lastMark, p.monitor.lastPeriod, p.monitor.minPeriod,
          p.monitor.maxPeriod, p.monitor.captures, p.monitor.substitutes, p.staging.pending,
          if p.staging.pending then p.staging.countdown else 0, p.timing.frameTimeout,
          p.timing.idleTimeout, p.tick⟩)
        { p with
          monitor :=
            if clear then
              { p.monitor with minPeriod := 0, maxPeriod := 0, captures := 0, substitutes := 0 }
            else p.monitor }, rest⟩) ∧
    (∀ clear : Bool, exec (.readQueues req (flagByte clear)) ⟨p, rest⟩ =
      let row := fun (d : Dest) (capacity : Nat) =>
        (⟨(p.queue d).items.length, capacity, (p.queue d).watermark, (p.queue d).policy,
          decide ((p.queue d).watermark ≤ (p.queue d).items.length), (p.queue d).nextSeq,
          (p.queue d).items.head?.map fun i => (i.seq, i.tick), (p.queue d).waiting.length,
          (p.queue d).waiting.head?, (p.queue d).counters⟩ : QueueReport)
      let keep := fun q : InkQueue => if clear then { q with counters := ⟨0, 0, 0, 0, 0, 0⟩ } else q
      .next ⟨answered req 0x18 .ok
        (.queues ⟨row .display 256, row .fanout 512, row .record 1024, p.egress.credit,
          p.egress.recorderReady, p.egress.priority, p.egress.bridgeReady, p.egress.offer,
          p.agent.replies.length⟩)
        { p with
          queues := ⟨keep p.queues.display, keep p.queues.fanout, keep p.queues.record,
            p.queues.held⟩ }, rest⟩) ∧
    (∀ (clear : Bool) (first count : Nat), first ≤ 71 → count ≤ 8 → first + count ≤ 72 →
      let listed := fun s : Fin 72 => decide (first ≤ s.val ∧ s.val < first + count)
      exec (.readCounters req (flagByte clear) (byteOf first) (byteOf count)) ⟨p, rest⟩ =
        .next ⟨answered req 0x1A .ok
          (.counters ⟨p.receivers.board, p.receivers.room, p.refusals, p.assembler.counters,
            p.history.overrun, p.agent.noticesLost,
            ((indexes 72).filter listed).map fun s =>
              ⟨(p.seat s).accepted, (p.seat s).missing, (p.seat s).lockout,
                (p.seat s).openEntry.isSome⟩⟩)
          (if clear then
            { p with
              receivers := ⟨⟨0, 0, 0, 0⟩, ⟨0, 0, 0, 0⟩⟩
              refusals := ⟨0, 0, 0, 0⟩
              assembler := { p.assembler with counters := ⟨0, 0, 0, 0, 0, 0, 0, 0⟩ }
              history := { p.history with overrun := 0 }
              agent := { p.agent with noticesLost := 0 }
              seats := Vector.ofFn fun s =>
                if listed s then { p.seat s with accepted := 0, missing := 0 } else p.seat s }
          else p), rest⟩) ∧
    (∀ n : Nat, 1 ≤ n → n ≤ 8 →
      let k := min n p.history.unread
      exec (.readHistory req (byteOf n)) ⟨p, rest⟩ =
        .next ⟨answered req 0x1B .ok
          (.history ((p.history.list.drop (p.history.list.length - p.history.unread)).take k)
            p.history.list.length (p.history.unread - k))
          { p with history := { p.history with unread := p.history.unread - k } }, rest⟩)

/-! ### The settings -/

/-- SET_TIMING, SET_CANVAS, SET_LAYER_MODE, SET_QUEUE and SET_ROOM_PRIORITY with values in their ranges and
in the states that take them (R34, R71, R117, R143, R154): the values stand and are echoed, and nothing
else changes; with nothing under offer a new priority mode is applied at once. -/
def Obligations.SettingsTakeTheValuesSent : Prop :=
  ∀ (req : Requester) (p : Part) (rest : List Instr), p.takes →
    (∀ idle frame : Half, 200 ≤ idle.toNat → idle.toNat ≤ 20000 → 100 ≤ frame.toNat →
      frame.toNat ≤ 2000 →
        exec (.setTiming req idle frame) ⟨p, rest⟩ =
          .next ⟨answered req 0x0B .ok (.timing idle.toNat frame.toNat)
            { p with timing := ⟨idle.toNat, frame.toNat⟩ }, rest⟩) ∧
    (∀ width height : Half, 1024 ≤ width.toNat → width.toNat ≤ 32767 → 1024 ≤ height.toNat →
      height.toNat ≤ 32767 → (∀ l, (p.layer l).state = .closed) → (∀ i, p.entry i = .free) →
        exec (.setCanvas req width height) ⟨p, rest⟩ =
          .next ⟨answered req 0x11 .ok (.canvas width.toNat height.toNat)
            { p with
              conditioning :=
                { p.conditioning with
                  canvasWidth := width.toNat, canvasHeight := height.toNat } }, rest⟩) ∧
    (∀ (l : Fin 8) (m : LayerMode), m.smoothing ≤ 3 → m.decimation ≤ 15 → m.chop = 4 ∨ m.chop = 8 →
      (p.layer l).state = .closed →
        exec (.setLayerMode req ⟨byteOf l.val, byteOf m.smoothing, byteOf m.decimation,
            byteOf m.chop, m.order.code, m.dests.code⟩) ⟨p, rest⟩ =
          .next ⟨answered req 0x12 .ok (.layerMode m)
            { p with layers := put p.layers l { p.layer l with mode := m } }, rest⟩) ∧
    (∀ (d : Dest) (watermark : Half) (policy : Policy), 1 ≤ watermark.toNat →
      watermark.toNat ≤ Config.capacity d →
        exec (.setQueue req d.code watermark policy.code) ⟨p, rest⟩ =
          .next ⟨answered req 0x15 .ok (.queueSettings watermark.toNat policy)
            (p.setQueue d { p.queue d with watermark := watermark.toNat, policy := policy }),
            rest⟩) ∧
    (∀ mode : Priority, exec (.setRoomPriority req mode.code) ⟨p, rest⟩ =
      .next ⟨answered req 0x16 .ok (.priority mode)
        (let q : Part := { p with egress := { p.egress with priority := mode } }
        if p.egress.offer = .none ∧ p.egress.bridgeReady = true then
          { q with egress := { q.egress with offer := q.choice } }
        else q), rest⟩)

/-! ### Calibration and the store -/

/-- WRITE_CALIBRATION, APPLY_BASELINE and WRITE_WIDTH_TABLE with no save in flight (R65, R67, R69): the set
takes the fields sent, its estimator empties and its estimate stays; the named sets with an estimate take
it as their baseline and are listed, ascending; the tool's table takes the entries. -/
def Obligations.CalibrationWritesTakeTheFieldsSent : Prop :=
  ∀ (req : Requester) (p : Part) (rest : List Instr), p.takes → p.save = none →
    (∀ (i : Fin 16) (f : StoredSet), -32768 ≤ f.offsetX → f.offsetX ≤ 32767 → -32768 ≤ f.offsetY →
      f.offsetY ≤ 32767 → f.gainX ≤ 65535 → f.gainY ≤ 65535 → f.baseline ≤ 4095 → f.exponent ≤ 6 →
        exec (.writeCalibration req ⟨byteOf i.val, BitVec.ofInt 16 f.offsetX,
            BitVec.ofInt 16 f.offsetY, BitVec.ofNat 16 f.gainX, BitVec.ofNat 16 f.gainY,
            BitVec.ofNat 16 f.baseline, byteOf f.exponent, flagByte f.autoApply⟩) ⟨p, rest⟩ =
          .next ⟨answered req 0x0C .ok (.calibration f (p.calibrationSet i).estimate)
            (p.setCalibrationSet i ⟨f, (p.calibrationSet i).estimate, 0, 0⟩), rest⟩) ∧
    (∀ named : List (Fin 16), named.length ≤ 16 →
      exec (.applyBaseline req (named.map fun i => byteOf i.val)) ⟨p, rest⟩ =
        .next ⟨answered req 0x0E .ok
          (.setList ((indexes 16).filter fun i =>
            decide (i ∈ named) && (p.calibrationSet i).estimate.isSome))
          { p with
            conditioning :=
              { p.conditioning with
                sets := Vector.ofFn fun i =>
                  match (p.calibrationSet i).estimate with
                  | some e =>
                    if i ∈ named then
                      { p.calibrationSet i with
                        stored := { (p.calibrationSet i).stored with baseline := e } }
                    else p.calibrationSet i
                  | none => p.calibrationSet i } }, rest⟩) ∧
    (∀ (t : Tool) (entries : Vector Byte 16), (∀ i, 1 ≤ (look entries i).toNat) →
      exec (.writeWidthTable req t.code entries) ⟨p, rest⟩ =
        .next ⟨answered req 0x0F .ok (.widthTable (entries.map BitVec.toNat))
          { p with
            conditioning :=
              { p.conditioning with
                widths := put p.conditioning.widths (toolIndex t) (entries.map BitVec.toNat) } },
          rest⟩)

/-- SAVE_CALIBRATION and RESTORE_FACTORY with no save in flight (R66, R190), and SAVE_COMPLETE with one
(R191): the image saved is the one in the RAM when the request is taken, the stored code is invalid until
the save succeeds (what the store's fields hold meanwhile and after a failed save, and over which bytes its
code is computed, are log entry 20, DEDUCED), and a failed save raises STORE_FAULT after its STORE_DONE. -/
def Obligations.SavesWriteTheImageTaken : Prop :=
  ∀ (req : Requester) (p : Part) (rest : List Instr),
    (p.takes → p.save = none →
      exec (.saveCalibration req) ⟨p, rest⟩ = .next ⟨answered req 0x21 .ok .empty
        { p with
          save := some ⟨.saveCalibration,
            ⟨p.conditioning.sets.map CalibrationSet.stored, p.conditioning.widths⟩⟩
          store := { p.store with code := none } }, rest⟩ ∧
      ∃ q, exec (.restoreFactory req) ⟨p, rest⟩ =
          .next ⟨answered req 0x22 .ok .empty q, rest⟩ ∧
        (∀ i, q.calibrationSet i = ⟨⟨0, 0, 16384, 16384, 0, 4, false⟩, none, 0, 0⟩) ∧
        (∀ i : Fin 16, look (q.widthTable .pen) i = 4 + 3 * i.val ∧
          look (q.widthTable .marker) i = 20 + 4 * i.val ∧
          look (q.widthTable .eraser) i = 60 + 10 * i.val ∧ look (q.widthTable .finger) i = 12) ∧
        q.save = some ⟨.restoreFactory,
          ⟨q.conditioning.sets.map CalibrationSet.stored, q.conditioning.widths⟩⟩ ∧
        q.store = { p.store with code := none } ∧
        q = { p with conditioning := q.conditioning, save := q.save, store := q.store } ∧
        q.conditioning.canvasWidth = p.conditioning.canvasWidth ∧
        q.conditioning.canvasHeight = p.conditioning.canvasHeight) ∧
    (∀ origin img, p.inReset = false → p.save = some ⟨origin, img⟩ →
      exec (.saveComplete true) ⟨p, rest⟩ = .next ⟨settle (notice (.storeDone origin true)
        { p with save := none, store := ⟨some img, some (crc img.bytes)⟩ }), rest⟩ ∧
      exec (.saveComplete false) ⟨p, rest⟩ = .next ⟨settle (raise .storeFault
        ⟨none, none, none, none, []⟩ (notice (.storeDone origin false) { p with save := none })),
        rest⟩)

/-! ### Layers -/

/-- The layer actions that end no stroke (R118 to R122, R126, R128). OPEN of a CLOSED layer with a free slot
on every destination opens it and sends an OPENED record on each; FREEZE, THAW and CLOSE move the state as
R120 to R122 say. In a state that does not allow the action it is refused with STATE, and OPEN without
room is refused with ROOM; then nothing changes. -/
def Obligations.LayerActionsMoveTheState : Prop :=
  ∀ (req : Requester) (l : Fin 8) (p : Part) (rest : List Instr), p.takes →
    (let moved := fun st : LayerState =>
      ({ p with layers := put p.layers l { p.layer l with state := st } } : Part)
    let stateRefusal := (.next ⟨answered req 0x13 .state (.layerState l (p.layer l).state) p, rest⟩ :
      Host.Outcome State Fault Refusal)
    ((p.layer l).state = .closed → p.queues.held = DestSet.empty → p.Settled →
      (∀ d, (p.layer l).mode.dests.has d = true → (p.queue d).items.length < Config.capacity d) →
        exec (.openLayer req (byteOf l.val)) ⟨p, rest⟩ =
          .next ⟨answered req 0x13 .ok (.layerState l .opened) (roomChoose
            { p with
              layers := put p.layers l { p.layer l with state := .opened }
              queues := p.queues.pushAll (p.layer l).mode.dests (.layer l .opened) p.tick }),
            rest⟩) ∧
    (∀ d, (p.layer l).state = .closed → (p.layer l).mode.dests.has d = true →
      Config.capacity d ≤ (p.queue d).items.length → ∃ lacking : DestSet,
        (∀ d', lacking.has d' = true ↔ (p.layer l).mode.dests.has d' = true ∧
          Config.capacity d' ≤ (p.queue d').items.length) ∧
        exec (.openLayer req (byteOf l.val)) ⟨p, rest⟩ =
          .next ⟨answered req 0x13 .room (.layerRoom l .closed lacking) p, rest⟩) ∧
    ((p.layer l).state ≠ .closed →
      exec (.openLayer req (byteOf l.val)) ⟨p, rest⟩ = stateRefusal) ∧
    ((p.layer l).state = .opened → exec (.freezeLayer req (byteOf l.val)) ⟨p, rest⟩ =
      .next ⟨answered req 0x13 .ok (.layerState l .frozen) (moved .frozen), rest⟩) ∧
    ((p.layer l).state ≠ .opened →
      exec (.freezeLayer req (byteOf l.val)) ⟨p, rest⟩ = stateRefusal) ∧
    ((p.layer l).state = .frozen → exec (.thawLayer req (byteOf l.val)) ⟨p, rest⟩ =
      .next ⟨answered req 0x13 .ok (.layerState l .opened) (moved .opened), rest⟩) ∧
    ((p.layer l).state ≠ .frozen →
      exec (.thawLayer req (byteOf l.val)) ⟨p, rest⟩ = stateRefusal) ∧
    ((p.layer l).state = .opened ∨ (p.layer l).state = .frozen →
      let st := if (p.layer l).openCount = 0 then LayerState.closed else .draining
      exec (.closeLayer req (byteOf l.val)) ⟨p, rest⟩ =
        .next ⟨answered req 0x13 .ok (.layerState l st) (moved st), rest⟩) ∧
    ((p.layer l).state = .draining → exec (.closeLayer req (byteOf l.val)) ⟨p, rest⟩ =
      .next ⟨answered req 0x13 .ok (.layerState l .draining) p, rest⟩) ∧
    ((p.layer l).state = .closed →
      exec (.closeLayer req (byteOf l.val)) ⟨p, rest⟩ = stateRefusal))

/-- CLOSE_NOW and CLEAR (R110, R123 to R127, R164): every OPEN stroke of the layer ends, CANCELLED or CLEARED,
and is counted; the other layers and the OPEN strokes on them stay. CLOSE_NOW leaves the layer CLOSED and the
history as its ends have made it. CLEAR keeps its state, puts a CLEARED record last on every destination, and
removes the layer's summaries, those of its own strokes among them, and counts them; the others keep their
order and the unread among them stay unread. The strokes end one after the other in ascending entry index,
each as every stroke ends, with its points and its END handed out (R101), at a CLEAR with one slot held on
each destination (R125); besides, only what is named here changes. CLEAR without n + 1 free slots on a
destination is refused with ROOM, naming it. In a state that does not allow the action it is refused with
STATE. -/
def Obligations.CloseNowAndClearEndTheLayersStrokes : Prop :=
  ∀ (req : Requester) (l : Fin 8) (p : Part) (rest : List Instr), p.takes →
    (let n := p.countEntries (Entry.isOpenOn l)
    let ends := fun (q : Part) =>
      q.countEntries (Entry.isOpenOn l) = 0 ∧ (q.layer l).openCount = (p.layer l).openCount - n ∧
        (q.layer l).mode = (p.layer l).mode ∧ (∀ m, m ≠ l → q.layer m = p.layer m) ∧
        (∀ i c a, p.entry i = .opened c a → c.layer ≠ l → ∃ c', q.entry i = .opened c' a ∧
          c'.id = c.id) ∧
        q.tick = p.tick ∧ q.active = p.active ∧ q.staged = p.staged ∧ q.staging = p.staging
    (p.layerStrokes l).Pairwise (· < ·) ∧
    (∀ i, i ∈ p.layerStrokes l ↔ ∃ c a, p.entry i = .opened c a ∧ c.layer = l) ∧
    ((p.layer l).state ≠ .closed → ∃ q, exec (.closeLayerNow req (byteOf l.val)) ⟨p, rest⟩ =
        .next ⟨answered req 0x13 .ok (.layerEnded l .closed n) q, rest⟩ ∧ ends q ∧
        (q.layer l).state = .closed ∧
        (let ended := (p.layerStrokes l).foldl (endStroke .cancelled) (p.holdReply true)
        q.history = ended.history ∧
          q = { ended with layers := put ended.layers l { ended.layer l with state := .closed } }) ∧
        q.assembler.counters.cancelled =
          if n = 0 then p.assembler.counters.cancelled
          else min 65535 (p.assembler.counters.cancelled + n)) ∧
    ((p.layer l).state = .opened ∨ (p.layer l).state = .frozen → (p.layer l).openCount = n →
      p.queues.held = DestSet.empty →
      (∀ d, (p.layer l).mode.dests.has d = true →
        (p.queue d).items.length + n + 1 ≤ Config.capacity d) →
      let held := ((p.holdReply true).holdSlots (p.layer l).mode.dests)
      let ended := (p.layerStrokes l).foldl (endStroke .cleared) held
      let h := ended.history
      let ofLayer := fun s : Summary => decide (s.layer = l)
      ∃ q,
        exec (.clearLayer req (byteOf l.val)) ⟨p, rest⟩ =
          .next ⟨answered req 0x13 .ok
            (.layerCleared l (p.layer l).state n (h.list.countP ofLayer)) q, rest⟩ ∧
        ends q ∧ (q.layer l).state = (p.layer l).state ∧
        q.history.list = h.list.filter (fun s => !ofLayer s) ∧ q.history.overrun = h.overrun ∧
        (h.unread ≤ h.list.length → q.history.unread =
          (h.list.drop (h.list.length - h.unread)).countP fun s => !ofLayer s) ∧
        (n = 0 → h = p.history) ∧
        (∀ s ∈ q.history.list, s.layer ≠ l) ∧ q.queues.held = DestSet.empty ∧
        (∀ d, (p.layer l).mode.dests.has d = true → ∃ before last,
          (q.queue d).items = before ++ [last] ∧ last.record = .layer l .cleared ∧
            last.tick = p.tick) ∧
        (let told : Part :=
          { ended with
            queues :=
              { ended.queues with held := DestSet.empty }.pushAll (p.layer l).mode.dests
                (.layer l .cleared) p.tick }
        q = { (if (p.layer l).mode.dests.fanout = true then roomChoose told else told) with
          history := q.history }) ∧
        q.assembler.counters.cleared =
          if n = 0 then p.assembler.counters.cleared
          else min 65535 (p.assembler.counters.cleared + n)) ∧
    (∀ d, (p.layer l).state = .opened ∨ (p.layer l).state = .frozen →
      (p.layer l).mode.dests.has d = true →
      Config.capacity d < (p.queue d).items.length + (p.layer l).openCount + 1 → ∃ lacking : DestSet,
        (∀ d', lacking.has d' = true ↔ (p.layer l).mode.dests.has d' = true ∧
          Config.capacity d' < (p.queue d').items.length + (p.layer l).openCount + 1) ∧
        exec (.clearLayer req (byteOf l.val)) ⟨p, rest⟩ =
          .next ⟨answered req 0x13 .room (.layerRoom l (p.layer l).state lacking) p, rest⟩) ∧
    ((p.layer l).state = .closed →
      exec (.closeLayerNow req (byteOf l.val)) ⟨p, rest⟩ =
        .next ⟨answered req 0x13 .state (.layerState l .closed) p, rest⟩) ∧
    ((p.layer l).state = .closed ∨ (p.layer l).state = .draining →
      exec (.clearLayer req (byteOf l.val)) ⟨p, rest⟩ =
        .next ⟨answered req 0x13 .state (.layerState l (p.layer l).state) p, rest⟩))

/-! ### FLUSH_QUEUE and UNDO -/

/-- FLUSH_QUEUE (R104, R105, R107, R142): the records leave uncounted as sent, the destination is suppressed on
every occupied entry that has it, no END waits for the queue any longer, and the strokes that waited for it
alone are complete: their summaries enter the history list in the order of the waiting list. No stroke that
was ENDING keeps the destination in its delivered set, so that no RETRACT of it goes there; that this holds
also where its END had joined the queue before the flush is the model's inference (log entry 33, DEDUCED). The
reply counts the three. The other two queues stand; a fan-out record under offer is withdrawn and the room
egress chooses afresh (R150, R151). -/
def Obligations.FlushEmptiesTheQueue : Prop :=
  ∀ (req : Requester) (d : Dest) (p : Part) (rest : List Instr), p.takes → p.WaitingAgrees → ∃ q,
    exec (.flushQueue req d.code) ⟨p, rest⟩ = .next ⟨answered req 0x17 .ok
        (.flushed (p.queue d).items.length
          (p.countEntries fun e => match e.core? with
            | some c => c.dests.has d && !c.suppressed.has d
            | none => false)
          (p.countEntries fun e => match e with
            | .ending _ e => e.waitsOn.has d && (e.waitsOn.erase d).isEmpty
            | _ => false))
        q, rest⟩ ∧
      q.queue d =
        { p.queue d with
          items := []
          waiting := []
          counters :=
            { (p.queue d).counters with
              flushed := min 65535 ((p.queue d).counters.flushed + (p.queue d).items.length) } } ∧
      (∀ other, other ≠ d → q.queue other = p.queue other) ∧
      (∀ i, match p.entry i with
        | .free => q.entry i = .free
        | .opened c a => q.entry i = .opened
            (if c.dests.has d then { c with suppressed := c.suppressed.insert d } else c) a
        | .ending c e =>
          if (e.waitsOn.erase d).isEmpty then q.entry i = .free
          else q.entry i = .ending
            (if c.dests.has d then { c with suppressed := c.suppressed.insert d } else c)
            { e with waitsOn := e.waitsOn.erase d, delivered := e.delivered.erase d }) ∧
      (let done := (p.queue d).waiting.filterMap fun i => match p.entry i with
        | .ending c e =>
          if (e.waitsOn.erase d).isEmpty then
            some (⟨c.id, c.seat, c.layer, c.tool, c.colour, c.box, c.count, e.reason, c.flags, c.beginTick,
              e.endTick, e.delivered.erase d, false⟩ : Summary)
          else none
        | _ => none
      q.history = done.foldl History.append p.history) ∧
      (d = .fanout → q.egress.offer ≠ .fanout) ∧
      (let withdrawn := d = .fanout ∧ p.egress.offer = .fanout
      q.egress =
        { p.egress with
          offer :=
            if (withdrawn ∨ p.egress.offer = .none) ∧ p.egress.bridgeReady = true then q.choice
            else if withdrawn then .none else p.egress.offer }) ∧
      q.queues.held = p.queues.held ∧
      q = { p with
        assembler := { p.assembler with entries := q.assembler.entries }
        queues := q.queues
        history := q.history
        egress := q.egress }

/-- UNDO (R161, R162). The newest summary of the seat that is not retracted and whose layer is OPEN or FROZEN
is retracted, and a RETRACT record joins every queue that took the stroke's END; with a queue of them full
it is refused with ROOM, naming it; without such a summary with STATE. -/
def Obligations.UndoRetractsTheNewestStroke : Prop :=
  ∀ (req : Requester) (seat : Fin 72) (p : Part) (rest : List Instr), p.takes →
    (let fits := fun m : Summary => m.seat = seat ∧ m.retracted = false ∧
        ((p.layer m.layer).state = .opened ∨ (p.layer m.layer).state = .frozen)
    (∀ before m after, p.history.list = before ++ m :: after → fits m → (∀ x ∈ after, ¬ fits x) →
      ((∀ d, m.delivered.has d = true → (p.queue d).items.length < Config.capacity d) →
        p.queues.held = DestSet.empty → p.Settled →
        exec (.undo req (byteOf seat.val)) ⟨p, rest⟩ =
          .next ⟨answered req 0x1C .ok (.undone m.id m.layer m.delivered) (roomChoose
            { p with
              history :=
                { p.history with list := before ++ { m with retracted := true } :: after }
              queues := p.queues.pushAll m.delivered (.retract m.id m.layer) p.tick }), rest⟩) ∧
      (∀ d, m.delivered.has d = true → Config.capacity d ≤ (p.queue d).items.length →
        ∃ full : DestSet,
          (∀ d', full.has d' = true ↔ m.delivered.has d' = true ∧
            Config.capacity d' ≤ (p.queue d').items.length) ∧
          exec (.undo req (byteOf seat.val)) ⟨p, rest⟩ =
            .next ⟨answered req 0x1C .room (.lacking full) p, rest⟩)) ∧
    ((∀ m ∈ p.history.list, ¬ fits m) → exec (.undo req (byteOf seat.val)) ⟨p, rest⟩ =
      .next ⟨answered req 0x1C .state .empty p, rest⟩))

/-! ### Errors -/

/-- A raise (R181, R182, R183): the kind's counter advances and its status is set; with the status clear and
the mask off before, it fills an empty log and at severity ALERT builds an ERROR_NOTICE, which joins the reply
queue below its limit and is lost and counted at it: 8, or 7 in LOADING, less the slot held for a reply while
a request is executed (R168, R171, R174). ALERTn takes the level that the items give; nothing else of the part
changes but the notice's offer. -/
def Obligations.RaiseFollowsItsFourSteps : Prop :=
  ∀ (k : ErrorKind) (src : ErrorSource) (p : Part),
    let item := look p.errors.items k.index
    let fresh := item.mask = false ∧ item.status = false
    let told := fresh ∧ item.severity = .alert
    let q := raise k src p
    look q.errors.items k.index =
        { item with status := true, counter := min 65535 (item.counter + 1) } ∧
      (∀ j, j ≠ k.index → look q.errors.items j = look p.errors.items j) ∧
      q.errors.log = (if fresh ∧ p.errors.log = none then some ⟨k, src, p.tick⟩ else p.errors.log) ∧
      q.AlertAgrees ∧
      (let limit := (if p.isLoading then 7 else 8) - (if p.agent.replyHeld then 1 else 0)
      q.agent.replies =
          (if told ∧ p.agent.replies.length < limit then
            p.agent.replies ++ [⟨.notice (.errorNotice k p.tick), p.agent.replySeq, p.tick⟩]
          else p.agent.replies) ∧
        q.agent.noticesLost =
          (if told ∧ limit ≤ p.agent.replies.length then min 65535 (p.agent.noticesLost + 1)
          else p.agent.noticesLost)) ∧
      q = { p with
        errors := q.errors
        agent :=
          { p.agent with
            replies := q.agent.replies
            replySeq := q.agent.replySeq
            noticesLost := q.agent.noticesLost }
        egress := { p.egress with offer := q.egress.offer } }

/-- CLEAR_ERRORS, SET_ERROR_MASK and SET_ERROR_SEVERITY (R183, R185, R186): the listed kinds lose status and
counter, those whose status was set are listed ascending, and the log is empty when it held one of them; a
mask or a severity is set and echoed; ALERTn takes the level that the items give. A list of more than 13
kinds, a kind above 12, and a mask or severity of another code are refused with RANGE. -/
def Obligations.ErrorRequestsChangeTheItems : Prop :=
  ∀ (req : Requester) (p : Part) (rest : List Instr), p.takes →
    (∀ kinds : List (Fin 13), kinds.length ≤ 13 → ∃ q,
      exec (.clearErrors req (kinds.map fun k => byteOf k.val)) ⟨p, rest⟩ =
        .next ⟨answered req 0x1E .ok
          (.kindList ((indexes 13).filter fun k =>
            decide (k ∈ kinds) && (look p.errors.items k).status)) q, rest⟩ ∧
        (∀ k, look q.errors.items k =
          if k ∈ kinds then { look p.errors.items k with status := false, counter := 0 }
          else look p.errors.items k) ∧
        (∀ r, p.errors.log = some r →
          q.errors.log = if r.kind.index ∈ kinds then none else some r) ∧
        (p.errors.log = none → q.errors.log = none) ∧ q.AlertAgrees ∧
        q = { p with errors := q.errors }) ∧
    (∀ (k : Fin 13) (mask : Bool), ∃ q,
      exec (.setErrorMask req (byteOf k.val) (flagByte mask)) ⟨p, rest⟩ =
        .next ⟨answered req 0x1F .ok (.errorMask k mask) q, rest⟩ ∧
        look q.errors.items k = { look p.errors.items k with mask := mask } ∧
        (∀ j, j ≠ k → look q.errors.items j = look p.errors.items j) ∧
        q.errors.log = p.errors.log ∧ q.AlertAgrees ∧ q = { p with errors := q.errors }) ∧
    (∀ (k : Fin 13) (severity : Severity), ∃ q,
      exec (.setErrorSeverity req (byteOf k.val) severity.code) ⟨p, rest⟩ =
        .next ⟨answered req 0x20 .ok (.errorSeverity k severity) q, rest⟩ ∧
        look q.errors.items k = { look p.errors.items k with severity := severity } ∧
        (∀ j, j ≠ k → look q.errors.items j = look p.errors.items j) ∧
        q.errors.log = p.errors.log ∧ q.AlertAgrees ∧ q = { p with errors := q.errors }) ∧
    (∀ kinds : List Byte, 13 < kinds.length ∨ (∃ k ∈ kinds, 12 < k.toNat) →
      rangeRefused (.clearErrors req kinds) req 0x1E p) ∧
    (∀ kind mask : Byte, 12 < kind.toNat ∨ 1 < mask.toNat →
      rangeRefused (.setErrorMask req kind mask) req 0x1F p) ∧
    (∀ kind severity : Byte, 12 < kind.toNat ∨ 1 < severity.toNat →
      rangeRefused (.setErrorSeverity req kind severity) req 0x20 p)

/-! ### Refusals -/

/-- The writes and settings that are refused and change nothing (R16, R29, R31, R32, R34, R41, R46, R65 to R67,
R69, R71, R117, R143, R154, R190): the requests on the staged copy while a commit is pending; those on the
calibration while a save is in flight; SET_CANVAS and SET_LAYER_MODE in a state that forbids them; a
WRITE_IDENTITY that would give two enabled room entries one address; and values outside their ranges. -/
def Obligations.RefusedRequestsChangeNothing : Prop :=
  ∀ (p : Part) (rest : List Instr), p.takes →
    (∀ c req r, c.request? = some (req, r) →
      r.code ∈ ([0x01, 0x03, 0x05, 0x06, 0x07, 0x09] : List Byte) → p.staging.pending = true →
        exec c ⟨p, rest⟩ = .next ⟨answered req r.code .pending .empty p, rest⟩) ∧
    (∀ c req r, c.request? = some (req, r) →
      r.code ∈ ([0x0C, 0x0E, 0x0F, 0x21, 0x22] : List Byte) → p.save ≠ none →
        exec c ⟨p, rest⟩ = .next ⟨answered req r.code .busy .empty p, rest⟩) ∧
    ∀ req : Requester,
      (∀ w : IdentityWrite, p.staging.pending = false →
        71 < w.seat.toNat ∨ 1 < w.enabled.toNat ∨ 2 < w.role.toNat ∨ 15 < w.calibrationSet.toNat ∨
            1 < w.overridePresent.toNat ∨ (w.overridePresent = 1 ∧ 31 < w.overrideColour.toNat) ∨
            1 < w.forcedPresent.toNat ∨ (w.forcedPresent = 1 ∧ 7 < w.forcedLayer.toNat) ∨
            (w.seat.toNat < 64 ∧
              (w.address.toNat = 0 ∨ w.address.toNat = 65535 ∨ 32767 < w.baseX.toNat ∨
                32767 < w.baseY.toNat ∨ w.exponentX.toNat < 8 ∨ 15 < w.exponentX.toNat ∨
                w.exponentY.toNat < 8 ∨ 15 < w.exponentY.toNat)) →
          rangeRefused (.writeIdentity req w) req 0x01 p) ∧
      (∀ (w : IdentityWrite) (j : Fin 72), p.staging.pending = false → w.seat.toNat < 64 →
        w.enabled = 1 → w.role.toNat ≤ 2 → w.calibrationSet.toNat ≤ 15 →
        (w.overridePresent = 0 ∨ w.overridePresent = 1 ∧ w.overrideColour.toNat ≤ 31) →
        (w.forcedPresent = 0 ∨ w.forcedPresent = 1 ∧ w.forcedLayer.toNat ≤ 7) →
        1 ≤ w.address.toNat → w.address.toNat ≤ 65534 → w.baseX.toNat ≤ 32767 →
        w.baseY.toNat ≤ 32767 → 8 ≤ w.exponentX.toNat → w.exponentX.toNat ≤ 15 →
        8 ≤ w.exponentY.toNat → w.exponentY.toNat ≤ 15 → j.val < 64 → j.val ≠ w.seat.toNat →
        (look p.staged.identity j).enabled = true →
        (look p.staged.identity j).address = some w.address →
          exec (.writeIdentity req w) ⟨p, rest⟩ =
            .next ⟨answered req 0x01 .conflict .empty p, rest⟩) ∧
      (∀ w : RuleWrite, p.staging.pending = false →
        7 < w.page.toNat ∨ 15 < w.index.toNat ∨ 1 < w.valid.toNat ∨ 71 < w.low.toNat ∨
            71 < w.high.toNat ∨ w.high.toNat < w.low.toNat ∨ 7 < w.roles.toNat ∨ 15 < w.tools.toNat ∨
            8 < w.layerMatch.toNat ∨ 3 < w.action.toNat ∨ 7 < w.target.toNat →
          rangeRefused (.writeRule req w) req 0x03 p) ∧
      (∀ page action : Byte, p.staging.pending = false →
        7 < page.toNat ∨ (action.toNat ≠ 0 ∧ action.toNat ≠ 3) →
          rangeRefused (.setDefaultAction req page action) req 0x05 p) ∧
      (∀ page : Byte, p.staging.pending = false → 7 < page.toNat →
        rangeRefused (.selectPage req page) req 0x06 p) ∧
      (∀ skip : Byte, p.staging.pending = false → 7 < skip.toNat →
        rangeRefused (.commit req skip) req 0x07 p) ∧
      (∀ idle frame : Half, idle.toNat < 200 ∨ 20000 < idle.toNat ∨ frame.toNat < 100 ∨
          2000 < frame.toNat →
        rangeRefused (.setTiming req idle frame) req 0x0B p) ∧
      (∀ w : CalibrationWrite, p.save = none →
        15 < w.set.toNat ∨ 4095 < w.baseline.toNat ∨ 6 < w.exponent.toNat ∨ 1 < w.autoApply.toNat →
          rangeRefused (.writeCalibration req w) req 0x0C p) ∧
      (∀ sets : List Byte, p.save = none → 16 < sets.length ∨ (∃ i ∈ sets, 15 < i.toNat) →
        rangeRefused (.applyBaseline req sets) req 0x0E p) ∧
      (∀ (tool : Byte) (entries : Vector Byte 16), p.save = none →
        (3 < tool.toNat ∨ ∃ i, look entries i = 0) →
          rangeRefused (.writeWidthTable req tool entries) req 0x0F p) ∧
      (∀ width height : Half, (∃ l, (p.layer l).state ≠ .closed) ∨ (∃ i, p.entry i ≠ .free) →
        exec (.setCanvas req width height) ⟨p, rest⟩ =
          .next ⟨answered req 0x11 .state .empty p, rest⟩) ∧
      (∀ width height : Half, (∀ l, (p.layer l).state = .closed) → (∀ i, p.entry i = .free) →
        width.toNat < 1024 ∨ 32767 < width.toNat ∨ height.toNat < 1024 ∨ 32767 < height.toNat →
          rangeRefused (.setCanvas req width height) req 0x11 p) ∧
      (∀ w : LayerModeWrite, 7 < w.layer.toNat → rangeRefused (.setLayerMode req w) req 0x12 p) ∧
      (∀ (w : LayerModeWrite) (l : Fin 8), w.layer.toNat = l.val → (p.layer l).state ≠ .closed →
        exec (.setLayerMode req w) ⟨p, rest⟩ =
          .next ⟨answered req 0x12 .state .empty p, rest⟩) ∧
      (∀ (w : LayerModeWrite) (l : Fin 8), w.layer.toNat = l.val → (p.layer l).state = .closed →
        3 < w.smoothing.toNat ∨ 15 < w.decimation.toNat ∨ (w.chop.toNat ≠ 4 ∧ w.chop.toNat ≠ 8) ∨
            1 < w.order.toNat ∨ 7 < w.destinations.toNat →
          rangeRefused (.setLayerMode req w) req 0x12 p) ∧
      (∀ (queue : Byte) (watermark : Half) (policy : Byte),
        2 < queue.toNat ∨ watermark.toNat = 0 ∨ 1 < policy.toNat ∨
            (∃ d : Dest, d.code = queue ∧ Config.capacity d < watermark.toNat) →
          rangeRefused (.setQueue req queue watermark policy) req 0x15 p) ∧
      ∀ mode : Byte, 1 < mode.toNat → rangeRefused (.setRoomPriority req mode) req 0x16 p

/-! ### What every command keeps -/

/-- Every command keeps the limits of the queues, the balance and the history list, leaves no departure that
may be made undone, keeps an offer at the head of its queue, and holds no slot afterwards (R134, R137,
R145, R146, R148 to R151, R156). -/
def Obligations.EveryCommandKeepsTheEgressInOrder : Prop :=
  ∀ (c : Instr) (p q : Part) (rest : List Instr),
    p.Bounded → p.Settled → p.OfferStands → p.NoSlotHeld →
    exec c ⟨p, rest⟩ = .next ⟨q, rest⟩ → q.Bounded ∧ q.Settled ∧ q.OfferStands ∧ q.NoSlotHeld

/-- Every command keeps seats, stroke table and layers in agreement, the room seats' share of the table, and
the ids unique (R90, R91, R92, R115, R122). -/
def Obligations.EveryCommandKeepsTheStrokeTable : Prop :=
  ∀ (c : Instr) (p q : Part) (rest : List Instr),
    p.SeatsAgree → p.RoomShare → p.LayersAgree → p.IdsUnique →
    exec c ⟨p, rest⟩ = .next ⟨q, rest⟩ →
      q.SeatsAgree ∧ q.RoomShare ∧ q.LayersAgree ∧ q.IdsUnique

/-- Every command keeps the waiting lists in agreement with the ENDING entries, a queue with a waiting list
full, and a stroke's records in every queue in the order BEGIN, POINTS, END (R103, R104, R136, R140, R141,
R142). -/
def Obligations.EveryCommandKeepsTheRecordOrder : Prop :=
  ∀ (c : Instr) (p q : Part) (rest : List Instr), p.WaitingAgrees → p.RecordsOrdered →
    exec c ⟨p, rest⟩ = .next ⟨q, rest⟩ → q.WaitingAgrees ∧ q.RecordsOrdered

/-- Every command keeps every point of an OPEN stroke inside the stroke's bounds and those on the canvas, its
pending list shorter than its chop length and its windows within their size (R54, R56, R73, R77, R80, R132). -/
def Obligations.EveryCommandKeepsPointsInBounds : Prop :=
  ∀ (c : Instr) (p q : Part) (rest : List Instr), p.StrokesSound →
    exec c ⟨p, rest⟩ = .next ⟨q, rest⟩ → q.StrokesSound

/-- Every command keeps ALERTn at the level that the error kinds give, and the log's kind set (R181, R182,
R183, R185, R186). -/
def Obligations.EveryCommandKeepsAlertAndLogTrue : Prop :=
  ∀ (c : Instr) (p q : Part) (rest : List Instr), p.AlertAgrees → p.LogAgrees →
    exec c ⟨p, rest⟩ = .next ⟨q, rest⟩ → q.AlertAgrees ∧ q.LogAgrees

/-- The tables in force change at a mark that applies a commit or at a reset, and then all at once; the staged
copy stands while a commit is pending, a reset apart (R16, R18, R40, R43, R47). Every command keeps the
enabled room addresses of both copies distinct and the enabled room entries complete (R5, R14, R16). -/
def Obligations.TablesChangeWholeAtAnApplyingMark : Prop :=
  ∀ (c : Instr) (p q : Part) (rest : List Instr), c.wellFormed = true →
    exec c ⟨p, rest⟩ = .next ⟨q, rest⟩ →
      (p.TablesSound → q.TablesSound) ∧
      (q.active ≠ p.active →
        (q.active = p.staged ∧ p.applies ∧
          (c = .substituteMark ∨ ∃ number code, c = .frameMark number code)) ∨
        q.active = resetTables ∧ q.staged = resetTables ∧ q.tick = 0) ∧
      (p.staging.pending = true → q.staged = p.staged ∨ q.staged = resetTables ∧ q.tick = 0)

/-- The state after reset keeps every law of a safe state. -/
def Obligations.ResetStateIsSafe : Prop :=
  State.reset.part.Bounded ∧ State.reset.part.Settled ∧ State.reset.part.OfferStands ∧
    State.reset.part.NoSlotHeld ∧ State.reset.part.SeatsAgree ∧ State.reset.part.RoomShare ∧
    State.reset.part.LayersAgree ∧ State.reset.part.IdsUnique ∧ State.reset.part.WaitingAgrees ∧
    State.reset.part.RecordsOrdered ∧ State.reset.part.TablesSound ∧
    State.reset.part.AlertAgrees ∧ State.reset.part.LogAgrees ∧ State.reset.part.StrokesSound

/-! ### Refusals of the reads, of the actions, and by the length of a body -/

/-- A read, a flush or an undo whose field lies outside its range is refused with RANGE (R17, R30, R49, R68,
R70, R112, R113, R142, R144, R160, R161). A LAYER_CONTROL of no layer, or of a code that is none of the six
actions, is refused with RANGE; the reply carries the layer and its state, for an absent layer the byte
received and a free value (R118, R169, log entry 15). A management frame on the room link whose length field
or whose body's length is wrong for its kind is answered MALFORMED (R168, section 10.3). But for that free
value's draw, nothing else changes. -/
def Obligations.RequestsThatNameNothingAreRefused : Prop :=
  ∀ (p : Part) (rest : List Instr), p.takes →
    (∀ req : Requester,
      (∀ seat copy : Byte, 71 < seat.toNat ∨ 1 < copy.toNat →
        rangeRefused (.readIdentity req seat copy) req 0x02 p) ∧
      (∀ page index copy : Byte, 7 < page.toNat ∨ 15 < index.toNat ∨ 1 < copy.toNat →
        rangeRefused (.readRule req page index copy) req 0x04 p) ∧
      (∀ clear : Byte, 1 < clear.toNat → rangeRefused (.readMonitor req clear) req 0x0A p) ∧
      (∀ set : Byte, 15 < set.toNat → rangeRefused (.readCalibration req set) req 0x0D p) ∧
      (∀ tool : Byte, 3 < tool.toNat → rangeRefused (.readWidthTable req tool) req 0x10 p) ∧
      (∀ queue : Byte, 2 < queue.toNat → rangeRefused (.flushQueue req queue) req 0x17 p) ∧
      (∀ clear : Byte, 1 < clear.toNat → rangeRefused (.readQueues req clear) req 0x18 p) ∧
      (∀ start : Byte, 47 < start.toNat → rangeRefused (.readStrokes req start) req 0x19 p) ∧
      (∀ clear first count : Byte, 1 < clear.toNat ∨ 71 < first.toNat ∨ 8 < count.toNat ∨
          72 < first.toNat + count.toNat →
        rangeRefused (.readCounters req clear first count) req 0x1A p) ∧
      (∀ count : Byte, count.toNat = 0 ∨ 8 < count.toNat →
        rangeRefused (.readHistory req count) req 0x1B p) ∧
      (∀ seat : Byte, 71 < seat.toNat → rangeRefused (.undo req seat) req 0x1C p) ∧
      (∀ layer action : Byte,
        let absent := answered req 0x13 .range
          (.absentLayer layer (Config.absentLayerState p.freeDraws))
          { p with freeDraws := p.freeDraws + 1 }
        (7 < layer.toNat → ∀ c ∈ [Instr.openLayer req layer, .freezeLayer req layer,
            .thawLayer req layer, .closeLayer req layer, .closeLayerNow req layer,
            .clearLayer req layer, .roomLinkFrame (requestFrame req (.layerControl layer action))],
          exec c ⟨p, rest⟩ = .next ⟨absent, rest⟩) ∧
        ∀ l : Fin 8, layer.toNat = l.val → 5 < action.toNat →
          exec (.roomLinkFrame (requestFrame req (.layerControl layer action))) ⟨p, rest⟩ =
            .next ⟨answered req 0x13 .range (.layerState l (p.layer l).state) p, rest⟩)) ∧
    ∀ frame : List Byte, codeMatches frame = true → 10 ≤ frame.length → byteAt frame 0 = 0x02 →
      channelOf frame = 0 → 1 ≤ (byteAt frame 4).toNat → (byteAt frame 4).toNat ≤ 0x23 →
      let body := (frame.drop 8).take (frame.length - 10)
      (halfAt frame 6).toNat ≠ frame.length ∨
          body.length ≠ catalogueLength (byteAt frame 4) body →
        exec (.roomLinkFrame frame) ⟨p, rest⟩ =
          .next ⟨answered ⟨halfAt frame 2, byteAt frame 5⟩ (byteAt frame 4) .malformed .empty p, rest⟩
end

