-- ==== Sys2Proof/Laws/State.lean ====
section
/-! SUPPORT. One lemma per field per update of the part's state, each true by unfolding, so that no later proof
unfolds a record update. -/

namespace Sys2Proof.Machine

/-! ### Part.setQueue -/

@[simp] theorem Part.setQueue_phase (p : Part) (d : Dest) (v : InkQueue) :
    (p.setQueue d v).phase = p.phase := rfl
@[simp] theorem Part.setQueue_tick (p : Part) (d : Dest) (v : InkQueue) :
    (p.setQueue d v).tick = p.tick := rfl
@[simp] theorem Part.setQueue_timing (p : Part) (d : Dest) (v : InkQueue) :
    (p.setQueue d v).timing = p.timing := rfl
@[simp] theorem Part.setQueue_receivers (p : Part) (d : Dest) (v : InkQueue) :
    (p.setQueue d v).receivers = p.receivers := rfl
@[simp] theorem Part.setQueue_seats (p : Part) (d : Dest) (v : InkQueue) :
    (p.setQueue d v).seats = p.seats := rfl
@[simp] theorem Part.setQueue_active (p : Part) (d : Dest) (v : InkQueue) :
    (p.setQueue d v).active = p.active := rfl
@[simp] theorem Part.setQueue_staged (p : Part) (d : Dest) (v : InkQueue) :
    (p.setQueue d v).staged = p.staged := rfl
@[simp] theorem Part.setQueue_refusals (p : Part) (d : Dest) (v : InkQueue) :
    (p.setQueue d v).refusals = p.refusals := rfl
@[simp] theorem Part.setQueue_monitor (p : Part) (d : Dest) (v : InkQueue) :
    (p.setQueue d v).monitor = p.monitor := rfl
@[simp] theorem Part.setQueue_staging (p : Part) (d : Dest) (v : InkQueue) :
    (p.setQueue d v).staging = p.staging := rfl
@[simp] theorem Part.setQueue_conditioning (p : Part) (d : Dest) (v : InkQueue) :
    (p.setQueue d v).conditioning = p.conditioning := rfl
@[simp] theorem Part.setQueue_assembler (p : Part) (d : Dest) (v : InkQueue) :
    (p.setQueue d v).assembler = p.assembler := rfl
@[simp] theorem Part.setQueue_layers (p : Part) (d : Dest) (v : InkQueue) :
    (p.setQueue d v).layers = p.layers := rfl
@[simp] theorem Part.setQueue_egress (p : Part) (d : Dest) (v : InkQueue) :
    (p.setQueue d v).egress = p.egress := rfl
@[simp] theorem Part.setQueue_history (p : Part) (d : Dest) (v : InkQueue) :
    (p.setQueue d v).history = p.history := rfl
@[simp] theorem Part.setQueue_agent (p : Part) (d : Dest) (v : InkQueue) :
    (p.setQueue d v).agent = p.agent := rfl
@[simp] theorem Part.setQueue_errors (p : Part) (d : Dest) (v : InkQueue) :
    (p.setQueue d v).errors = p.errors := rfl
@[simp] theorem Part.setQueue_store (p : Part) (d : Dest) (v : InkQueue) :
    (p.setQueue d v).store = p.store := rfl
@[simp] theorem Part.setQueue_save (p : Part) (d : Dest) (v : InkQueue) :
    (p.setQueue d v).save = p.save := rfl
@[simp] theorem Part.setQueue_sent (p : Part) (d : Dest) (v : InkQueue) :
    (p.setQueue d v).sent = p.sent := rfl
@[simp] theorem Part.setQueue_freeDraws (p : Part) (d : Dest) (v : InkQueue) :
    (p.setQueue d v).freeDraws = p.freeDraws := rfl

/-! ### Part.setOffer -/

@[simp] theorem Part.setOffer_phase (p : Part) (o : Offer) : (p.setOffer o).phase = p.phase := rfl
@[simp] theorem Part.setOffer_tick (p : Part) (o : Offer) : (p.setOffer o).tick = p.tick := rfl
@[simp] theorem Part.setOffer_timing (p : Part) (o : Offer) :
    (p.setOffer o).timing = p.timing := rfl
@[simp] theorem Part.setOffer_receivers (p : Part) (o : Offer) :
    (p.setOffer o).receivers = p.receivers := rfl
@[simp] theorem Part.setOffer_seats (p : Part) (o : Offer) : (p.setOffer o).seats = p.seats := rfl
@[simp] theorem Part.setOffer_active (p : Part) (o : Offer) :
    (p.setOffer o).active = p.active := rfl
@[simp] theorem Part.setOffer_staged (p : Part) (o : Offer) :
    (p.setOffer o).staged = p.staged := rfl
@[simp] theorem Part.setOffer_refusals (p : Part) (o : Offer) :
    (p.setOffer o).refusals = p.refusals := rfl
@[simp] theorem Part.setOffer_monitor (p : Part) (o : Offer) :
    (p.setOffer o).monitor = p.monitor := rfl
@[simp] theorem Part.setOffer_staging (p : Part) (o : Offer) :
    (p.setOffer o).staging = p.staging := rfl
@[simp] theorem Part.setOffer_conditioning (p : Part) (o : Offer) :
    (p.setOffer o).conditioning = p.conditioning := rfl
@[simp] theorem Part.setOffer_assembler (p : Part) (o : Offer) :
    (p.setOffer o).assembler = p.assembler := rfl
@[simp] theorem Part.setOffer_layers (p : Part) (o : Offer) :
    (p.setOffer o).layers = p.layers := rfl
@[simp] theorem Part.setOffer_queues (p : Part) (o : Offer) :
    (p.setOffer o).queues = p.queues := rfl
@[simp] theorem Part.setOffer_history (p : Part) (o : Offer) :
    (p.setOffer o).history = p.history := rfl
@[simp] theorem Part.setOffer_agent (p : Part) (o : Offer) : (p.setOffer o).agent = p.agent := rfl
@[simp] theorem Part.setOffer_errors (p : Part) (o : Offer) :
    (p.setOffer o).errors = p.errors := rfl
@[simp] theorem Part.setOffer_store (p : Part) (o : Offer) : (p.setOffer o).store = p.store := rfl
@[simp] theorem Part.setOffer_save (p : Part) (o : Offer) : (p.setOffer o).save = p.save := rfl
@[simp] theorem Part.setOffer_sent (p : Part) (o : Offer) : (p.setOffer o).sent = p.sent := rfl
@[simp] theorem Part.setOffer_freeDraws (p : Part) (o : Offer) :
    (p.setOffer o).freeDraws = p.freeDraws := rfl
@[simp] theorem Part.setOffer_egress_offer (p : Part) (o : Offer) :
    (p.setOffer o).egress.offer = o := rfl
@[simp] theorem Part.setOffer_egress_credit (p : Part) (o : Offer) :
    (p.setOffer o).egress.credit = p.egress.credit := rfl
@[simp] theorem Part.setOffer_egress_displayBusy (p : Part) (o : Offer) :
    (p.setOffer o).egress.displayBusy = p.egress.displayBusy := rfl
@[simp] theorem Part.setOffer_egress_recordBusy (p : Part) (o : Offer) :
    (p.setOffer o).egress.recordBusy = p.egress.recordBusy := rfl
@[simp] theorem Part.setOffer_egress_recorderReady (p : Part) (o : Offer) :
    (p.setOffer o).egress.recorderReady = p.egress.recorderReady := rfl
@[simp] theorem Part.setOffer_egress_priority (p : Part) (o : Offer) :
    (p.setOffer o).egress.priority = p.egress.priority := rfl
@[simp] theorem Part.setOffer_egress_bridgeReady (p : Part) (o : Offer) :
    (p.setOffer o).egress.bridgeReady = p.egress.bridgeReady := rfl

/-! ### Part.setErrorItems -/

@[simp] theorem Part.setErrorItems_phase (p : Part) (v : Vector ErrorItem 13) :
    (p.setErrorItems v).phase = p.phase := rfl
@[simp] theorem Part.setErrorItems_tick (p : Part) (v : Vector ErrorItem 13) :
    (p.setErrorItems v).tick = p.tick := rfl
@[simp] theorem Part.setErrorItems_timing (p : Part) (v : Vector ErrorItem 13) :
    (p.setErrorItems v).timing = p.timing := rfl
@[simp] theorem Part.setErrorItems_receivers (p : Part) (v : Vector ErrorItem 13) :
    (p.setErrorItems v).receivers = p.receivers := rfl
@[simp] theorem Part.setErrorItems_seats (p : Part) (v : Vector ErrorItem 13) :
    (p.setErrorItems v).seats = p.seats := rfl
@[simp] theorem Part.setErrorItems_active (p : Part) (v : Vector ErrorItem 13) :
    (p.setErrorItems v).active = p.active := rfl
@[simp] theorem Part.setErrorItems_staged (p : Part) (v : Vector ErrorItem 13) :
    (p.setErrorItems v).staged = p.staged := rfl
@[simp] theorem Part.setErrorItems_refusals (p : Part) (v : Vector ErrorItem 13) :
    (p.setErrorItems v).refusals = p.refusals := rfl
@[simp] theorem Part.setErrorItems_monitor (p : Part) (v : Vector ErrorItem 13) :
    (p.setErrorItems v).monitor = p.monitor := rfl
@[simp] theorem Part.setErrorItems_staging (p : Part) (v : Vector ErrorItem 13) :
    (p.setErrorItems v).staging = p.staging := rfl
@[simp] theorem Part.setErrorItems_conditioning (p : Part) (v : Vector ErrorItem 13) :
    (p.setErrorItems v).conditioning = p.conditioning := rfl
@[simp] theorem Part.setErrorItems_assembler (p : Part) (v : Vector ErrorItem 13) :
    (p.setErrorItems v).assembler = p.assembler := rfl
@[simp] theorem Part.setErrorItems_layers (p : Part) (v : Vector ErrorItem 13) :
    (p.setErrorItems v).layers = p.layers := rfl
@[simp] theorem Part.setErrorItems_queues (p : Part) (v : Vector ErrorItem 13) :
    (p.setErrorItems v).queues = p.queues := rfl
@[simp] theorem Part.setErrorItems_egress (p : Part) (v : Vector ErrorItem 13) :
    (p.setErrorItems v).egress = p.egress := rfl
@[simp] theorem Part.setErrorItems_history (p : Part) (v : Vector ErrorItem 13) :
    (p.setErrorItems v).history = p.history := rfl
@[simp] theorem Part.setErrorItems_agent (p : Part) (v : Vector ErrorItem 13) :
    (p.setErrorItems v).agent = p.agent := rfl
@[simp] theorem Part.setErrorItems_store (p : Part) (v : Vector ErrorItem 13) :
    (p.setErrorItems v).store = p.store := rfl
@[simp] theorem Part.setErrorItems_save (p : Part) (v : Vector ErrorItem 13) :
    (p.setErrorItems v).save = p.save := rfl
@[simp] theorem Part.setErrorItems_sent (p : Part) (v : Vector ErrorItem 13) :
    (p.setErrorItems v).sent = p.sent := rfl
@[simp] theorem Part.setErrorItems_freeDraws (p : Part) (v : Vector ErrorItem 13) :
    (p.setErrorItems v).freeDraws = p.freeDraws := rfl
@[simp] theorem Part.setErrorItems_errors_items (p : Part) (v : Vector ErrorItem 13) :
    (p.setErrorItems v).errors.items = v := rfl
@[simp] theorem Part.setErrorItems_errors_log (p : Part) (v : Vector ErrorItem 13) :
    (p.setErrorItems v).errors.log = p.errors.log := rfl
@[simp] theorem Part.setErrorItems_errors_alertLow (p : Part) (v : Vector ErrorItem 13) :
    (p.setErrorItems v).errors.alertLow = alertLevel v := rfl

/-! ### Part.setEntry -/

@[simp] theorem Part.setEntry_phase (p : Part) (i : Fin 48) (e : Entry) :
    (p.setEntry i e).phase = p.phase := rfl
@[simp] theorem Part.setEntry_tick (p : Part) (i : Fin 48) (e : Entry) :
    (p.setEntry i e).tick = p.tick := rfl
@[simp] theorem Part.setEntry_timing (p : Part) (i : Fin 48) (e : Entry) :
    (p.setEntry i e).timing = p.timing := rfl
@[simp] theorem Part.setEntry_receivers (p : Part) (i : Fin 48) (e : Entry) :
    (p.setEntry i e).receivers = p.receivers := rfl
@[simp] theorem Part.setEntry_seats (p : Part) (i : Fin 48) (e : Entry) :
    (p.setEntry i e).seats = p.seats := rfl
@[simp] theorem Part.setEntry_active (p : Part) (i : Fin 48) (e : Entry) :
    (p.setEntry i e).active = p.active := rfl
@[simp] theorem Part.setEntry_staged (p : Part) (i : Fin 48) (e : Entry) :
    (p.setEntry i e).staged = p.staged := rfl
@[simp] theorem Part.setEntry_refusals (p : Part) (i : Fin 48) (e : Entry) :
    (p.setEntry i e).refusals = p.refusals := rfl
@[simp] theorem Part.setEntry_monitor (p : Part) (i : Fin 48) (e : Entry) :
    (p.setEntry i e).monitor = p.monitor := rfl
@[simp] theorem Part.setEntry_staging (p : Part) (i : Fin 48) (e : Entry) :
    (p.setEntry i e).staging = p.staging := rfl
@[simp] theorem Part.setEntry_conditioning (p : Part) (i : Fin 48) (e : Entry) :
    (p.setEntry i e).conditioning = p.conditioning := rfl
@[simp] theorem Part.setEntry_layers (p : Part) (i : Fin 48) (e : Entry) :
    (p.setEntry i e).layers = p.layers := rfl
@[simp] theorem Part.setEntry_queues (p : Part) (i : Fin 48) (e : Entry) :
    (p.setEntry i e).queues = p.queues := rfl
@[simp] theorem Part.setEntry_egress (p : Part) (i : Fin 48) (e : Entry) :
    (p.setEntry i e).egress = p.egress := rfl
@[simp] theorem Part.setEntry_history (p : Part) (i : Fin 48) (e : Entry) :
    (p.setEntry i e).history = p.history := rfl
@[simp] theorem Part.setEntry_agent (p : Part) (i : Fin 48) (e : Entry) :
    (p.setEntry i e).agent = p.agent := rfl
@[simp] theorem Part.setEntry_errors (p : Part) (i : Fin 48) (e : Entry) :
    (p.setEntry i e).errors = p.errors := rfl
@[simp] theorem Part.setEntry_store (p : Part) (i : Fin 48) (e : Entry) :
    (p.setEntry i e).store = p.store := rfl
@[simp] theorem Part.setEntry_save (p : Part) (i : Fin 48) (e : Entry) :
    (p.setEntry i e).save = p.save := rfl
@[simp] theorem Part.setEntry_sent (p : Part) (i : Fin 48) (e : Entry) :
    (p.setEntry i e).sent = p.sent := rfl
@[simp] theorem Part.setEntry_freeDraws (p : Part) (i : Fin 48) (e : Entry) :
    (p.setEntry i e).freeDraws = p.freeDraws := rfl
@[simp] theorem Part.setEntry_assembler_entries (p : Part) (i : Fin 48) (e : Entry) :
    (p.setEntry i e).assembler.entries = put p.assembler.entries i e := rfl
@[simp] theorem Part.setEntry_assembler_nextId (p : Part) (i : Fin 48) (e : Entry) :
    (p.setEntry i e).assembler.nextId = p.assembler.nextId := rfl
@[simp] theorem Part.setEntry_assembler_nextSerial (p : Part) (i : Fin 48) (e : Entry) :
    (p.setEntry i e).assembler.nextSerial = p.assembler.nextSerial := rfl
@[simp] theorem Part.setEntry_assembler_counters (p : Part) (i : Fin 48) (e : Entry) :
    (p.setEntry i e).assembler.counters = p.assembler.counters := rfl

/-! ### Part.losePointsOf -/

@[simp] theorem Part.losePointsOf_phase (p : Part) (n : Option Nat) :
    (p.losePointsOf n).phase = p.phase := rfl
@[simp] theorem Part.losePointsOf_tick (p : Part) (n : Option Nat) :
    (p.losePointsOf n).tick = p.tick := rfl
@[simp] theorem Part.losePointsOf_timing (p : Part) (n : Option Nat) :
    (p.losePointsOf n).timing = p.timing := rfl
@[simp] theorem Part.losePointsOf_receivers (p : Part) (n : Option Nat) :
    (p.losePointsOf n).receivers = p.receivers := rfl
@[simp] theorem Part.losePointsOf_seats (p : Part) (n : Option Nat) :
    (p.losePointsOf n).seats = p.seats := rfl
@[simp] theorem Part.losePointsOf_active (p : Part) (n : Option Nat) :
    (p.losePointsOf n).active = p.active := rfl
@[simp] theorem Part.losePointsOf_staged (p : Part) (n : Option Nat) :
    (p.losePointsOf n).staged = p.staged := rfl
@[simp] theorem Part.losePointsOf_refusals (p : Part) (n : Option Nat) :
    (p.losePointsOf n).refusals = p.refusals := rfl
@[simp] theorem Part.losePointsOf_monitor (p : Part) (n : Option Nat) :
    (p.losePointsOf n).monitor = p.monitor := rfl
@[simp] theorem Part.losePointsOf_staging (p : Part) (n : Option Nat) :
    (p.losePointsOf n).staging = p.staging := rfl
@[simp] theorem Part.losePointsOf_conditioning (p : Part) (n : Option Nat) :
    (p.losePointsOf n).conditioning = p.conditioning := rfl
@[simp] theorem Part.losePointsOf_layers (p : Part) (n : Option Nat) :
    (p.losePointsOf n).layers = p.layers := rfl
@[simp] theorem Part.losePointsOf_queues (p : Part) (n : Option Nat) :
    (p.losePointsOf n).queues = p.queues := rfl
@[simp] theorem Part.losePointsOf_egress (p : Part) (n : Option Nat) :
    (p.losePointsOf n).egress = p.egress := rfl
@[simp] theorem Part.losePointsOf_history (p : Part) (n : Option Nat) :
    (p.losePointsOf n).history = p.history := rfl
@[simp] theorem Part.losePointsOf_agent (p : Part) (n : Option Nat) :
    (p.losePointsOf n).agent = p.agent := rfl
@[simp] theorem Part.losePointsOf_errors (p : Part) (n : Option Nat) :
    (p.losePointsOf n).errors = p.errors := rfl
@[simp] theorem Part.losePointsOf_store (p : Part) (n : Option Nat) :
    (p.losePointsOf n).store = p.store := rfl
@[simp] theorem Part.losePointsOf_save (p : Part) (n : Option Nat) :
    (p.losePointsOf n).save = p.save := rfl
@[simp] theorem Part.losePointsOf_sent (p : Part) (n : Option Nat) :
    (p.losePointsOf n).sent = p.sent := rfl
@[simp] theorem Part.losePointsOf_freeDraws (p : Part) (n : Option Nat) :
    (p.losePointsOf n).freeDraws = p.freeDraws := rfl
@[simp] theorem Part.losePointsOf_assembler_entries (p : Part) (n : Option Nat) :
    (p.losePointsOf n).assembler.entries = p.assembler.entries.map (Entry.losePointsOf n) := rfl
@[simp] theorem Part.losePointsOf_assembler_nextId (p : Part) (n : Option Nat) :
    (p.losePointsOf n).assembler.nextId = p.assembler.nextId := rfl
@[simp] theorem Part.losePointsOf_assembler_nextSerial (p : Part) (n : Option Nat) :
    (p.losePointsOf n).assembler.nextSerial = p.assembler.nextSerial := rfl
@[simp] theorem Part.losePointsOf_assembler_counters (p : Part) (n : Option Nat) :
    (p.losePointsOf n).assembler.counters = p.assembler.counters := rfl

/-! ### Part.setSeat -/

@[simp] theorem Part.setSeat_phase (p : Part) (i : Fin 72) (v : Seat) :
    (p.setSeat i v).phase = p.phase := rfl
@[simp] theorem Part.setSeat_tick (p : Part) (i : Fin 72) (v : Seat) :
    (p.setSeat i v).tick = p.tick := rfl
@[simp] theorem Part.setSeat_timing (p : Part) (i : Fin 72) (v : Seat) :
    (p.setSeat i v).timing = p.timing := rfl
@[simp] theorem Part.setSeat_receivers (p : Part) (i : Fin 72) (v : Seat) :
    (p.setSeat i v).receivers = p.receivers := rfl
@[simp] theorem Part.setSeat_active (p : Part) (i : Fin 72) (v : Seat) :
    (p.setSeat i v).active = p.active := rfl
@[simp] theorem Part.setSeat_staged (p : Part) (i : Fin 72) (v : Seat) :
    (p.setSeat i v).staged = p.staged := rfl
@[simp] theorem Part.setSeat_refusals (p : Part) (i : Fin 72) (v : Seat) :
    (p.setSeat i v).refusals = p.refusals := rfl
@[simp] theorem Part.setSeat_monitor (p : Part) (i : Fin 72) (v : Seat) :
    (p.setSeat i v).monitor = p.monitor := rfl
@[simp] theorem Part.setSeat_staging (p : Part) (i : Fin 72) (v : Seat) :
    (p.setSeat i v).staging = p.staging := rfl
@[simp] theorem Part.setSeat_conditioning (p : Part) (i : Fin 72) (v : Seat) :
    (p.setSeat i v).conditioning = p.conditioning := rfl
@[simp] theorem Part.setSeat_assembler (p : Part) (i : Fin 72) (v : Seat) :
    (p.setSeat i v).assembler = p.assembler := rfl
@[simp] theorem Part.setSeat_layers (p : Part) (i : Fin 72) (v : Seat) :
    (p.setSeat i v).layers = p.layers := rfl
@[simp] theorem Part.setSeat_queues (p : Part) (i : Fin 72) (v : Seat) :
    (p.setSeat i v).queues = p.queues := rfl
@[simp] theorem Part.setSeat_egress (p : Part) (i : Fin 72) (v : Seat) :
    (p.setSeat i v).egress = p.egress := rfl
@[simp] theorem Part.setSeat_history (p : Part) (i : Fin 72) (v : Seat) :
    (p.setSeat i v).history = p.history := rfl
@[simp] theorem Part.setSeat_agent (p : Part) (i : Fin 72) (v : Seat) :
    (p.setSeat i v).agent = p.agent := rfl
@[simp] theorem Part.setSeat_errors (p : Part) (i : Fin 72) (v : Seat) :
    (p.setSeat i v).errors = p.errors := rfl
@[simp] theorem Part.setSeat_store (p : Part) (i : Fin 72) (v : Seat) :
    (p.setSeat i v).store = p.store := rfl
@[simp] theorem Part.setSeat_save (p : Part) (i : Fin 72) (v : Seat) :
    (p.setSeat i v).save = p.save := rfl
@[simp] theorem Part.setSeat_sent (p : Part) (i : Fin 72) (v : Seat) :
    (p.setSeat i v).sent = p.sent := rfl
@[simp] theorem Part.setSeat_freeDraws (p : Part) (i : Fin 72) (v : Seat) :
    (p.setSeat i v).freeDraws = p.freeDraws := rfl
@[simp] theorem Part.setSeat_seats (p : Part) (i : Fin 72) (v : Seat) :
    (p.setSeat i v).seats = put p.seats i v := rfl

/-! ### Part.setLayer -/

@[simp] theorem Part.setLayer_phase (p : Part) (l : Fin 8) (v : Layer) :
    (p.setLayer l v).phase = p.phase := rfl
@[simp] theorem Part.setLayer_tick (p : Part) (l : Fin 8) (v : Layer) :
    (p.setLayer l v).tick = p.tick := rfl
@[simp] theorem Part.setLayer_timing (p : Part) (l : Fin 8) (v : Layer) :
    (p.setLayer l v).timing = p.timing := rfl
@[simp] theorem Part.setLayer_receivers (p : Part) (l : Fin 8) (v : Layer) :
    (p.setLayer l v).receivers = p.receivers := rfl
@[simp] theorem Part.setLayer_seats (p : Part) (l : Fin 8) (v : Layer) :
    (p.setLayer l v).seats = p.seats := rfl
@[simp] theorem Part.setLayer_active (p : Part) (l : Fin 8) (v : Layer) :
    (p.setLayer l v).active = p.active := rfl
@[simp] theorem Part.setLayer_staged (p : Part) (l : Fin 8) (v : Layer) :
    (p.setLayer l v).staged = p.staged := rfl
@[simp] theorem Part.setLayer_refusals (p : Part) (l : Fin 8) (v : Layer) :
    (p.setLayer l v).refusals = p.refusals := rfl
@[simp] theorem Part.setLayer_monitor (p : Part) (l : Fin 8) (v : Layer) :
    (p.setLayer l v).monitor = p.monitor := rfl
@[simp] theorem Part.setLayer_staging (p : Part) (l : Fin 8) (v : Layer) :
    (p.setLayer l v).staging = p.staging := rfl
@[simp] theorem Part.setLayer_conditioning (p : Part) (l : Fin 8) (v : Layer) :
    (p.setLayer l v).conditioning = p.conditioning := rfl
@[simp] theorem Part.setLayer_assembler (p : Part) (l : Fin 8) (v : Layer) :
    (p.setLayer l v).assembler = p.assembler := rfl
@[simp] theorem Part.setLayer_queues (p : Part) (l : Fin 8) (v : Layer) :
    (p.setLayer l v).queues = p.queues := rfl
@[simp] theorem Part.setLayer_egress (p : Part) (l : Fin 8) (v : Layer) :
    (p.setLayer l v).egress = p.egress := rfl
@[simp] theorem Part.setLayer_history (p : Part) (l : Fin 8) (v : Layer) :
    (p.setLayer l v).history = p.history := rfl
@[simp] theorem Part.setLayer_agent (p : Part) (l : Fin 8) (v : Layer) :
    (p.setLayer l v).agent = p.agent := rfl
@[simp] theorem Part.setLayer_errors (p : Part) (l : Fin 8) (v : Layer) :
    (p.setLayer l v).errors = p.errors := rfl
@[simp] theorem Part.setLayer_store (p : Part) (l : Fin 8) (v : Layer) :
    (p.setLayer l v).store = p.store := rfl
@[simp] theorem Part.setLayer_save (p : Part) (l : Fin 8) (v : Layer) :
    (p.setLayer l v).save = p.save := rfl
@[simp] theorem Part.setLayer_sent (p : Part) (l : Fin 8) (v : Layer) :
    (p.setLayer l v).sent = p.sent := rfl
@[simp] theorem Part.setLayer_freeDraws (p : Part) (l : Fin 8) (v : Layer) :
    (p.setLayer l v).freeDraws = p.freeDraws := rfl
@[simp] theorem Part.setLayer_layers (p : Part) (l : Fin 8) (v : Layer) :
    (p.setLayer l v).layers = put p.layers l v := rfl

/-! ### Part.setCalibrationSet -/

@[simp] theorem Part.setCalibrationSet_phase (p : Part) (i : Fin 16) (v : CalibrationSet) :
    (p.setCalibrationSet i v).phase = p.phase := rfl
@[simp] theorem Part.setCalibrationSet_tick (p : Part) (i : Fin 16) (v : CalibrationSet) :
    (p.setCalibrationSet i v).tick = p.tick := rfl
@[simp] theorem Part.setCalibrationSet_timing (p : Part) (i : Fin 16) (v : CalibrationSet) :
    (p.setCalibrationSet i v).timing = p.timing := rfl
@[simp] theorem Part.setCalibrationSet_receivers (p : Part) (i : Fin 16) (v : CalibrationSet) :
    (p.setCalibrationSet i v).receivers = p.receivers := rfl
@[simp] theorem Part.setCalibrationSet_seats (p : Part) (i : Fin 16) (v : CalibrationSet) :
    (p.setCalibrationSet i v).seats = p.seats := rfl
@[simp] theorem Part.setCalibrationSet_active (p : Part) (i : Fin 16) (v : CalibrationSet) :
    (p.setCalibrationSet i v).active = p.active := rfl
@[simp] theorem Part.setCalibrationSet_staged (p : Part) (i : Fin 16) (v : CalibrationSet) :
    (p.setCalibrationSet i v).staged = p.staged := rfl
@[simp] theorem Part.setCalibrationSet_refusals (p : Part) (i : Fin 16) (v : CalibrationSet) :
    (p.setCalibrationSet i v).refusals = p.refusals := rfl
@[simp] theorem Part.setCalibrationSet_monitor (p : Part) (i : Fin 16) (v : CalibrationSet) :
    (p.setCalibrationSet i v).monitor = p.monitor := rfl
@[simp] theorem Part.setCalibrationSet_staging (p : Part) (i : Fin 16) (v : CalibrationSet) :
    (p.setCalibrationSet i v).staging = p.staging := rfl
@[simp] theorem Part.setCalibrationSet_assembler (p : Part) (i : Fin 16) (v : CalibrationSet) :
    (p.setCalibrationSet i v).assembler = p.assembler := rfl
@[simp] theorem Part.setCalibrationSet_layers (p : Part) (i : Fin 16) (v : CalibrationSet) :
    (p.setCalibrationSet i v).layers = p.layers := rfl
@[simp] theorem Part.setCalibrationSet_queues (p : Part) (i : Fin 16) (v : CalibrationSet) :
    (p.setCalibrationSet i v).queues = p.queues := rfl
@[simp] theorem Part.setCalibrationSet_egress (p : Part) (i : Fin 16) (v : CalibrationSet) :
    (p.setCalibrationSet i v).egress = p.egress := rfl
@[simp] theorem Part.setCalibrationSet_history (p : Part) (i : Fin 16) (v : CalibrationSet) :
    (p.setCalibrationSet i v).history = p.history := rfl
@[simp] theorem Part.setCalibrationSet_agent (p : Part) (i : Fin 16) (v : CalibrationSet) :
    (p.setCalibrationSet i v).agent = p.agent := rfl
@[simp] theorem Part.setCalibrationSet_errors (p : Part) (i : Fin 16) (v : CalibrationSet) :
    (p.setCalibrationSet i v).errors = p.errors := rfl
@[simp] theorem Part.setCalibrationSet_store (p : Part) (i : Fin 16) (v : CalibrationSet) :
    (p.setCalibrationSet i v).store = p.store := rfl
@[simp] theorem Part.setCalibrationSet_save (p : Part) (i : Fin 16) (v : CalibrationSet) :
    (p.setCalibrationSet i v).save = p.save := rfl
@[simp] theorem Part.setCalibrationSet_sent (p : Part) (i : Fin 16) (v : CalibrationSet) :
    (p.setCalibrationSet i v).sent = p.sent := rfl
@[simp] theorem Part.setCalibrationSet_freeDraws (p : Part) (i : Fin 16) (v : CalibrationSet) :
    (p.setCalibrationSet i v).freeDraws = p.freeDraws := rfl
@[simp] theorem Part.setCalibrationSet_conditioning_sets
    (p : Part) (i : Fin 16) (v : CalibrationSet) :
    (p.setCalibrationSet i v).conditioning.sets =
      put p.conditioning.sets i v := rfl
@[simp] theorem Part.setCalibrationSet_conditioning_widths
    (p : Part) (i : Fin 16) (v : CalibrationSet) :
    (p.setCalibrationSet i v).conditioning.widths =
      p.conditioning.widths := rfl
@[simp] theorem Part.setCalibrationSet_conditioning_canvasWidth
    (p : Part) (i : Fin 16) (v : CalibrationSet) :
    (p.setCalibrationSet i v).conditioning.canvasWidth =
      p.conditioning.canvasWidth := rfl
@[simp] theorem Part.setCalibrationSet_conditioning_canvasHeight
    (p : Part) (i : Fin 16) (v : CalibrationSet) :
    (p.setCalibrationSet i v).conditioning.canvasHeight =
      p.conditioning.canvasHeight := rfl

/-! ### Part.countStrokes -/

@[simp] theorem Part.countStrokes_phase (p : Part) (f : StrokeCounters → StrokeCounters) :
    (p.countStrokes f).phase = p.phase := rfl
@[simp] theorem Part.countStrokes_tick (p : Part) (f : StrokeCounters → StrokeCounters) :
    (p.countStrokes f).tick = p.tick := rfl
@[simp] theorem Part.countStrokes_timing (p : Part) (f : StrokeCounters → StrokeCounters) :
    (p.countStrokes f).timing = p.timing := rfl
@[simp] theorem Part.countStrokes_receivers (p : Part) (f : StrokeCounters → StrokeCounters) :
    (p.countStrokes f).receivers = p.receivers := rfl
@[simp] theorem Part.countStrokes_seats (p : Part) (f : StrokeCounters → StrokeCounters) :
    (p.countStrokes f).seats = p.seats := rfl
@[simp] theorem Part.countStrokes_active (p : Part) (f : StrokeCounters → StrokeCounters) :
    (p.countStrokes f).active = p.active := rfl
@[simp] theorem Part.countStrokes_staged (p : Part) (f : StrokeCounters → StrokeCounters) :
    (p.countStrokes f).staged = p.staged := rfl
@[simp] theorem Part.countStrokes_refusals (p : Part) (f : StrokeCounters → StrokeCounters) :
    (p.countStrokes f).refusals = p.refusals := rfl
@[simp] theorem Part.countStrokes_monitor (p : Part) (f : StrokeCounters → StrokeCounters) :
    (p.countStrokes f).monitor = p.monitor := rfl
@[simp] theorem Part.countStrokes_staging (p : Part) (f : StrokeCounters → StrokeCounters) :
    (p.countStrokes f).staging = p.staging := rfl
@[simp] theorem Part.countStrokes_conditioning (p : Part) (f : StrokeCounters → StrokeCounters) :
    (p.countStrokes f).conditioning = p.conditioning := rfl
@[simp] theorem Part.countStrokes_layers (p : Part) (f : StrokeCounters → StrokeCounters) :
    (p.countStrokes f).layers = p.layers := rfl
@[simp] theorem Part.countStrokes_queues (p : Part) (f : StrokeCounters → StrokeCounters) :
    (p.countStrokes f).queues = p.queues := rfl
@[simp] theorem Part.countStrokes_egress (p : Part) (f : StrokeCounters → StrokeCounters) :
    (p.countStrokes f).egress = p.egress := rfl
@[simp] theorem Part.countStrokes_history (p : Part) (f : StrokeCounters → StrokeCounters) :
    (p.countStrokes f).history = p.history := rfl
@[simp] theorem Part.countStrokes_agent (p : Part) (f : StrokeCounters → StrokeCounters) :
    (p.countStrokes f).agent = p.agent := rfl
@[simp] theorem Part.countStrokes_errors (p : Part) (f : StrokeCounters → StrokeCounters) :
    (p.countStrokes f).errors = p.errors := rfl
@[simp] theorem Part.countStrokes_store (p : Part) (f : StrokeCounters → StrokeCounters) :
    (p.countStrokes f).store = p.store := rfl
@[simp] theorem Part.countStrokes_save (p : Part) (f : StrokeCounters → StrokeCounters) :
    (p.countStrokes f).save = p.save := rfl
@[simp] theorem Part.countStrokes_sent (p : Part) (f : StrokeCounters → StrokeCounters) :
    (p.countStrokes f).sent = p.sent := rfl
@[simp] theorem Part.countStrokes_freeDraws (p : Part) (f : StrokeCounters → StrokeCounters) :
    (p.countStrokes f).freeDraws = p.freeDraws := rfl
@[simp] theorem Part.countStrokes_assembler_counters
    (p : Part) (f : StrokeCounters → StrokeCounters) :
    (p.countStrokes f).assembler.counters =
      f p.assembler.counters := rfl
@[simp] theorem Part.countStrokes_assembler_entries
    (p : Part) (f : StrokeCounters → StrokeCounters) :
    (p.countStrokes f).assembler.entries =
      p.assembler.entries := rfl
@[simp] theorem Part.countStrokes_assembler_nextId
    (p : Part) (f : StrokeCounters → StrokeCounters) :
    (p.countStrokes f).assembler.nextId =
      p.assembler.nextId := rfl
@[simp] theorem Part.countStrokes_assembler_nextSerial
    (p : Part) (f : StrokeCounters → StrokeCounters) :
    (p.countStrokes f).assembler.nextSerial =
      p.assembler.nextSerial := rfl

/-! ### Part.holdReply -/

@[simp] theorem Part.holdReply_phase (p : Part) (b : Bool) : (p.holdReply b).phase = p.phase := rfl
@[simp] theorem Part.holdReply_tick (p : Part) (b : Bool) : (p.holdReply b).tick = p.tick := rfl
@[simp] theorem Part.holdReply_timing (p : Part) (b : Bool) :
    (p.holdReply b).timing = p.timing := rfl
@[simp] theorem Part.holdReply_receivers (p : Part) (b : Bool) :
    (p.holdReply b).receivers = p.receivers := rfl
@[simp] theorem Part.holdReply_seats (p : Part) (b : Bool) : (p.holdReply b).seats = p.seats := rfl
@[simp] theorem Part.holdReply_active (p : Part) (b : Bool) :
    (p.holdReply b).active = p.active := rfl
@[simp] theorem Part.holdReply_staged (p : Part) (b : Bool) :
    (p.holdReply b).staged = p.staged := rfl
@[simp] theorem Part.holdReply_refusals (p : Part) (b : Bool) :
    (p.holdReply b).refusals = p.refusals := rfl
@[simp] theorem Part.holdReply_monitor (p : Part) (b : Bool) :
    (p.holdReply b).monitor = p.monitor := rfl
@[simp] theorem Part.holdReply_staging (p : Part) (b : Bool) :
    (p.holdReply b).staging = p.staging := rfl
@[simp] theorem Part.holdReply_conditioning (p : Part) (b : Bool) :
    (p.holdReply b).conditioning = p.conditioning := rfl
@[simp] theorem Part.holdReply_assembler (p : Part) (b : Bool) :
    (p.holdReply b).assembler = p.assembler := rfl
@[simp] theorem Part.holdReply_layers (p : Part) (b : Bool) :
    (p.holdReply b).layers = p.layers := rfl
@[simp] theorem Part.holdReply_queues (p : Part) (b : Bool) :
    (p.holdReply b).queues = p.queues := rfl
@[simp] theorem Part.holdReply_egress (p : Part) (b : Bool) :
    (p.holdReply b).egress = p.egress := rfl
@[simp] theorem Part.holdReply_history (p : Part) (b : Bool) :
    (p.holdReply b).history = p.history := rfl
@[simp] theorem Part.holdReply_errors (p : Part) (b : Bool) :
    (p.holdReply b).errors = p.errors := rfl
@[simp] theorem Part.holdReply_store (p : Part) (b : Bool) : (p.holdReply b).store = p.store := rfl
@[simp] theorem Part.holdReply_save (p : Part) (b : Bool) : (p.holdReply b).save = p.save := rfl
@[simp] theorem Part.holdReply_sent (p : Part) (b : Bool) : (p.holdReply b).sent = p.sent := rfl
@[simp] theorem Part.holdReply_freeDraws (p : Part) (b : Bool) :
    (p.holdReply b).freeDraws = p.freeDraws := rfl
@[simp] theorem Part.holdReply_agent_replyHeld (p : Part) (b : Bool) :
    (p.holdReply b).agent.replyHeld = b := rfl
@[simp] theorem Part.holdReply_agent_replies (p : Part) (b : Bool) :
    (p.holdReply b).agent.replies = p.agent.replies := rfl
@[simp] theorem Part.holdReply_agent_replySeq (p : Part) (b : Bool) :
    (p.holdReply b).agent.replySeq = p.agent.replySeq := rfl
@[simp] theorem Part.holdReply_agent_noticesLost (p : Part) (b : Bool) :
    (p.holdReply b).agent.noticesLost = p.agent.noticesLost := rfl

/-! ### Part.holdSlots -/

@[simp] theorem Part.holdSlots_phase (p : Part) (h : DestSet) :
    (p.holdSlots h).phase = p.phase := rfl
@[simp] theorem Part.holdSlots_tick (p : Part) (h : DestSet) : (p.holdSlots h).tick = p.tick := rfl
@[simp] theorem Part.holdSlots_timing (p : Part) (h : DestSet) :
    (p.holdSlots h).timing = p.timing := rfl
@[simp] theorem Part.holdSlots_receivers (p : Part) (h : DestSet) :
    (p.holdSlots h).receivers = p.receivers := rfl
@[simp] theorem Part.holdSlots_seats (p : Part) (h : DestSet) :
    (p.holdSlots h).seats = p.seats := rfl
@[simp] theorem Part.holdSlots_active (p : Part) (h : DestSet) :
    (p.holdSlots h).active = p.active := rfl
@[simp] theorem Part.holdSlots_staged (p : Part) (h : DestSet) :
    (p.holdSlots h).staged = p.staged := rfl
@[simp] theorem Part.holdSlots_refusals (p : Part) (h : DestSet) :
    (p.holdSlots h).refusals = p.refusals := rfl
@[simp] theorem Part.holdSlots_monitor (p : Part) (h : DestSet) :
    (p.holdSlots h).monitor = p.monitor := rfl
@[simp] theorem Part.holdSlots_staging (p : Part) (h : DestSet) :
    (p.holdSlots h).staging = p.staging := rfl
@[simp] theorem Part.holdSlots_conditioning (p : Part) (h : DestSet) :
    (p.holdSlots h).conditioning = p.conditioning := rfl
@[simp] theorem Part.holdSlots_assembler (p : Part) (h : DestSet) :
    (p.holdSlots h).assembler = p.assembler := rfl
@[simp] theorem Part.holdSlots_layers (p : Part) (h : DestSet) :
    (p.holdSlots h).layers = p.layers := rfl
@[simp] theorem Part.holdSlots_egress (p : Part) (h : DestSet) :
    (p.holdSlots h).egress = p.egress := rfl
@[simp] theorem Part.holdSlots_history (p : Part) (h : DestSet) :
    (p.holdSlots h).history = p.history := rfl
@[simp] theorem Part.holdSlots_agent (p : Part) (h : DestSet) :
    (p.holdSlots h).agent = p.agent := rfl
@[simp] theorem Part.holdSlots_errors (p : Part) (h : DestSet) :
    (p.holdSlots h).errors = p.errors := rfl
@[simp] theorem Part.holdSlots_store (p : Part) (h : DestSet) :
    (p.holdSlots h).store = p.store := rfl
@[simp] theorem Part.holdSlots_save (p : Part) (h : DestSet) : (p.holdSlots h).save = p.save := rfl
@[simp] theorem Part.holdSlots_sent (p : Part) (h : DestSet) : (p.holdSlots h).sent = p.sent := rfl
@[simp] theorem Part.holdSlots_freeDraws (p : Part) (h : DestSet) :
    (p.holdSlots h).freeDraws = p.freeDraws := rfl
@[simp] theorem Part.holdSlots_queues_held (p : Part) (h : DestSet) :
    (p.holdSlots h).queues.held = h := rfl
@[simp] theorem Part.holdSlots_queues_display (p : Part) (h : DestSet) :
    (p.holdSlots h).queues.display = p.queues.display := rfl
@[simp] theorem Part.holdSlots_queues_fanout (p : Part) (h : DestSet) :
    (p.holdSlots h).queues.fanout = p.queues.fanout := rfl
@[simp] theorem Part.holdSlots_queues_record (p : Part) (h : DestSet) :
    (p.holdSlots h).queues.record = p.queues.record := rfl

/-! ### Part.countBoard -/

@[simp] theorem Part.countBoard_phase (p : Part) (f : LinkCounters → LinkCounters) :
    (p.countBoard f).phase = p.phase := rfl
@[simp] theorem Part.countBoard_tick (p : Part) (f : LinkCounters → LinkCounters) :
    (p.countBoard f).tick = p.tick := rfl
@[simp] theorem Part.countBoard_timing (p : Part) (f : LinkCounters → LinkCounters) :
    (p.countBoard f).timing = p.timing := rfl
@[simp] theorem Part.countBoard_seats (p : Part) (f : LinkCounters → LinkCounters) :
    (p.countBoard f).seats = p.seats := rfl
@[simp] theorem Part.countBoard_active (p : Part) (f : LinkCounters → LinkCounters) :
    (p.countBoard f).active = p.active := rfl
@[simp] theorem Part.countBoard_staged (p : Part) (f : LinkCounters → LinkCounters) :
    (p.countBoard f).staged = p.staged := rfl
@[simp] theorem Part.countBoard_refusals (p : Part) (f : LinkCounters → LinkCounters) :
    (p.countBoard f).refusals = p.refusals := rfl
@[simp] theorem Part.countBoard_monitor (p : Part) (f : LinkCounters → LinkCounters) :
    (p.countBoard f).monitor = p.monitor := rfl
@[simp] theorem Part.countBoard_staging (p : Part) (f : LinkCounters → LinkCounters) :
    (p.countBoard f).staging = p.staging := rfl
@[simp] theorem Part.countBoard_conditioning (p : Part) (f : LinkCounters → LinkCounters) :
    (p.countBoard f).conditioning = p.conditioning := rfl
@[simp] theorem Part.countBoard_assembler (p : Part) (f : LinkCounters → LinkCounters) :
    (p.countBoard f).assembler = p.assembler := rfl
@[simp] theorem Part.countBoard_layers (p : Part) (f : LinkCounters → LinkCounters) :
    (p.countBoard f).layers = p.layers := rfl
@[simp] theorem Part.countBoard_queues (p : Part) (f : LinkCounters → LinkCounters) :
    (p.countBoard f).queues = p.queues := rfl
@[simp] theorem Part.countBoard_egress (p : Part) (f : LinkCounters → LinkCounters) :
    (p.countBoard f).egress = p.egress := rfl
@[simp] theorem Part.countBoard_history (p : Part) (f : LinkCounters → LinkCounters) :
    (p.countBoard f).history = p.history := rfl
@[simp] theorem Part.countBoard_agent (p : Part) (f : LinkCounters → LinkCounters) :
    (p.countBoard f).agent = p.agent := rfl
@[simp] theorem Part.countBoard_errors (p : Part) (f : LinkCounters → LinkCounters) :
    (p.countBoard f).errors = p.errors := rfl
@[simp] theorem Part.countBoard_store (p : Part) (f : LinkCounters → LinkCounters) :
    (p.countBoard f).store = p.store := rfl
@[simp] theorem Part.countBoard_save (p : Part) (f : LinkCounters → LinkCounters) :
    (p.countBoard f).save = p.save := rfl
@[simp] theorem Part.countBoard_sent (p : Part) (f : LinkCounters → LinkCounters) :
    (p.countBoard f).sent = p.sent := rfl
@[simp] theorem Part.countBoard_freeDraws (p : Part) (f : LinkCounters → LinkCounters) :
    (p.countBoard f).freeDraws = p.freeDraws := rfl
@[simp] theorem Part.countBoard_receivers_board (p : Part) (f : LinkCounters → LinkCounters) :
    (p.countBoard f).receivers.board = f p.receivers.board := rfl
@[simp] theorem Part.countBoard_receivers_room (p : Part) (f : LinkCounters → LinkCounters) :
    (p.countBoard f).receivers.room = p.receivers.room := rfl

/-! ### Part.countRoom -/

@[simp] theorem Part.countRoom_phase (p : Part) (f : LinkCounters → LinkCounters) :
    (p.countRoom f).phase = p.phase := rfl
@[simp] theorem Part.countRoom_tick (p : Part) (f : LinkCounters → LinkCounters) :
    (p.countRoom f).tick = p.tick := rfl
@[simp] theorem Part.countRoom_timing (p : Part) (f : LinkCounters → LinkCounters) :
    (p.countRoom f).timing = p.timing := rfl
@[simp] theorem Part.countRoom_seats (p : Part) (f : LinkCounters → LinkCounters) :
    (p.countRoom f).seats = p.seats := rfl
@[simp] theorem Part.countRoom_active (p : Part) (f : LinkCounters → LinkCounters) :
    (p.countRoom f).active = p.active := rfl
@[simp] theorem Part.countRoom_staged (p : Part) (f : LinkCounters → LinkCounters) :
    (p.countRoom f).staged = p.staged := rfl
@[simp] theorem Part.countRoom_refusals (p : Part) (f : LinkCounters → LinkCounters) :
    (p.countRoom f).refusals = p.refusals := rfl
@[simp] theorem Part.countRoom_monitor (p : Part) (f : LinkCounters → LinkCounters) :
    (p.countRoom f).monitor = p.monitor := rfl
@[simp] theorem Part.countRoom_staging (p : Part) (f : LinkCounters → LinkCounters) :
    (p.countRoom f).staging = p.staging := rfl
@[simp] theorem Part.countRoom_conditioning (p : Part) (f : LinkCounters → LinkCounters) :
    (p.countRoom f).conditioning = p.conditioning := rfl
@[simp] theorem Part.countRoom_assembler (p : Part) (f : LinkCounters → LinkCounters) :
    (p.countRoom f).assembler = p.assembler := rfl
@[simp] theorem Part.countRoom_layers (p : Part) (f : LinkCounters → LinkCounters) :
    (p.countRoom f).layers = p.layers := rfl
@[simp] theorem Part.countRoom_queues (p : Part) (f : LinkCounters → LinkCounters) :
    (p.countRoom f).queues = p.queues := rfl
@[simp] theorem Part.countRoom_egress (p : Part) (f : LinkCounters → LinkCounters) :
    (p.countRoom f).egress = p.egress := rfl
@[simp] theorem Part.countRoom_history (p : Part) (f : LinkCounters → LinkCounters) :
    (p.countRoom f).history = p.history := rfl
@[simp] theorem Part.countRoom_agent (p : Part) (f : LinkCounters → LinkCounters) :
    (p.countRoom f).agent = p.agent := rfl
@[simp] theorem Part.countRoom_errors (p : Part) (f : LinkCounters → LinkCounters) :
    (p.countRoom f).errors = p.errors := rfl
@[simp] theorem Part.countRoom_store (p : Part) (f : LinkCounters → LinkCounters) :
    (p.countRoom f).store = p.store := rfl
@[simp] theorem Part.countRoom_save (p : Part) (f : LinkCounters → LinkCounters) :
    (p.countRoom f).save = p.save := rfl
@[simp] theorem Part.countRoom_sent (p : Part) (f : LinkCounters → LinkCounters) :
    (p.countRoom f).sent = p.sent := rfl
@[simp] theorem Part.countRoom_freeDraws (p : Part) (f : LinkCounters → LinkCounters) :
    (p.countRoom f).freeDraws = p.freeDraws := rfl
@[simp] theorem Part.countRoom_receivers_room (p : Part) (f : LinkCounters → LinkCounters) :
    (p.countRoom f).receivers.room = f p.receivers.room := rfl
@[simp] theorem Part.countRoom_receivers_board (p : Part) (f : LinkCounters → LinkCounters) :
    (p.countRoom f).receivers.board = p.receivers.board := rfl

/-! ### send -/

@[simp] theorem send_phase (l : Link) (b : List Byte) (p : Part) :
    (send l b p).phase = p.phase := rfl
@[simp] theorem send_tick (l : Link) (b : List Byte) (p : Part) : (send l b p).tick = p.tick := rfl
@[simp] theorem send_timing (l : Link) (b : List Byte) (p : Part) :
    (send l b p).timing = p.timing := rfl
@[simp] theorem send_receivers (l : Link) (b : List Byte) (p : Part) :
    (send l b p).receivers = p.receivers := rfl
@[simp] theorem send_seats (l : Link) (b : List Byte) (p : Part) :
    (send l b p).seats = p.seats := rfl
@[simp] theorem send_active (l : Link) (b : List Byte) (p : Part) :
    (send l b p).active = p.active := rfl
@[simp] theorem send_staged (l : Link) (b : List Byte) (p : Part) :
    (send l b p).staged = p.staged := rfl
@[simp] theorem send_refusals (l : Link) (b : List Byte) (p : Part) :
    (send l b p).refusals = p.refusals := rfl
@[simp] theorem send_monitor (l : Link) (b : List Byte) (p : Part) :
    (send l b p).monitor = p.monitor := rfl
@[simp] theorem send_staging (l : Link) (b : List Byte) (p : Part) :
    (send l b p).staging = p.staging := rfl
@[simp] theorem send_conditioning (l : Link) (b : List Byte) (p : Part) :
    (send l b p).conditioning = p.conditioning := rfl
@[simp] theorem send_assembler (l : Link) (b : List Byte) (p : Part) :
    (send l b p).assembler = p.assembler := rfl
@[simp] theorem send_layers (l : Link) (b : List Byte) (p : Part) :
    (send l b p).layers = p.layers := rfl
@[simp] theorem send_queues (l : Link) (b : List Byte) (p : Part) :
    (send l b p).queues = p.queues := rfl
@[simp] theorem send_egress (l : Link) (b : List Byte) (p : Part) :
    (send l b p).egress = p.egress := rfl
@[simp] theorem send_history (l : Link) (b : List Byte) (p : Part) :
    (send l b p).history = p.history := rfl
@[simp] theorem send_agent (l : Link) (b : List Byte) (p : Part) :
    (send l b p).agent = p.agent := rfl
@[simp] theorem send_errors (l : Link) (b : List Byte) (p : Part) :
    (send l b p).errors = p.errors := rfl
@[simp] theorem send_store (l : Link) (b : List Byte) (p : Part) :
    (send l b p).store = p.store := rfl
@[simp] theorem send_save (l : Link) (b : List Byte) (p : Part) : (send l b p).save = p.save := rfl
@[simp] theorem send_freeDraws (l : Link) (b : List Byte) (p : Part) :
    (send l b p).freeDraws = p.freeDraws := rfl
@[simp] theorem send_sent (l : Link) (b : List Byte) (p : Part) :
    (send l b p).sent = p.sent ++ [⟨l, b⟩] := rfl

/-! ### Part.advance -/

@[simp] theorem Part.advance_phase (p : Part) : (p.advance).phase = p.phase := rfl
@[simp] theorem Part.advance_timing (p : Part) : (p.advance).timing = p.timing := rfl
@[simp] theorem Part.advance_receivers (p : Part) : (p.advance).receivers = p.receivers := rfl
@[simp] theorem Part.advance_seats (p : Part) : (p.advance).seats = p.seats := rfl
@[simp] theorem Part.advance_active (p : Part) : (p.advance).active = p.active := rfl
@[simp] theorem Part.advance_staged (p : Part) : (p.advance).staged = p.staged := rfl
@[simp] theorem Part.advance_refusals (p : Part) : (p.advance).refusals = p.refusals := rfl
@[simp] theorem Part.advance_monitor (p : Part) : (p.advance).monitor = p.monitor := rfl
@[simp] theorem Part.advance_staging (p : Part) : (p.advance).staging = p.staging := rfl
@[simp] theorem Part.advance_conditioning (p : Part) :
    (p.advance).conditioning = p.conditioning := rfl
@[simp] theorem Part.advance_assembler (p : Part) : (p.advance).assembler = p.assembler := rfl
@[simp] theorem Part.advance_layers (p : Part) : (p.advance).layers = p.layers := rfl
@[simp] theorem Part.advance_queues (p : Part) : (p.advance).queues = p.queues := rfl
@[simp] theorem Part.advance_egress (p : Part) : (p.advance).egress = p.egress := rfl
@[simp] theorem Part.advance_history (p : Part) : (p.advance).history = p.history := rfl
@[simp] theorem Part.advance_agent (p : Part) : (p.advance).agent = p.agent := rfl
@[simp] theorem Part.advance_errors (p : Part) : (p.advance).errors = p.errors := rfl
@[simp] theorem Part.advance_store (p : Part) : (p.advance).store = p.store := rfl
@[simp] theorem Part.advance_save (p : Part) : (p.advance).save = p.save := rfl
@[simp] theorem Part.advance_sent (p : Part) : (p.advance).sent = p.sent := rfl
@[simp] theorem Part.advance_freeDraws (p : Part) : (p.advance).freeDraws = p.freeDraws := rfl
@[simp] theorem Part.advance_tick (p : Part) : (p.advance).tick = p.tick + 1 := rfl

/-! ### setBridgeReady -/

@[simp] theorem setBridgeReady_phase (b : Bool) (p : Part) :
    (setBridgeReady b p).phase = p.phase := rfl
@[simp] theorem setBridgeReady_tick (b : Bool) (p : Part) :
    (setBridgeReady b p).tick = p.tick := rfl
@[simp] theorem setBridgeReady_timing (b : Bool) (p : Part) :
    (setBridgeReady b p).timing = p.timing := rfl
@[simp] theorem setBridgeReady_receivers (b : Bool) (p : Part) :
    (setBridgeReady b p).receivers = p.receivers := rfl
@[simp] theorem setBridgeReady_seats (b : Bool) (p : Part) :
    (setBridgeReady b p).seats = p.seats := rfl
@[simp] theorem setBridgeReady_active (b : Bool) (p : Part) :
    (setBridgeReady b p).active = p.active := rfl
@[simp] theorem setBridgeReady_staged (b : Bool) (p : Part) :
    (setBridgeReady b p).staged = p.staged := rfl
@[simp] theorem setBridgeReady_refusals (b : Bool) (p : Part) :
    (setBridgeReady b p).refusals = p.refusals := rfl
@[simp] theorem setBridgeReady_monitor (b : Bool) (p : Part) :
    (setBridgeReady b p).monitor = p.monitor := rfl
@[simp] theorem setBridgeReady_staging (b : Bool) (p : Part) :
    (setBridgeReady b p).staging = p.staging := rfl
@[simp] theorem setBridgeReady_conditioning (b : Bool) (p : Part) :
    (setBridgeReady b p).conditioning = p.conditioning := rfl
@[simp] theorem setBridgeReady_assembler (b : Bool) (p : Part) :
    (setBridgeReady b p).assembler = p.assembler := rfl
@[simp] theorem setBridgeReady_layers (b : Bool) (p : Part) :
    (setBridgeReady b p).layers = p.layers := rfl
@[simp] theorem setBridgeReady_queues (b : Bool) (p : Part) :
    (setBridgeReady b p).queues = p.queues := rfl
@[simp] theorem setBridgeReady_history (b : Bool) (p : Part) :
    (setBridgeReady b p).history = p.history := rfl
@[simp] theorem setBridgeReady_agent (b : Bool) (p : Part) :
    (setBridgeReady b p).agent = p.agent := rfl
@[simp] theorem setBridgeReady_errors (b : Bool) (p : Part) :
    (setBridgeReady b p).errors = p.errors := rfl
@[simp] theorem setBridgeReady_store (b : Bool) (p : Part) :
    (setBridgeReady b p).store = p.store := rfl
@[simp] theorem setBridgeReady_save (b : Bool) (p : Part) :
    (setBridgeReady b p).save = p.save := rfl
@[simp] theorem setBridgeReady_sent (b : Bool) (p : Part) :
    (setBridgeReady b p).sent = p.sent := rfl
@[simp] theorem setBridgeReady_freeDraws (b : Bool) (p : Part) :
    (setBridgeReady b p).freeDraws = p.freeDraws := rfl
@[simp] theorem setBridgeReady_egress_bridgeReady (b : Bool) (p : Part) :
    (setBridgeReady b p).egress.bridgeReady = b := rfl
@[simp] theorem setBridgeReady_egress_offer (b : Bool) (p : Part) :
    (setBridgeReady b p).egress.offer = if b then p.egress.offer else .none := rfl
@[simp] theorem setBridgeReady_egress_credit (b : Bool) (p : Part) :
    (setBridgeReady b p).egress.credit = p.egress.credit := rfl
@[simp] theorem setBridgeReady_egress_displayBusy (b : Bool) (p : Part) :
    (setBridgeReady b p).egress.displayBusy = p.egress.displayBusy := rfl
@[simp] theorem setBridgeReady_egress_recordBusy (b : Bool) (p : Part) :
    (setBridgeReady b p).egress.recordBusy = p.egress.recordBusy := rfl
@[simp] theorem setBridgeReady_egress_recorderReady (b : Bool) (p : Part) :
    (setBridgeReady b p).egress.recorderReady = p.egress.recorderReady := rfl
@[simp] theorem setBridgeReady_egress_priority (b : Bool) (p : Part) :
    (setBridgeReady b p).egress.priority = p.egress.priority := rfl

end Sys2Proof.Machine
end

