-- ==== Sys2Proof/Laws/Tables.lean ====
section
/-! SUPPORT. The laws of the fixed tables, of the accessors that read them, and of the encoded fields. -/

namespace Sys2Proof

/-! ### Fixed tables -/

theorem look_put {α : Type} {n : Nat} (v : Vector α n) (i j : Fin n) (a : α) :
    look (put v i a) j = if j = i then a else look v j := by
  rcases eq_or_ne j i with rfl | h
  · simp [look, put, Vector.get_eq_getElem]
  · have : i.val ≠ j.val := fun e => h (Fin.ext e.symm)
    simp [look, put, Vector.get_eq_getElem, this, h]

@[simp] theorem look_put_same {α : Type} {n : Nat} (v : Vector α n) (i : Fin n) (a : α) :
    look (put v i a) i = a := by simp [look_put]

theorem look_put_other {α : Type} {n : Nat} (v : Vector α n) {i j : Fin n} (a : α) (h : j ≠ i) :
    look (put v i a) j = look v j := by simp [look_put, h]

@[simp] theorem look_fill {α : Type} (n : Nat) (a : α) (i : Fin n) : look (fill n a) i = a := by
  simp [look, fill, Vector.get_eq_getElem]

@[simp] theorem look_map {α β : Type} {n : Nat} (f : α → β) (v : Vector α n) (i : Fin n) :
    look (v.map f) i = f (look v i) := by
  simp [look, Vector.get_eq_getElem]

@[simp] theorem look_ofFn {α : Type} {n : Nat} (f : Fin n → α) (i : Fin n) :
    look (Vector.ofFn f) i = f i := by
  simp [look, Vector.get_eq_getElem]

/-- Two tables that agree at every index are one table. -/
theorem table_ext {α : Type} {n : Nat} {v w : Vector α n} (h : ∀ i, look v i = look w i) : v = w := by
  apply Vector.ext
  intro i hi
  simpa [look, Vector.get_eq_getElem] using h ⟨i, hi⟩

theorem mem_indexes {n : Nat} (i : Fin n) : i ∈ indexes n := by simp [indexes]

theorem indexes_nodup (n : Nat) : (indexes n).Nodup := by simpa [indexes] using List.nodup_finRange n

/-- A table as a list is the list of its entries in index order. -/
theorem toList_eq_map {α : Type} {n : Nat} (v : Vector α n) :
    v.toList = (indexes n).map (look v) := by
  apply List.ext_getElem
  · simp [indexes]
  · intro k h1 h2
    simp [indexes, look, Vector.get_eq_getElem]

/-! ### Encoded fields -/

@[simp] theorem finOf_byteOf (n : Nat) (hn : n ≤ 256) (i : Fin n) : finOf? n (byteOf i.val) = some i := by
  have h : i.val < 256 := lt_of_lt_of_le i.isLt hn
  simp [finOf?, byteOf, Nat.mod_eq_of_lt h]

@[simp] theorem flagOf_flagByte (b : Bool) : flagOf? (flagByte b) = some b := by
  cases b <;> rfl

@[simp] theorem Tool.of_code (t : Tool) : Tool.of? t.code = some t := by cases t <;> rfl
@[simp] theorem Role.of_code (r : Role) : Role.of? r.code = some r := by cases r <;> rfl
@[simp] theorem Dest.of_code (d : Dest) : Dest.of? d.code = some d := by cases d <;> rfl
@[simp] theorem Action.of_code (a : Action) : Action.of? a.code = some a := by cases a <;> rfl
@[simp] theorem DefaultAction.of_code (a : DefaultAction) : DefaultAction.of? a.code = some a := by
  cases a <;> rfl
@[simp] theorem PointOrder.of_code (o : PointOrder) : PointOrder.of? o.code = some o := by
  cases o <;> rfl
@[simp] theorem Policy.of_code (p : Policy) : Policy.of? p.code = some p := by cases p <;> rfl
@[simp] theorem Priority.of_code (p : Priority) : Priority.of? p.code = some p := by cases p <;> rfl
@[simp] theorem Severity.of_code (s : Severity) : Severity.of? s.code = some s := by cases s <;> rfl

@[simp] theorem DestSet.of_code (d : DestSet) : DestSet.of? d.code = some d := by
  obtain ⟨a, b, c⟩ := d
  cases a <;> cases b <;> cases c <;> rfl

@[simp] theorem RoleSet.of_code (r : RoleSet) : RoleSet.of? r.code = some r := by
  obtain ⟨a, b, c⟩ := r
  cases a <;> cases b <;> cases c <;> rfl

@[simp] theorem ToolSet.of_code (t : ToolSet) : ToolSet.of? t.code = some t := by
  obtain ⟨a, b, c, d⟩ := t
  cases a <;> cases b <;> cases c <;> cases d <;> rfl

@[simp] theorem be16_read16 (hi lo : Byte) : be16 (read16 hi lo) = [hi, lo] := by
  have h1 : (read16 hi lo).extractLsb' 8 8 = hi := by
    apply BitVec.eq_of_getLsbD_eq
    intro i hi'
    rw [BitVec.getLsbD_extractLsb', show read16 hi lo = hi ++ lo from rfl, BitVec.getLsbD_append]
    simp [hi']
  have h0 : (read16 hi lo).extractLsb' 0 8 = lo := by
    apply BitVec.eq_of_getLsbD_eq
    intro i hi'
    rw [BitVec.getLsbD_extractLsb', show read16 hi lo = hi ++ lo from rfl, BitVec.getLsbD_append]
    simp [hi']
  simp [be16, h1, h0]

theorem read16_be16 (h : Half) : read16 (h.extractLsb' 8 8) (h.extractLsb' 0 8) = h := by
  simp only [read16]
  ext i hi
  simp only [BitVec.getElem_append, BitVec.getElem_extractLsb']
  split <;> simp_all [BitVec.getLsbD_eq_getElem]

/-! ### Destination sets -/

@[simp] theorem DestSet.has_insert (s : DestSet) (d e : Dest) :
    (s.insert d).has e = (decide (e = d) || s.has e) := by
  cases d <;> cases e <;> simp [DestSet.insert, DestSet.has]

@[simp] theorem DestSet.has_erase (s : DestSet) (d e : Dest) :
    (s.erase d).has e = (!decide (e = d) && s.has e) := by
  cases d <;> cases e <;> simp [DestSet.erase, DestSet.has]

@[simp] theorem DestSet.has_empty (d : Dest) : DestSet.empty.has d = false := by cases d <;> rfl

theorem DestSet.isEmpty_iff (s : DestSet) : s.isEmpty = true ↔ ∀ d, s.has d = false := by
  obtain ⟨a, b, c⟩ := s
  constructor
  · intro h d
    cases d <;> revert h <;> cases a <;> cases b <;> cases c <;> simp [DestSet.isEmpty, DestSet.has]
  · intro h
    have h1 := h .display; have h2 := h .fanout; have h3 := h .record
    simp only [DestSet.has] at h1 h2 h3
    simp [DestSet.isEmpty, h1, h2, h3]

theorem DestSet.mem_toList (s : DestSet) (d : Dest) : d ∈ s.toList ↔ s.has d = true := by
  cases d <;> simp [DestSet.toList, allDests]

end Sys2Proof

namespace Sys2Proof.Machine

/-! ### The accessors -/

@[simp] theorem Queues.get_set (q : Queues) (d e : Dest) (v : InkQueue) :
    (q.set d v).get e = if e = d then v else q.get e := by
  cases d <;> cases e <;> rfl

@[simp] theorem Queues.held_set (q : Queues) (d : Dest) (v : InkQueue) : (q.set d v).held = q.held := by
  cases d <;> rfl

theorem Part.queue_setQueue (p : Part) (d e : Dest) (v : InkQueue) :
    (p.setQueue d v).queue e = if e = d then v else p.queue e := by
  simp [Part.setQueue, Part.queue]

@[simp] theorem Part.queue_setQueue_same (p : Part) (d : Dest) (v : InkQueue) :
    (p.setQueue d v).queue d = v := by simp [Part.queue_setQueue]

theorem Part.queue_setQueue_other (p : Part) {d e : Dest} (v : InkQueue) (h : e ≠ d) :
    (p.setQueue d v).queue e = p.queue e := by simp [Part.queue_setQueue, h]

theorem Part.entry_setEntry (p : Part) (i j : Fin 48) (e : Entry) :
    (p.setEntry i e).entry j = if j = i then e else p.entry j := by
  simp [Part.entry, look_put]

@[simp] theorem Part.entry_setEntry_same (p : Part) (i : Fin 48) (e : Entry) :
    (p.setEntry i e).entry i = e := by simp [Part.entry_setEntry]

theorem Part.entry_setEntry_other (p : Part) {i j : Fin 48} (e : Entry) (h : j ≠ i) :
    (p.setEntry i e).entry j = p.entry j := by simp [Part.entry_setEntry, h]

theorem Part.seat_setSeat (p : Part) (i j : Fin 72) (v : Seat) :
    (p.setSeat i v).seat j = if j = i then v else p.seat j := by
  simp [Part.seat, look_put]

@[simp] theorem Part.seat_setSeat_same (p : Part) (i : Fin 72) (v : Seat) :
    (p.setSeat i v).seat i = v := by simp [Part.seat_setSeat]

theorem Part.layer_setLayer (p : Part) (i j : Fin 8) (v : Layer) :
    (p.setLayer i v).layer j = if j = i then v else p.layer j := by
  simp [Part.layer, look_put]

@[simp] theorem Part.layer_setLayer_same (p : Part) (i : Fin 8) (v : Layer) :
    (p.setLayer i v).layer i = v := by simp [Part.layer_setLayer]

theorem Part.calibrationSet_set (p : Part) (i j : Fin 16) (v : CalibrationSet) :
    (p.setCalibrationSet i v).calibrationSet j = if j = i then v else p.calibrationSet j := by
  simp [Part.calibrationSet, look_put]

/-- The readers of one block are not touched by an update of another. -/
@[simp] theorem Part.entry_setQueue (p : Part) (d : Dest) (v : InkQueue) (i : Fin 48) :
    (p.setQueue d v).entry i = p.entry i := rfl
@[simp] theorem Part.entry_setSeat (p : Part) (s : Fin 72) (v : Seat) (i : Fin 48) :
    (p.setSeat s v).entry i = p.entry i := rfl
@[simp] theorem Part.entry_setLayer (p : Part) (l : Fin 8) (v : Layer) (i : Fin 48) :
    (p.setLayer l v).entry i = p.entry i := rfl
@[simp] theorem Part.seat_setEntry (p : Part) (i : Fin 48) (e : Entry) (s : Fin 72) :
    (p.setEntry i e).seat s = p.seat s := rfl
@[simp] theorem Part.seat_setQueue (p : Part) (d : Dest) (v : InkQueue) (s : Fin 72) :
    (p.setQueue d v).seat s = p.seat s := rfl
@[simp] theorem Part.layer_setEntry (p : Part) (i : Fin 48) (e : Entry) (l : Fin 8) :
    (p.setEntry i e).layer l = p.layer l := rfl
@[simp] theorem Part.layer_setQueue (p : Part) (d : Dest) (v : InkQueue) (l : Fin 8) :
    (p.setQueue d v).layer l = p.layer l := rfl
@[simp] theorem Part.queue_setEntry (p : Part) (i : Fin 48) (e : Entry) (d : Dest) :
    (p.setEntry i e).queue d = p.queue d := rfl
@[simp] theorem Part.queue_setSeat (p : Part) (s : Fin 72) (v : Seat) (d : Dest) :
    (p.setSeat s v).queue d = p.queue d := rfl
@[simp] theorem Part.queue_setLayer (p : Part) (l : Fin 8) (v : Layer) (d : Dest) :
    (p.setLayer l v).queue d = p.queue d := rfl

/-- After a removed record its stroke's entry has lost points, and no other changed (R137). -/
@[simp] theorem Part.entry_losePointsOf (p : Part) (n : Option Nat) (i : Fin 48) :
    (p.losePointsOf n).entry i = (p.entry i).losePointsOf n := by
  simp [Part.entry]

theorem Entry.core_mapCore (f : StrokeCore → StrokeCore) (e : Entry) :
    (e.mapCore f).core? = e.core?.map f := by
  cases e <;> rfl

end Sys2Proof.Machine
end

