-- ==== Sys2Proof/Laws/Ops.lean ====
section
/-! SUPPORT. For each shared operation, one lemma that says all it can do: counters, the reply queue, the room
egress choice, the error monitor, and the ink queues. -/

namespace Sys2Proof.Machine

/-! ### Counters -/

theorem satAdd_eq (c k : Nat) : satAdd c k = min 65535 (c + k) := rfl

theorem bump_eq (c : Nat) : bump c = min 65535 (c + 1) := rfl

theorem bump_le (c : Nat) : bump c ≤ 65535 := Nat.min_le_left _ _

/-! ### The room egress choice (R150) -/

/-- The choice reads the two heads, the priority mode and the tick alone. -/
theorem choice_congr {p q : Part} (h1 : q.agent.replies = p.agent.replies)
    (h2 : q.queues.fanout.items = p.queues.fanout.items) (h3 : q.egress.priority = p.egress.priority)
    (h4 : q.tick = p.tick) : q.choice = p.choice := by
  simp only [Part.choice, h1, h2, h3, h4]

theorem choice_none_iff (p : Part) :
    p.choice = .none ↔ p.agent.replies = [] ∧ p.queues.fanout.items = [] := by
  unfold Part.choice
  cases p.agent.replies <;> cases p.queues.fanout.items <;> simp
  cases p.egress.priority <;> simp
  split <;> simp

theorem choice_reply {p : Part} (h : p.choice = .reply) : p.agent.replies ≠ [] := by
  intro h0
  unfold Part.choice at h
  rw [h0] at h
  cases hf : p.queues.fanout.items <;> simp [hf] at h

theorem choice_fanout {p : Part} (h : p.choice = .fanout) : p.queues.fanout.items ≠ [] := by
  intro h0
  unfold Part.choice at h
  rw [h0] at h
  cases hf : p.agent.replies <;> simp [hf] at h

/-- All that `roomChoose` does: it may put the choice under offer. -/
theorem roomChoose_eq (p : Part) :
    roomChoose p =
      p.setOffer (if p.egress.offer = .none ∧ p.egress.bridgeReady = true then p.choice
        else p.egress.offer) := by
  unfold roomChoose
  split
  · rfl
  · rfl

/-- Nothing is left to choose when the room link has its offer, or nothing waits, or the bridge is not
ready. -/
theorem roomChoose_self {p : Part} (h : p.egress.bridgeReady = true →
    p.agent.replies ≠ [] ∨ p.queues.fanout.items ≠ [] → p.egress.offer ≠ .none) :
    roomChoose p = p := by
  unfold roomChoose
  split
  · next hc =>
    have : p.choice = .none := by
      rw [choice_none_iff]
      by_contra hne
      exact h hc.2 (by tauto) hc.1
    rw [this, ← hc.1]
    rfl
  · rfl

theorem roomChoose_idem (p : Part) : roomChoose (roomChoose p) = roomChoose p := by
  apply roomChoose_self
  rw [roomChoose_eq p]
  intro hb hq ho
  simp only [Part.setOffer_egress_offer, Part.setOffer_egress_bridgeReady, Part.setOffer_agent,
    Part.setOffer_queues] at hb hq ho
  split at ho
  · rw [choice_none_iff] at ho; tauto
  · tauto

@[simp] theorem roomChoose_phase (p : Part) : (roomChoose p).phase = p.phase := by
  rw [roomChoose_eq]; rfl
@[simp] theorem roomChoose_tick (p : Part) : (roomChoose p).tick = p.tick := by
  rw [roomChoose_eq]; rfl
@[simp] theorem roomChoose_agent (p : Part) : (roomChoose p).agent = p.agent := by
  rw [roomChoose_eq]; rfl
@[simp] theorem roomChoose_queues (p : Part) : (roomChoose p).queues = p.queues := by
  rw [roomChoose_eq]; rfl
@[simp] theorem roomChoose_errors (p : Part) : (roomChoose p).errors = p.errors := by
  rw [roomChoose_eq]; rfl
@[simp] theorem roomChoose_assembler (p : Part) : (roomChoose p).assembler = p.assembler := by
  rw [roomChoose_eq]; rfl
@[simp] theorem roomChoose_seats (p : Part) : (roomChoose p).seats = p.seats := by
  rw [roomChoose_eq]; rfl
@[simp] theorem roomChoose_layers (p : Part) : (roomChoose p).layers = p.layers := by
  rw [roomChoose_eq]; rfl
@[simp] theorem roomChoose_history (p : Part) : (roomChoose p).history = p.history := by
  rw [roomChoose_eq]; rfl
@[simp] theorem roomChoose_credit (p : Part) : (roomChoose p).egress.credit = p.egress.credit := by
  rw [roomChoose_eq]; rfl
@[simp] theorem roomChoose_displayBusy (p : Part) :
    (roomChoose p).egress.displayBusy = p.egress.displayBusy := by rw [roomChoose_eq]; rfl
@[simp] theorem roomChoose_recordBusy (p : Part) :
    (roomChoose p).egress.recordBusy = p.egress.recordBusy := by rw [roomChoose_eq]; rfl
@[simp] theorem roomChoose_recorderReady (p : Part) :
    (roomChoose p).egress.recorderReady = p.egress.recorderReady := by rw [roomChoose_eq]; rfl
@[simp] theorem roomChoose_bridgeReady (p : Part) :
    (roomChoose p).egress.bridgeReady = p.egress.bridgeReady := by rw [roomChoose_eq]; rfl

/-! ### The reply queue (R149, R167, R171) -/

/-- All that `joinReply` does: the frame joins the tail with the next sequence number and the tick, and may
be offered. -/
theorem joinReply_eq (f : ReplyFrame) (p : Part) : ∃ o,
    joinReply f p =
      { p with
        agent :=
          { p.agent with
            replies := p.agent.replies ++ [⟨f, p.agent.replySeq, p.tick⟩]
            replySeq := p.agent.replySeq + 1 }
        egress := { p.egress with offer := o } } := by
  unfold joinReply
  rw [roomChoose_eq]
  exact ⟨_, rfl⟩

/-- All that a notice does: it joins below the limit, and is counted as lost at it. -/
theorem notice_eq (n : Notice) (p : Part) :
    notice n p =
      if p.agent.replies.length < p.noticeLimit then joinReply (.notice n) p
      else { p with agent := { p.agent with noticesLost := min 65535 (p.agent.noticesLost + 1) } } :=
  rfl

/-- A notice changes the reply queue, the count of lost notices and the offer alone. -/
theorem notice_frame (n : Notice) (p : Part) : ∃ a o,
    notice n p = { p with agent := a, egress := { p.egress with offer := o } } ∧
      a.replyHeld = p.agent.replyHeld := by
  rw [notice_eq]
  split
  · obtain ⟨o, h⟩ := joinReply_eq (.notice n) p
    exact ⟨_, o, h, rfl⟩
  · exact ⟨_, p.egress.offer, rfl, rfl⟩

/-! ### The error monitor (R181) -/

/-- All that a raise does, step by step. -/
theorem raise_eq (k : ErrorKind) (src : ErrorSource) (p : Part) : ∃ a o,
    raise k src p =
      { p with
        agent := a
        egress := { p.egress with offer := o }
        errors :=
          ⟨put p.errors.items k.index
              { look p.errors.items k.index with
                status := true
                counter := min 65535 ((look p.errors.items k.index).counter + 1) },
            if (look p.errors.items k.index).mask = false ∧
                (look p.errors.items k.index).status = false ∧ p.errors.log = none then
              some ⟨k, src, p.tick⟩
            else p.errors.log,
            alertLevel (put p.errors.items k.index
              { look p.errors.items k.index with
                status := true
                counter := min 65535 ((look p.errors.items k.index).counter + 1) })⟩ } ∧
      a.replyHeld = p.agent.replyHeld := by
  have h1 : (if (!(look p.errors.items k.index).mask && !(look p.errors.items k.index).status) = true
      then p.logFirst k src else p) =
      { p with
        errors :=
          { p.errors with
            log :=
              if (look p.errors.items k.index).mask = false ∧
                  (look p.errors.items k.index).status = false ∧ p.errors.log = none then
                some ⟨k, src, p.tick⟩
              else p.errors.log } } := by
    cases (look p.errors.items k.index).mask <;> cases (look p.errors.items k.index).status <;>
      by_cases hl : p.errors.log = none <;> simp [Part.logFirst, hl]
    all_goals rw [← hl]
  have h2 : ∀ (b : Bool) (q : Part), ∃ a o,
      (if b = true then notice (.errorNotice k p.tick) q else q) =
        { q with agent := a, egress := { q.egress with offer := o } } ∧
      a.replyHeld = q.agent.replyHeld := by
    intro b q
    cases b
    · exact ⟨q.agent, q.egress.offer, rfl, rfl⟩
    · exact notice_frame _ q
  unfold raise
  simp only [h1]
  obtain ⟨a, o, h, hh⟩ := h2 (!(look p.errors.items k.index).mask &&
    !(look p.errors.items k.index).status &&
    decide ((look p.errors.items k.index).severity = .alert)) { p with
        errors :=
          { p.errors with
            log :=
              if (look p.errors.items k.index).mask = false ∧
                  (look p.errors.items k.index).status = false ∧ p.errors.log = none then
                some ⟨k, src, p.tick⟩
              else p.errors.log } }
  exact ⟨a, o, by rw [h]; rfl, hh⟩

/-- A raise changes the error monitor, the reply queue and the offer alone. -/
theorem raise_frame (k : ErrorKind) (src : ErrorSource) (p : Part) : ∃ a o e,
    raise k src p = { p with agent := a, egress := { p.egress with offer := o }, errors := e } ∧
      a.replyHeld = p.agent.replyHeld := by
  obtain ⟨a, o, h, hh⟩ := raise_eq k src p
  exact ⟨a, o, _, h, hh⟩

/-! ### The ink queues (R135 to R137) -/

/-- All that a record's joining does: it stands at the queue's tail, and may be offered. -/
theorem joinInk_eq (d : Dest) (r : InkRecord) (serial : Option Nat) (p : Part) : ∃ o,
    joinInk d r serial p =
      { p with
        queues := p.queues.set d ((p.queue d).push r serial p.tick)
        egress := { p.egress with offer := o } } := by
  cases d
  · exact ⟨p.egress.offer, rfl⟩
  · exact ⟨_, roomChoose_eq _⟩
  · exact ⟨p.egress.offer, rfl⟩

/-- The oldest POINTS record of a list stands after records that are none. -/
theorem takeOldestPoints_some {l rest : List QueueItem} {x : QueueItem}
    (h : takeOldestPoints l = some (x, rest)) : ∃ before after,
    l = before ++ x :: after ∧ rest = before ++ after ∧ x.isPoints = true ∧
      ∀ y ∈ before, y.isPoints = false := by
  induction l generalizing rest with
  | nil => simp [takeOldestPoints] at h
  | cons i t ih =>
    unfold takeOldestPoints at h
    split at h
    · next hi =>
      simp only [Option.some.injEq, Prod.mk.injEq] at h
      obtain ⟨rfl, rfl⟩ := h
      exact ⟨[], _, rfl, rfl, hi, by simp⟩
    · next hi =>
      simp only [Option.map_eq_some_iff, Prod.mk.injEq, Prod.exists] at h
      obtain ⟨y, r, hy, rfl, rfl⟩ := h
      obtain ⟨b, a, rfl, rfl, hp, hb⟩ := ih hy
      exact ⟨i :: b, a, rfl, rfl, hp, by simp_all⟩

theorem takeOldestPoints_none {l : List QueueItem} (h : takeOldestPoints l = none) :
    ∀ y ∈ l, y.isPoints = false := by
  induction l with
  | nil => simp
  | cons i t ih =>
    unfold takeOldestPoints at h
    split at h
    · simp at h
    · next hi =>
      simp only [Option.map_eq_none_iff] at h
      intro y hy
      rcases List.mem_cons.mp hy with rfl | hy
      · simpa using hi
      · exact ih h y hy

/-- A removal by DROP_OLDEST changes the queue's records and counters, the stroke's flags, and what a raise
changes. -/
theorem dropOldest_frame (d : Dest) (seat : Fin 72) (removed : QueueItem) (rest : List QueueItem)
    (p : Part) : ∃ a o e,
    dropOldest d seat removed rest p =
      { p.losePointsOf removed.serial with
        queues := p.queues.set d
          { p.queue d with
            items := rest
            counters :=
              { (p.queue d).counters with
                oldestRemovals := min 65535 ((p.queue d).counters.oldestRemovals + 1) } }
        agent := a
        egress := { p.egress with offer := o }
        errors := e } ∧
      a.replyHeld = p.agent.replyHeld := by
  unfold dropOldest raiseOverflow
  obtain ⟨a, o, e, h, hh⟩ := raise_frame (overflowKind d) ⟨some (portOf d), none, none, some seat, []⟩
    (((p.setQueue d { p.queue d with items := rest }).countQueue d
      fun c => { c with oldestRemovals := bump c.oldestRemovals }).losePointsOf removed.serial)
  refine ⟨a, o, e, ?_, ?_⟩
  · rw [h]
    cases d <;> rfl
  · simpa [Part.countQueue] using hh

/-- The three outcomes of handing a record to a queue: it joins; it joins in place of the oldest POINTS
record that may go; or it is not taken, and nothing changes. -/
theorem handInk_cases (d : Dest) (r : InkRecord) (serial : Nat) (seat : Fin 72) (p : Part) :
    (p.hasRoom d = true ∧ handInk d r serial seat p = (true, joinInk d r (some serial) p)) ∨
    (p.hasRoom d = false ∧ (p.queue d).policy = .dropOldest ∧ ∃ removed rest,
      p.takeEligible d = some (removed, rest) ∧
        handInk d r serial seat p =
          (true, joinInk d r (some serial) (dropOldest d seat removed rest p))) ∨
    (p.hasRoom d = false ∧ ((p.queue d).policy = .stop ∨ p.takeEligible d = none) ∧
      handInk d r serial seat p = (false, p)) := by
  unfold handInk
  cases hr : p.hasRoom d
  · cases hp : (p.queue d).policy
    · simp
    · cases ht : p.takeEligible d with
      | none => simp
      | some x => exact Or.inr (Or.inl ⟨rfl, rfl, x.1, x.2, rfl, rfl⟩)
  · simp

/-- What handing a record to a queue may change. -/
theorem handInk_frame (d : Dest) (r : InkRecord) (serial : Nat) (seat : Fin 72) (p : Part) :
    ∃ (m : Option Nat) (u : InkQueue) (a : Agent) (o : Offer) (e : Errors),
      (handInk d r serial seat p).2 =
      { p with
        assembler := { p.assembler with entries := p.assembler.entries.map (Entry.losePointsOf m) }
        queues := p.queues.set d u
        agent := a
        egress := { p.egress with offer := o }
        errors := e } ∧ u.waiting = (p.queue d).waiting ∧ u.policy = (p.queue d).policy ∧
      u.watermark = (p.queue d).watermark ∧ a.replyHeld = p.agent.replyHeld := by
  have hmap : p.assembler.entries.map (Entry.losePointsOf none) = p.assembler.entries := by
    apply table_ext
    intro i
    rw [look_map]
    cases look p.assembler.entries i <;> simp [Entry.losePointsOf, Entry.mapCore]
  rcases handInk_cases d r serial seat p with ⟨-, h⟩ | ⟨-, -, x, rest, -, h⟩ | ⟨-, -, h⟩
  · rw [h]
    obtain ⟨o, ho⟩ := joinInk_eq d r (some serial) p
    refine ⟨none, (p.queue d).push r (some serial) p.tick, p.agent, o, p.errors, ?_, rfl, rfl, rfl,
      rfl⟩
    rw [hmap]; exact ho
  · rw [h]
    obtain ⟨a, o1, e, hd, hh⟩ := dropOldest_frame d seat x rest p
    obtain ⟨o, ho⟩ := joinInk_eq d r (some serial) (dropOldest d seat x rest p)
    have hq : (dropOldest d seat x rest p).queue d =
        { p.queue d with
          items := rest
          counters :=
            { (p.queue d).counters with
              oldestRemovals := min 65535 ((p.queue d).counters.oldestRemovals + 1) } } := by
      rw [hd]; simp [Part.queue]
    refine ⟨x.serial, InkQueue.push
      { p.queue d with
        items := rest
        counters :=
          { (p.queue d).counters with
            oldestRemovals := min 65535 ((p.queue d).counters.oldestRemovals + 1) } }
      r (some serial) p.tick, a, o, e, ?_, rfl, rfl, rfl, hh⟩
    simp only [ho, hq]
    rw [hd]
    cases d <;> rfl
  · rw [h]
    refine ⟨none, p.queue d, p.agent, p.egress.offer, p.errors, ?_, rfl, rfl, rfl, rfl⟩
    rw [hmap]
    cases d <;> rfl

end Sys2Proof.Machine
end

