-- ==== Sys2Proof/Laws/Events.lean ====
section
/-! SUPPORT. What follows every event, and how a request is taken: one lemma for each of the settling pumps,
the gate and the reply. -/

namespace Sys2Proof.Machine

/-! ### Events -/

/-- An event outside a reset. -/
theorem event_next {f : Part → Part} {p : Part} (rest : List Instr) (h : p.inReset = false) :
    event f ⟨p, rest⟩ = .next ⟨settle (f p), rest⟩ := by simp [event, h]

/-- An event while a reset holds the part. -/
theorem event_held {f : Part → Part} {p : Part} (rest : List Instr) (h : p.inReset = true) :
    event f ⟨p, rest⟩ = .next ⟨p, rest⟩ := by simp [event, h]

theorem inReset_of_ready {p : Part} (h : p.phase = .ready) : p.inReset = false := by
  simp [Part.inReset, h]

theorem isLoading_of_ready {p : Part} (h : p.phase = .ready) : p.isLoading = false := by
  simp [Part.isLoading, h]

/-! ### Settling -/

/-- The display egress has nothing to send. -/
theorem displayPump_self {p : Part} (h : p.queues.display.items = [] ∨ p.egress.credit = 0 ∨
    p.egress.displayBusy = true) : displayPump p = p := by
  unfold displayPump
  rcases h with h | h | h <;> simp [h]

/-- The record egress has nothing to send. -/
theorem recordPump_self {p : Part} (h : p.queues.record.items = [] ∨ p.egress.recorderReady = false ∨
    p.egress.recordBusy = true) : recordPump p = p := by
  unfold recordPump
  rcases h with h | h | h <;> simp [h]

/-- The display egress sends the head of a queue on which no END waits. -/
theorem displayPump_sends {p : Part} {head : QueueItem} {tail : List QueueItem}
    (hi : p.queues.display.items = head :: tail) (hc : 1 ≤ p.egress.credit)
    (hb : p.egress.displayBusy = false) (hw : p.queues.display.waiting = []) :
    displayPump p = displaySent head tail p := by
  unfold displayPump
  simp only [hi, hc, hb, ne_eq, reduceCtorEq, not_false_eq_true, and_self, if_true]
  simp [depart, serveWaiting, Part.queue, Queues.get, Part.setQueue, Queues.set, Part.countQueue, hi,
    hw, send, displaySent, bump, satAdd, Config.counterMax, recordFrame]

/-- The record egress sends the head of a queue on which no END waits. -/
theorem recordPump_sends {p : Part} {head : QueueItem} {tail : List QueueItem}
    (hi : p.queues.record.items = head :: tail) (hc : p.egress.recorderReady = true)
    (hb : p.egress.recordBusy = false) (hw : p.queues.record.waiting = []) :
    recordPump p = recordSent head tail p := by
  unfold recordPump
  simp only [hi, hc, hb, ne_eq, reduceCtorEq, not_false_eq_true, and_self, if_true]
  simp [depart, serveWaiting, Part.queue, Queues.get, Part.setQueue, Queues.set, Part.countQueue, hi,
    hw, hc, send, recordSent, bump, satAdd, Config.counterMax, recordFrame]

/-- A settled part is left as it is. -/
theorem settle_self {p : Part} (h : p.Settled) : settle p = p := by
  unfold settle
  split
  · rfl
  · next hr =>
    have hr : p.inReset = false := by simpa using hr
    rw [displayPump_self, recordPump_self, roomChoose_self (h.room hr)]
    · by_cases h1 : p.queues.record.items = []
      · exact .inl h1
      · by_cases h2 : p.egress.recorderReady = true
        · exact .inr (.inr (h.record hr h1 h2))
        · exact .inr (.inl (by simpa using h2))
    · by_cases h1 : p.queues.display.items = []
      · exact .inl h1
      · by_cases h2 : 1 ≤ p.egress.credit
        · exact .inr (.inr (h.display hr h1 h2))
        · exact .inr (.inl (by omega))

/-! ### Requests (R166 to R169) -/

@[simp] theorem answered_holdReply (req : Requester) (kind : Byte) (status : Status) (body : ReplyBody)
    (p : Part) (b : Bool) :
    answered req kind status body (p.holdReply b) = answered req kind status body p := rfl

/-- A request that the gate passes in READY is executed by its owner with a reply slot held. -/
theorem takeRequest_takes {p : Part} (h : p.takes) (hd : RequestHead) (owner : Part → Answer) :
    takeRequest hd owner p = finish hd (owner (p.holdReply true)) := by
  have h1 := isLoading_of_ready h.1
  have h2 : ¬ p.gateLimit ≤ p.agent.replies.length := by
    have := h.2
    simp only [Part.gateLimit, h1, Bool.false_eq_true, if_false]
    omega
  simp [takeRequest, h1, h2]

/-- A request at the gate's limit is turned away. -/
theorem takeRequest_limit {p : Part} (h : p.gateLimit ≤ p.agent.replies.length) (hd : RequestHead)
    (owner : Part → Answer) : takeRequest hd owner p = turnAway hd p := by
  simp [takeRequest, h]

/-- A request below the limit in LOADING is answered NOT_READY. -/
theorem takeRequest_loading {p : Part} (h : p.isLoading = true) (hl : p.agent.replies.length < 7)
    (hd : RequestHead) (owner : Part → Answer) :
    takeRequest hd owner p = joinReply (hd.reply .notReady .empty) p := by
  have h2 : ¬ p.gateLimit ≤ p.agent.replies.length := by
    simp only [Part.gateLimit, h, if_true, Config.replyCapacity]
    omega
  simp [takeRequest, h, h2]

/-- A request that its owner answers with a status and a body: the reply joins what the owner left. -/
theorem request_answered {p q : Part} (h : p.takes) (req : Requester) (r : Request)
    {owner : Part → Answer} {status : Status} {body : ReplyBody} (rest : List Instr)
    (ho : owner (p.holdReply true) = (some (status, body), q)) :
    request req r owner ⟨p, rest⟩ = .next ⟨answered req r.code status body q, rest⟩ := by
  unfold request
  rw [event_next rest (inReset_of_ready h.1), takeRequest_takes h, ho]
  rfl

end Sys2Proof.Machine
end

