-- ==== Sys2Proof/Laws/Strokes.lean ====
section
/-! SUPPORT. What handing a stroke's records to the queues can change, said once: the relation `InkStep`, that it
composes, and that every such operation keeps it. -/

namespace Sys2Proof.Machine

/-! ### Entries that differ in flags, suppressed set and pending points alone -/

/-- Shared fields that differ in flags and suppressed set alone. -/
def StrokeCore.Like (c d : StrokeCore) : Prop :=
  d = { c with flags := d.flags, suppressed := d.suppressed }

/-- Entries in one state, their shared fields alike, and of the assembly state nothing but the pending list
different. -/
inductive Entry.Like : Entry → Entry → Prop where
  | free : Entry.Like .free .free
  | opened {c d a b} : StrokeCore.Like c d → b = { a with pending := b.pending } →
      Entry.Like (.opened c a) (.opened d b)
  | ending {c d e} : StrokeCore.Like c d → Entry.Like (.ending c e) (.ending d e)

theorem StrokeCore.Like.refl (c : StrokeCore) : c.Like c := rfl

theorem StrokeCore.Like.trans {c d e : StrokeCore} (h1 : c.Like d) (h2 : d.Like e) : c.Like e := by
  unfold StrokeCore.Like at *
  rw [h2, h1]

theorem Entry.Like.refl (e : Entry) : e.Like e := by
  cases e
  · exact .free
  · exact .opened rfl rfl
  · exact .ending rfl

theorem Entry.Like.trans {x y z : Entry} (h1 : x.Like y) (h2 : y.Like z) : x.Like z := by
  cases h1 with
  | free => exact h2
  | opened hc ha =>
    cases h2 with
    | opened hc' ha' => exact .opened (hc.trans hc') (by rw [ha', ha])
  | ending hc =>
    cases h2 with
    | ending hc' => exact .ending (hc.trans hc')

theorem Entry.Like.mapCore {f : StrokeCore → StrokeCore} (h : ∀ c, StrokeCore.Like c (f c))
    (e : Entry) : e.Like (e.mapCore f) := by
  cases e with
  | free => exact .free
  | opened c a => exact .opened (h c) rfl
  | ending c e => exact .ending (h c)

theorem Entry.Like.losePointsOf (n : Option Nat) (e : Entry) : e.Like (e.losePointsOf n) := by
  apply Entry.Like.mapCore
  intro c
  split
  · rfl
  · rfl

/-! ### The relation -/

/-- From one part to another nothing has changed but what handing a stroke's records to the queues may change:
queued records and their counters and numbers, the error monitor, the reply queue, the offer, and the flags,
suppressed sets and pending points of the entries. -/
structure InkStep (p q : Part) : Prop where
  fixed : q = { p with
    assembler := { p.assembler with entries := q.assembler.entries }
    queues := q.queues
    agent := q.agent
    egress := { p.egress with offer := q.egress.offer }
    errors := q.errors }
  entries : ∀ i, (p.entry i).Like (q.entry i)
  waiting : ∀ d, (q.queue d).waiting = (p.queue d).waiting
  policy : ∀ d, (q.queue d).policy = (p.queue d).policy
  watermark : ∀ d, (q.queue d).watermark = (p.queue d).watermark
  held : q.queues.held = p.queues.held
  replyHeld : q.agent.replyHeld = p.agent.replyHeld

namespace InkStep

theorem refl (p : Part) : InkStep p p :=
  ⟨rfl, fun _ => .refl _, fun _ => rfl, fun _ => rfl, fun _ => rfl, rfl, rfl⟩

theorem trans {p q r : Part} (h1 : InkStep p q) (h2 : InkStep q r) : InkStep p r where
  fixed := by rw [h2.fixed, h1.fixed]
  entries i := (h1.entries i).trans (h2.entries i)
  waiting d := (h2.waiting d).trans (h1.waiting d)
  policy d := (h2.policy d).trans (h1.policy d)
  watermark d := (h2.watermark d).trans (h1.watermark d)
  held := h2.held.trans h1.held
  replyHeld := h2.replyHeld.trans h1.replyHeld

/-- A fold of operations that keep the relation keeps it. -/
theorem foldl {α : Type} {f : Part → α → Part} (h : ∀ p x, InkStep p (f p x)) (l : List α)
    (p : Part) : InkStep p (l.foldl f p) := by
  induction l generalizing p with
  | nil => exact .refl p
  | cons x t ih => exact (h p x).trans (ih (f p x))

theorem seats {p q : Part} (h : InkStep p q) : q.seats = p.seats := by rw [h.fixed]
theorem layers {p q : Part} (h : InkStep p q) : q.layers = p.layers := by rw [h.fixed]
theorem tick {p q : Part} (h : InkStep p q) : q.tick = p.tick := by rw [h.fixed]
theorem phase {p q : Part} (h : InkStep p q) : q.phase = p.phase := by rw [h.fixed]
theorem history {p q : Part} (h : InkStep p q) : q.history = p.history := by rw [h.fixed]
theorem active {p q : Part} (h : InkStep p q) : q.active = p.active := by rw [h.fixed]
theorem staged {p q : Part} (h : InkStep p q) : q.staged = p.staged := by rw [h.fixed]
theorem conditioning {p q : Part} (h : InkStep p q) : q.conditioning = p.conditioning := by
  rw [h.fixed]
theorem counters {p q : Part} (h : InkStep p q) : q.assembler.counters = p.assembler.counters := by
  rw [h.fixed]
theorem nextId {p q : Part} (h : InkStep p q) : q.assembler.nextId = p.assembler.nextId := by
  rw [h.fixed]
theorem nextSerial {p q : Part} (h : InkStep p q) :
    q.assembler.nextSerial = p.assembler.nextSerial := by rw [h.fixed]

end InkStep

/-! ### Which queues take a record (R136, R137) -/

theorem takeOldestPoints_isSome (l : List QueueItem) :
    (takeOldestPoints l).isSome = true ↔ ∃ x ∈ l, x.isPoints = true := by
  induction l with
  | nil => simp [takeOldestPoints]
  | cons y t ih =>
    unfold takeOldestPoints
    split
    · next h => simp [h]
    · next h => simp [h, ih]

theorem takeEligible_isSome (p : Part) (d : Dest) :
    (p.takeEligible d).isSome = true ↔ ∃ x ∈ p.removable d, x.isPoints = true := by
  unfold Part.takeEligible Part.removable
  split
  · next ho hi => simp [ho, hi, takeOldestPoints_isSome]
  · next h =>
    rw [takeOldestPoints_isSome]
    split
    · next hc =>
      obtain ⟨rfl, ho⟩ := hc
      cases hi : (p.queue .fanout).items with
      | nil => simp
      | cons y t => exact absurd hi (h y t rfl ho)
    · rfl

/-- A queue takes a record exactly when it admits one. -/
theorem handInk_takes (d : Dest) (r : InkRecord) (serial : Nat) (seat : Fin 72) (p : Part) :
    (handInk d r serial seat p).1 = true ↔ p.admits d := by
  unfold handInk Part.admits
  rw [← takeEligible_isSome]
  split
  · next h => simp [h]
  · next h =>
    split
    · next hp he => simp [hp, he]
    · next hn =>
      have : ¬ ((p.queue d).policy = .dropOldest ∧ (p.takeEligible d).isSome = true) := by
        rintro ⟨hp, he⟩
        obtain ⟨x, hx⟩ := Option.isSome_iff_exists.mp he
        exact hn x.1 x.2 hp hx
      simp [h, this]

/-! ### The operations that keep it -/

theorem raise_inkStep (k : ErrorKind) (src : ErrorSource) (p : Part) : InkStep p (raise k src p) := by
  obtain ⟨a, o, e, h, hh⟩ := raise_frame k src p
  rw [h]
  exact ⟨rfl, fun _ => .refl _, fun _ => rfl, fun _ => rfl, fun _ => rfl, rfl, hh⟩

theorem handInk_inkStep (d : Dest) (r : InkRecord) (serial : Nat) (seat : Fin 72) (p : Part) :
    InkStep p (handInk d r serial seat p).2 := by
  obtain ⟨m, u, a, o, e, h, hw, hp, hm, hh⟩ := handInk_frame d r serial seat p
  rw [h]
  refine ⟨rfl, ?_, ?_, ?_, ?_, ?_, hh⟩
  · intro i
    simp only [Part.entry, look_map]
    exact .losePointsOf m _
  · intro d'
    simp only [Part.queue, Queues.get_set]
    split
    · next hd => subst hd; exact hw
    · rfl
  · intro d'
    simp only [Part.queue, Queues.get_set]
    split
    · next hd => subst hd; exact hp
    · rfl
  · intro d'
    simp only [Part.queue, Queues.get_set]
    split
    · next hd => subst hd; exact hm
    · rfl
  · simp

theorem updateEntry_inkStep {f : StrokeCore → StrokeCore} (h : ∀ c, StrokeCore.Like c (f c)) (i : Fin 48)
    (p : Part) : InkStep p (p.updateEntry i f) := by
  refine ⟨rfl, ?_, fun _ => rfl, fun _ => rfl, fun _ => rfl, rfl, rfl⟩
  intro j
  unfold Part.updateEntry
  rw [Part.entry_setEntry]
  split
  · next hj => subst hj; exact .mapCore h _
  · exact .refl _

theorem countQueue_inkStep (d : Dest) (f : QueueCounters → QueueCounters) (p : Part) :
    InkStep p (p.countQueue d f) := by
  refine ⟨rfl, fun _ => .refl _, ?_, ?_, ?_, ?_, rfl⟩
  all_goals try intro d'
  all_goals simp only [Part.countQueue, Part.queue_setQueue]
  · split
    · next h => subst h; rfl
    · rfl
  · split
    · next h => subst h; rfl
    · rfl
  · split
    · next h => subst h; rfl
    · rfl
  · simp [Part.setQueue]

theorem losePoints_like (c : StrokeCore) : StrokeCore.Like c c.losePoints := rfl

theorem suppress_like (d : Dest) (c : StrokeCore) :
    StrokeCore.Like c { c with suppressed := c.suppressed.insert d } := rfl

theorem handPoints_inkStep (i : Fin 48) (c : StrokeCore) (order : PointOrder) (pts : List Point)
    (p : Part) (d : Dest) : InkStep p (handPoints i c order pts p d) := by
  have h := handInk_inkStep d (.points c.id (orderFor order d) pts) c.serial c.seat p
  unfold handPoints
  split
  · next he => rw [he] at h; exact h
  · next he =>
    rw [he] at h
    exact ((h.trans (updateEntry_inkStep losePoints_like i _)).trans
      (countQueue_inkStep d _ _)).trans (raise_inkStep _ _ _)

theorem handBegin_inkStep (i : Fin 48) (c : StrokeCore) (r : InkRecord) (p : Part) (d : Dest) :
    InkStep p (handBegin i c r p d) := by
  have h := handInk_inkStep d r c.serial c.seat p
  unfold handBegin
  split
  · next he => rw [he] at h; exact h
  · next he =>
    rw [he] at h
    exact ((h.trans (updateEntry_inkStep (suppress_like d) i _)).trans
      (countQueue_inkStep d _ _)).trans (raise_inkStep _ _ _)

/-- All that the emission of pending points can change (R81). -/
theorem emitPoints_inkStep (i : Fin 48) (p : Part) : InkStep p (emitPoints i p) := by
  unfold emitPoints
  split
  · next c a he =>
    split
    · exact .refl p
    · refine InkStep.trans ?_ (InkStep.foldl (fun q d => handPoints_inkStep i c _ _ q d) _ _)
      refine ⟨rfl, ?_, fun _ => rfl, fun _ => rfl, fun _ => rfl, rfl, rfl⟩
      intro j
      rw [Part.entry_setEntry]
      split
      · next hj => subst hj; rw [he]; exact .opened rfl rfl
      · exact .refl _
  · exact .refl p

/-- All that a frame-mark flush can change (R82). -/
theorem flushPoints_inkStep (p : Part) : InkStep p (flushPoints p) := by
  have step : ∀ acc i, InkStep acc.1 (flushEntry acc i).1 := by
    intro acc i
    unfold flushEntry
    split
    · split
      · exact .refl _
      · simp only
        split
        · exact .refl _
        · exact emitPoints_inkStep i acc.1
    · exact .refl _
  have fold : ∀ (l : List (Fin 48)) acc, InkStep acc.1 (l.foldl flushEntry acc).1 := by
    intro l
    induction l with
    | nil => exact fun acc => .refl _
    | cons i t ih => exact fun acc => (step acc i).trans (ih _)
  exact fold (indexes 48) (p, fill 8 none)

/-! ### Completion and END waits (R104, R105) -/

/-- All that a completion does: the summary enters the history list, and the entry is FREE. -/
theorem complete_eq {i : Fin 48} {p : Part} {c : StrokeCore} {e : Ending}
    (h : p.entry i = .ending c e) :
    complete i p = { p.setEntry i .free with history := p.history.append (summaryOf c e) } := by
  simp [complete, h]

/-- An entry that is not ENDING is not completed. -/
theorem complete_self {i : Fin 48} {p : Part} (h : ∀ c e, p.entry i ≠ .ending c e) :
    complete i p = p := by
  unfold complete
  split
  · next c e he => exact absurd he (h c e)
  · rfl

/-- An ENDING entry completes exactly when its END waits for no queue. -/
theorem completeIfDone_eq {i : Fin 48} {p : Part} {c : StrokeCore} {e : Ending}
    (h : p.entry i = .ending c e) :
    completeIfDone i p = if e.waitsOn.isEmpty then complete i p else p := by
  simp [completeIfDone, h]

/-- The history list keeps its limit, and the unread summaries stand in it (R156, R158). -/
theorem History.append_bounds (h : History) (s : Summary) (h1 : h.list.length ≤ Config.historyLimit)
    (h2 : h.unread ≤ h.list.length) :
    (h.append s).list.length ≤ Config.historyLimit ∧ (h.append s).unread ≤ (h.append s).list.length := by
  simp only [Config.historyLimit] at *
  unfold History.append
  by_cases hf : Config.historyLimit ≤ h.list.length <;>
    by_cases hu : h.list.length ≤ h.unread <;>
    simp only [hf, hu, if_true, if_false, List.length_append, List.length_drop, List.length_singleton] <;>
    simp only [Config.historyLimit] at hf <;> omega

end Sys2Proof.Machine
end

