-- ==== Sys2Proof/Laws/PerInstr.lean ====
section
/-! SUPPORT. The family `Framing`, one lemma per command: a command that is a request of the catalogue carries a
kind the catalogue lists, and when it is well-formed its body can be framed. -/

namespace Sys2Proof.Laws.Framing

/-- What the family says of a command (section 10.3, R177). -/
def Statement (i : Instr) : Prop :=
  ∀ q r, i.request? = some (q, r) →
    inCatalogue r.code = true ∧ (i.wellFormed = true → r.framable = true)

/-- A command that is no request of the catalogue. -/
theorem of_none {i : Instr} (h : i.request? = none) : Statement i := by
  intro q r hr
  rw [h] at hr
  cases hr

/-- A request of the catalogue. -/
theorem of_some {i : Instr} {q : Requester} {r : Request} (h : i.request? = some (q, r))
    (hc : inCatalogue r.code = true) (hf : i.wellFormed = true → r.framable = true) : Statement i := by
  intro q' r' hr
  rw [h] at hr
  cases hr
  exact ⟨hc, hf⟩

theorem powerOnReset : Statement .powerOnReset := of_none rfl

theorem resetnLow : Statement .resetnLow := of_none rfl

theorem resetEnd : Statement .resetEnd := of_none rfl

theorem loadComplete : Statement .loadComplete := of_none rfl

theorem boardLinkFrame (frame : List Byte) : Statement (.boardLinkFrame frame) := of_none rfl

theorem roomLinkFrame (frame : List Byte) : Statement (.roomLinkFrame frame) := of_none rfl

theorem quietExpiry (seat : Fin 72) : Statement (.quietExpiry seat) := of_none rfl

theorem frameMark (number : Byte) (code : Half) : Statement (.frameMark number code) := of_none rfl

theorem substituteMark : Statement .substituteMark := of_none rfl

theorem creditGrant (count : Byte) (code : Half) :
    Statement (.creditGrant count code) :=
  of_none rfl

theorem displayFrameDiscard (frame : List Byte) :
    Statement (.displayFrameDiscard frame) :=
  of_none rfl

theorem displayTransmitEnd : Statement .displayTransmitEnd := of_none rfl

theorem recordReadyChange (asserted : Bool) : Statement (.recordReadyChange asserted) := of_none rfl

theorem recordTransmitEnd : Statement .recordTransmitEnd := of_none rfl

theorem bridgeReadyChange (ready : Bool) : Statement (.bridgeReadyChange ready) := of_none rfl

theorem bridgeAccept : Statement .bridgeAccept := of_none rfl

theorem saveComplete (success : Bool) : Statement (.saveComplete success) := of_none rfl

theorem unknownRequest (req : Requester) (kind : Byte) (body : List Byte) :
    Statement (.unknownRequest req kind body) :=
  of_none rfl

theorem writeIdentity (req : Requester) (body : IdentityWrite) :
    Statement (.writeIdentity req body) :=
  of_some rfl rfl fun _ => rfl

theorem readIdentity (req : Requester) (seat copy : Byte) :
    Statement (.readIdentity req seat copy) :=
  of_some rfl rfl fun _ => rfl

theorem writeRule (req : Requester) (body : RuleWrite) :
    Statement (.writeRule req body) :=
  of_some rfl rfl fun _ => rfl

theorem readRule (req : Requester) (page index copy : Byte) :
    Statement (.readRule req page index copy) :=
  of_some rfl rfl fun _ => rfl

theorem setDefaultAction (req : Requester) (page action : Byte) :
    Statement (.setDefaultAction req page action) :=
  of_some rfl rfl fun _ => rfl

theorem selectPage (req : Requester) (page : Byte) :
    Statement (.selectPage req page) :=
  of_some rfl rfl fun _ => rfl

theorem commit (req : Requester) (skip : Byte) :
    Statement (.commit req skip) :=
  of_some rfl rfl fun _ => rfl

theorem cancelCommit (req : Requester) :
    Statement (.cancelCommit req) :=
  of_some rfl rfl fun _ => rfl

theorem discardStaged (req : Requester) :
    Statement (.discardStaged req) :=
  of_some rfl rfl fun _ => rfl

theorem readMonitor (req : Requester) (clear : Byte) :
    Statement (.readMonitor req clear) :=
  of_some rfl rfl fun _ => rfl

theorem setTiming (req : Requester) (idle frame : Half) :
    Statement (.setTiming req idle frame) :=
  of_some rfl rfl fun _ => rfl

theorem writeCalibration (req : Requester) (body : CalibrationWrite) :
    Statement (.writeCalibration req body) :=
  of_some rfl rfl fun _ => rfl

theorem readCalibration (req : Requester) (set : Byte) :
    Statement (.readCalibration req set) :=
  of_some rfl rfl fun _ => rfl

theorem applyBaseline (req : Requester) (sets : List Byte) :
    Statement (.applyBaseline req sets) :=
  of_some rfl rfl fun h => h

theorem writeWidthTable (req : Requester) (tool : Byte) (entries : Vector Byte 16) :
    Statement (.writeWidthTable req tool entries) :=
  of_some rfl rfl fun _ => rfl

theorem readWidthTable (req : Requester) (tool : Byte) :
    Statement (.readWidthTable req tool) :=
  of_some rfl rfl fun _ => rfl

theorem setCanvas (req : Requester) (width height : Half) :
    Statement (.setCanvas req width height) :=
  of_some rfl rfl fun _ => rfl

theorem setLayerMode (req : Requester) (body : LayerModeWrite) :
    Statement (.setLayerMode req body) :=
  of_some rfl rfl fun _ => rfl

theorem openLayer (req : Requester) (layer : Byte) :
    Statement (.openLayer req layer) :=
  of_some rfl rfl fun _ => rfl

theorem freezeLayer (req : Requester) (layer : Byte) :
    Statement (.freezeLayer req layer) :=
  of_some rfl rfl fun _ => rfl

theorem thawLayer (req : Requester) (layer : Byte) :
    Statement (.thawLayer req layer) :=
  of_some rfl rfl fun _ => rfl

theorem closeLayer (req : Requester) (layer : Byte) :
    Statement (.closeLayer req layer) :=
  of_some rfl rfl fun _ => rfl

theorem closeLayerNow (req : Requester) (layer : Byte) :
    Statement (.closeLayerNow req layer) :=
  of_some rfl rfl fun _ => rfl

theorem clearLayer (req : Requester) (layer : Byte) :
    Statement (.clearLayer req layer) :=
  of_some rfl rfl fun _ => rfl

theorem readLayers (req : Requester) : Statement (.readLayers req) := of_some rfl rfl fun _ => rfl

theorem setQueue (req : Requester) (queue : Byte) (watermark : Half) (policy : Byte) :
    Statement (.setQueue req queue watermark policy) :=
  of_some rfl rfl fun _ => rfl

theorem setRoomPriority (req : Requester) (mode : Byte) :
    Statement (.setRoomPriority req mode) :=
  of_some rfl rfl fun _ => rfl

theorem flushQueue (req : Requester) (queue : Byte) :
    Statement (.flushQueue req queue) :=
  of_some rfl rfl fun _ => rfl

theorem readQueues (req : Requester) (clear : Byte) :
    Statement (.readQueues req clear) :=
  of_some rfl rfl fun _ => rfl

theorem readStrokes (req : Requester) (start : Byte) :
    Statement (.readStrokes req start) :=
  of_some rfl rfl fun _ => rfl

theorem readCounters (req : Requester) (clear firstSeat seatCount : Byte) :
    Statement (.readCounters req clear firstSeat seatCount) :=
  of_some rfl rfl fun _ => rfl

theorem readHistory (req : Requester) (count : Byte) :
    Statement (.readHistory req count) :=
  of_some rfl rfl fun _ => rfl

theorem undo (req : Requester) (seat : Byte) :
    Statement (.undo req seat) :=
  of_some rfl rfl fun _ => rfl

theorem readErrors (req : Requester) : Statement (.readErrors req) := of_some rfl rfl fun _ => rfl

theorem clearErrors (req : Requester) (kinds : List Byte) :
    Statement (.clearErrors req kinds) :=
  of_some rfl rfl fun h => h

theorem setErrorMask (req : Requester) (kind mask : Byte) :
    Statement (.setErrorMask req kind mask) :=
  of_some rfl rfl fun _ => rfl

theorem setErrorSeverity (req : Requester) (kind severity : Byte) :
    Statement (.setErrorSeverity req kind severity) :=
  of_some rfl rfl fun _ => rfl

theorem saveCalibration (req : Requester) :
    Statement (.saveCalibration req) :=
  of_some rfl rfl fun _ => rfl

theorem restoreFactory (req : Requester) :
    Statement (.restoreFactory req) :=
  of_some rfl rfl fun _ => rfl

theorem resetPart (req : Requester) : Statement (.resetPart req) := of_some rfl rfl fun _ => rfl

end Sys2Proof.Laws.Framing
end

