-- ==== Sys2Proof/Tests/Slice0.lean ====
section
/-! SUPPORT. The model's own tests: the well-formedness smoke, worked examples of the manual, one step of some
commands, and for every statement with hypotheses a witness: concrete states and operands that meet them. -/

namespace Sys2Proof.Tests

open Sys2Proof Sys2Proof.Machine

/-! ### Well-formedness: one ill-formed term for each check -/

theorem test_illformed_count : (Instr.applyBaseline ⟨0, 0⟩ (List.replicate 256 0)).wellFormed = false := by
  decide +kernel

theorem test_illformed_kinds : (Instr.clearErrors ⟨0, 0⟩ (List.replicate 256 0)).wellFormed = false := by
  decide +kernel

theorem test_illformed_known_kind : (Instr.unknownRequest ⟨0, 0⟩ 0x01 []).wellFormed = false := by
  decide

theorem test_illformed_long_body :
    (Instr.unknownRequest ⟨0, 0⟩ 0x00 (List.replicate 65526 0)).wellFormed = false := by
  simp only [Instr.wellFormed, fitsFrame, List.length_replicate]
  decide

theorem test_illformed_mark_discard :
    (Instr.displayFrameDiscard [0x21, 5, 0, 0]).wellFormed = false := by decide

theorem test_illformed_grant_discard :
    (Instr.displayFrameDiscard [0x22, 5, 0, 0]).wellFormed = false := by decide

theorem test_wellformed_discard : (Instr.displayFrameDiscard [0x23, 5, 0, 0]).wellFormed = true := by
  decide

/-! ### The manual's worked examples -/

/-- The stored window of section 1.5's example: base (5000, 3000) with exponents 12 and 11. -/
theorem test_stored_window : (storedBase 5000 12, storedBase 3000 11) = (4096, 2048) := by decide

/-- Rows of section 4.2's table of window bounds on the default canvas. -/
theorem test_window_bounds :
    (roomBounds 4096 12 19200, roomBounds 16384 13 19200, roomBounds 20480 12 19200) =
      (⟨4096, 4096, 8191⟩, ⟨16384, 16384, 19199⟩, ⟨20480, 19199, 19199⟩) := by decide

/-- The interleaved order of seven points (R87). -/
theorem test_interleave_seven : interleave [0, 1, 2, 3, 4, 5, 6] = [0, 2, 4, 6, 1, 3, 5] := by decide

/-- The allocator across the wrap: 65535, 1 and 2 held (section 6.3). -/
theorem test_allocator_wraps :
    findId [65535, 1, 2] 305 65534 = 65534 ∧ findId [65535, 1, 2, 65534] 305 65535 = 3 := by
  decide +kernel

/-- A factory PEN width at p = 640, halfway between entries 2 and 3: 10 and 13 give 12 (R51, R58). -/
theorem test_width_rounds_up : widthOf (factoryWidths .pen) 640 = 12 := by decide

/-- The check code of the nine digits, the usual check value of the generator with this preset (R1). -/
theorem test_crc_check_value :
    crc [0x31, 0x32, 0x33, 0x34, 0x35, 0x36, 0x37, 0x38, 0x39] = 0x29B1 := by decide +kernel

/-! ### Concrete parts -/

def sender : Requester := ⟨0x1234, 7⟩

/-- READY, everything else as after reset. -/
def readyPart : Part := { resetPart with phase := .ready }

def heldPart : Part := { resetPart with phase := .inReset .pin }

def pendingPart : Part := { readyPart with staging := ⟨true, 0⟩ }

def savingPart : Part := { readyPart with save := some ⟨.saveCalibration, factoryImage⟩ }

/-- A record of no stroke. -/
def item : QueueItem := ⟨.layer 0 .opened, 0, 0, none⟩

def reply : ReplyItem := ⟨.notice (.restarted .soft .notLoaded), 0, 0⟩

def withReplies (n : Nat) (p : Part) : Part :=
  { p with agent := { p.agent with replies := List.replicate n reply } }

def withQueue (d : Dest) (items : List QueueItem) (p : Part) : Part :=
  p.setQueue d { p.queue d with items := items }

def withEgress (f : Egress → Egress) (p : Part) : Part := { p with egress := f p.egress }

theorem ready_takes : readyPart.takes := ⟨rfl, by decide⟩

theorem reset_settled : resetPart.Settled := ⟨by decide, by decide, by decide⟩

theorem ready_settled : readyPart.Settled := ⟨by decide, by decide, by decide⟩

/-- One OPEN stroke of board seat 64 on layer 0, its quiet deadline reached. -/
def core : StrokeCore :=
  ⟨0, 1, 64, 0, .pen, 3, false, ⟨true, true, true⟩, DestSet.empty, ⟨false, false, false⟩, 0, 1,
    ⟨0, 0, 0, 0⟩⟩

def assembly : Assembly :=
  Assembly.start factorySet.snapshot (boardBounds 19200, boardBounds 10800) resetLayer.mode ⟨0, 0, 4⟩

def openLayer0 : Layer := { resetLayer with state := .opened, openCount := 1 }

def strokeSeat : Seat := { resetSeat with openEntry := some 0, quiet := some 0 }

def strokePart : Part :=
  { ((readyPart.setEntry 0 (.opened core assembly)).setSeat 64 strokeSeat).setLayer 0 openLayer0 with
    assembler := ⟨put (fill 48 .free) 0 (.opened core assembly), 2, 1, resetAssembler.counters⟩ }

theorem stroke_entry (i : Fin 48) :
    strokePart.entry i = if i = 0 then .opened core assembly else .free := by
  simp [strokePart, Part.entry, look_put]

theorem stroke_seat (s : Fin 72) :
    strokePart.seat s = if s = 64 then strokeSeat else resetSeat := by
  simp [strokePart, readyPart, resetPart, Part.seat, look_put]

theorem stroke_takes : strokePart.takes := ⟨rfl, by decide⟩

theorem stroke_settled : strokePart.Settled := ⟨by decide, by decide, by decide⟩

theorem stroke_seats_agree : strokePart.SeatsAgree := by
  refine ⟨fun s i => ?_, fun s => ?_⟩
  · rw [stroke_seat, stroke_entry]
    by_cases hs : s = 64 <;> by_cases hi : i = 0 <;>
      simp [hs, hi, strokeSeat, resetSeat, core, eq_comm]
  · rw [stroke_seat]
    split
    · exact .inr rfl
    · exact .inl rfl

/-- Room seat 0 at address 0x0105 and board seat 64 enabled, every touch-down admitted by default. -/
def seatedTables : Tables :=
  { resetTables with
    identity :=
      put (put resetTables.identity 0
          { resetIdentity 0 with
            enabled := true
            address := some 0x0105
            window := some ⟨0, 0, 15, 15⟩
            allowedLayers := LayerSet.ofByte 0xff })
        64 { resetIdentity 64 with enabled := true, allowedLayers := LayerSet.ofByte 0xff }
    defaults := fill 8 .admitted }

def seatedPart : Part :=
  { readyPart with
    active := seatedTables
    layers := fill 8 { resetLayer with state := .opened } }

theorem seated_distinct : seatedPart.active.AddressesDistinct := by
  intro i j hi hj ei ej _
  have h : ∀ k : Fin 72, isRoomSeat k = true → (look seatedTables.identity k).enabled = true →
      k = 0 := by
    decide +kernel
  rw [h i hi ei, h j hj ej]

def sample : Sample := ⟨100, 200, 300, .pen, true, false, 3, 0⟩

/-- The record queue holds 1024 records of no stroke: it has no room, and its policy is STOP. -/
def recordFull (p : Part) : Part := withQueue .record (List.replicate 1024 item) p

/-- OPEN strokes of one seat and layer in every entry. -/
def crowdedPart : Part :=
  { seatedPart with
    assembler := { seatedPart.assembler with entries := fill 48 (.opened core assembly) } }

/-- The stroke of `strokePart` with one pending point. -/
def drawing : Assembly := { assembly with pending := [⟨1, 1, 4⟩] }

def drawingPart : Part := strokePart.setEntry 0 (.opened core drawing)

/-- Seat 64 is enabled and expects sequence 5 while its stroke is OPEN. -/
def gapPart : Part :=
  { strokePart with
    active := seatedTables
    seats := put strokePart.seats 64 { strokeSeat with expected := some 5 } }

/-- Seat 64 may use no layer. -/
def narrowTables : Tables :=
  { seatedTables with
    identity := put seatedTables.identity 64 { resetIdentity 64 with enabled := true } }

theorem ordered_of_empty {p : Part} (he : ∀ i, p.entry i = .free) (hq : ∀ d, (p.queue d).items = []) :
    p.RecordsOrdered := by
  refine ⟨?_, ?_, ?_, ?_, ?_, ?_⟩
  · intro d
    rw [hq d]
    exact List.Pairwise.nil
  · intro i j ci cj h
    rw [he i] at h
    cases h
  · intro i c h
    rw [he i] at h
    cases h
  · intro d x n hx
    rw [hq d] at hx
    exact absurd hx List.not_mem_nil
  · intro d x i c hx
    rw [hq d] at hx
    exact absurd hx List.not_mem_nil
  · intro i c e h
    rw [he i] at h
    cases h

theorem not_admits_recordFull (p : Part) (h : (p.queue .record).policy = .stop) :
    ¬ (recordFull p).admits .record := by
  have hl : (recordFull p).level .record = 1024 := List.length_replicate
  have hr : (recordFull p).hasRoom .record = false := by
    simp only [Part.hasRoom, hl, Config.capacity, decide_eq_false_iff_not]
    omega
  have hs : ((recordFull p).queue .record).policy = .stop := h
  simp [Part.admits, hr, hs]

theorem decides_default {p : Part} {o : Option (Fin 8 × Bool)}
    (hv : ∀ k, (look (look p.active.pages p.active.page) k).valid = false)
    (h : look p.active.defaults p.active.page = .admitted ∧
        o = some ((look p.active.identity 64).forcedLayer.getD sample.layer, false) ∨
      look p.active.defaults p.active.page = .deny ∧ o = none) : p.Decides 64 sample o := by
  refine .inr ⟨fun k hk => ?_, h⟩
  have := hk.valid
  rw [hv k] at this
  cases this

theorem reset_rules (k : Fin 16) : (look (look resetTables.pages 0) k).valid = false := by
  simp [resetTables, resetRule]

/-! ### One step of some commands -/

/-- A grant of 7 credits on an idle link with an empty queue: the balance is 7 (R145). -/
theorem test_grant : (match exec (.creditGrant 7 (crc [0x22, 7])) ⟨readyPart, []⟩ with
    | .next s => s.part.egress.credit
    | _ => 0) = 7 := by decide +kernel

/-- A balance of 250 and a grant of 10: the balance is 255 and CREDIT_OVERRUN is set (R145). -/
theorem test_grant_overrun :
    (match exec (.creditGrant 10 (crc [0x22, 10]))
        ⟨withEgress (fun e => { e with credit := 250 }) readyPart, []⟩ with
    | .next s => (s.part.egress.credit, (look s.part.errors.items 9).status)
    | _ => (0, false)) = (255, true) := by decide +kernel

/-- SET_TIMING with an idle timeout below its range is refused with RANGE (R34). -/
theorem test_timing_range :
    (match exec (.setTiming sender 199 500) ⟨readyPart, []⟩ with
    | .next s => (s.part.agent.replies.map ReplyItem.frame, s.part.timing)
    | _ => ([], ⟨0, 0⟩)) =
      ([.reply 0x1234 0x0B 7 .range .empty], ⟨2500, 500⟩) := by decide +kernel

/-- The period across a mark loss in chapter 3's worked sequence: real marks at ticks 100167 and 101300. -/
theorem test_mark_period :
    (match exec (.frameMark 50 (crc [0x21, 50]))
        ⟨{ readyPart with
            tick := 101300
            monitor := { resetMonitor with state := .lost, lastRealTick := some 100167 } }, []⟩ with
    | .next s => (s.part.monitor.lastPeriod, s.part.monitor.state)
    | _ => (0, .noMarks)) = (1133, .locked) := by decide +kernel

/-- With no command waiting, a tick passes, and a deadline it reaches waits (R33, R38). -/
theorem test_tick :
    (match step ⟨{ readyPart with
        tick := 499
        monitor := { resetMonitor with deadline := some ⟨0, 500⟩ } }, []⟩ with
    | .next s => (s.part.tick, s.pending)
    | _ => (0, [])) = (500, [.substituteMark]) := by decide +kernel

/-- A board pen's touch-down on an OPEN layer puts a BEGIN on each destination (R94, R95). -/
theorem test_touch_down :
    (match exec (.boardLinkFrame (inkFrame 0 0 9 [sample])) ⟨seatedPart, []⟩ with
    | .next s => (s.part.level .display, s.part.level .fanout, s.part.level .record)
    | _ => (0, 0, 0)) = (1, 1, 1) := by decide +kernel

/-- READ_ERRORS's body with no save in flight and an empty log: ALERTn high, no log, no save, and no value
after either (R177, R184). -/
theorem test_errors_body_ends :
    ((ErrorsReport.bytes ⟨readyPart.errors.items, false, none, none⟩).length,
      (ErrorsReport.bytes ⟨readyPart.errors.items, false, none, none⟩).drop 65) =
      (13 * 5 + 3, [1, 0, 0]) := by decide +kernel

/-- With a RESTORE_FACTORY save in flight its origin stands too (R184). -/
theorem test_errors_body_with_save :
    (ErrorsReport.bytes ⟨readyPart.errors.items, false, none, some .restoreFactory⟩).drop 65 =
      [1, 0, 1, 1] := by decide +kernel

/-- No word spells a command: the table gives no row bits. -/
theorem test_no_word_spells_a_command : decodeTableWord 32 0 = none := rfl

/-! ### Witnesses: for each statement with hypotheses, states and operands that meet them, per clause -/

theorem witness_EmptyQueueLetsATickPass : heldPart.inReset = true ∧ readyPart.inReset = false :=
  ⟨rfl, rfl⟩

theorem witness_ResetsHoldThePart :
    readyPart.inReset = false ∧ heldPart.inReset = true ∧ Instr.bridgeAccept ≠ .powerOnReset ∧
      Instr.bridgeAccept ≠ .resetEnd ∧ (∀ b, Instr.bridgeAccept ≠ .recordReadyChange b) ∧
      ∀ b, Instr.bridgeAccept ≠ .bridgeReadyChange b := by
  refine ⟨rfl, rfl, ?_, ?_, ?_, ?_⟩ <;> simp

theorem witness_ResetEndGivesTheResetValues :
    heldPart.phase = .inReset .pin ∧ (powerOn readyPart).phase = .inReset .power := ⟨rfl, rfl⟩

def storedPart : Part := { resetPart with store := ⟨some factoryImage, some (crc factoryImage.bytes)⟩ }

theorem witness_LoadCompleteLoadsTheImageOrFactory :
    (storedPart.phase = .loading .power ∧ storedPart.agent.replies.length < 8 ∧
      storedPart.agent.replyHeld = false ∧
      storedPart.store = ⟨some factoryImage, some (crc factoryImage.bytes)⟩ ∧
      factoryImage.inRange = true) ∧
    resetPart.store.fields = none ∧
      ({ resetPart with store := ⟨some factoryImage, none⟩ } : Part).store.code = none ∧
      crc factoryImage.bytes + 1 ≠ crc factoryImage.bytes := by
  refine ⟨⟨rfl, by decide, rfl, rfl, by decide +kernel⟩, rfl, rfl, ?_⟩
  generalize crc factoryImage.bytes = x
  bv_omega

theorem witness_ResetPartIsASoftReset : strokePart.takes := stroke_takes

theorem witness_LoadingDiscardsInSilence :
    resetPart.isLoading = true ∧ resetPart.Settled ∧ codeMatches [] = false ∧
      byteAt [0x01] 0 ≠ 0x02 ∧ channelOf [0x02, 0x01] ≠ 0 ∧
      (let short := sealFrame [0x02, 0, 0, 1, 0x14, 0, 9]
      codeMatches short = true ∧ short.length < 10 ∧ byteAt short 0 = 0x02 ∧ channelOf short = 0) ∧
      (0 : Half) ≠ crc [0x22, 5] ∧
      (Instr.displayFrameDiscard [0x23, 0, 0, 0]).wellFormed = true :=
  ⟨rfl, reset_settled, by decide, by decide, by decide, by decide +kernel, by decide +kernel, by decide⟩

theorem witness_RequestsAndBodiesAgree :
    (Request.applyBaseline (List.replicate 255 0)).framable = true ∧
      decodeRequest 0x07 [3] = some (.commit 3) := ⟨by decide +kernel, rfl⟩

theorem witness_RequestFrameActsAsItsCommand :
    (Instr.commit sender 3).request? = some (sender, .commit 3) ∧
      (Request.commit 3).framable = true ∧
      (Instr.unknownRequest sender 0x24 [1]).wellFormed = true ∧ readyPart.takes :=
  ⟨rfl, rfl, by decide, ready_takes⟩

theorem witness_GateAndLoadingTurnRequestsAway :
    (∃ r : Request, (Instr.readLayers sender).request? = some (sender, r) ∧ r.code = 0x14 ∧ r.body = []) ∧
      (Instr.unknownRequest sender 0x24 [1]).wellFormed = true ∧
      ((withReplies 8 readyPart).phase = .ready ∧ 8 ≤ (withReplies 8 readyPart).agent.replies.length) ∧
      ((withReplies 7 resetPart).isLoading = true ∧
        7 ≤ (withReplies 7 resetPart).agent.replies.length) ∧
      resetPart.isLoading = true ∧ resetPart.agent.replies.length < 7 :=
  ⟨⟨_, rfl, rfl, rfl⟩, by decide, ⟨rfl, by decide⟩, ⟨rfl, by decide⟩, rfl, by decide⟩

theorem witness_EveryRequestIsAnsweredLast :
    (Instr.commit sender 8).request? = some (sender, .commit 8) ∧ Request.commit 8 ≠ .resetPart ∧
      (withReplies 7 readyPart).takes :=
  ⟨rfl, by simp, rfl, by decide⟩

theorem witness_JoiningReplyTouchesOnlyTheReplyQueue :
    strokePart.Settled ∧ strokePart.inReset = false := ⟨stroke_settled, rfl⟩

theorem witness_InkFrameReadsBack :
    1 ≤ [sample].length ∧ [sample].length ≤ 8 ∧ ∀ x ∈ [sample], x.fits = true := by decide

theorem witness_InkFrameIsTakenForItsSeat :
    (∀ x ∈ [sample], x.fits = true) ∧ seatedPart.phase = .ready ∧
      seatedPart.active.AddressesDistinct ∧
      (look seatedPart.active.identity 0).enabled = true ∧
      (look seatedPart.active.identity 0).address = some 0x0105 ∧
      (look seatedPart.active.identity 64).enabled = true ∧
      (64 : Fin 72).val = 64 + (0 : Half).toNat :=
  ⟨by decide, rfl, seated_distinct, by decide +kernel, by decide +kernel, by decide +kernel, rfl⟩

theorem witness_InkFrameIsTakenForItsSeat_gap :
    gapPart.phase = .ready ∧ gapPart.active.AddressesDistinct ∧
      (look gapPart.active.identity 64).enabled = true ∧
      (gapPart.seat 64).expected = some 5 ∧ ((9 : Byte) - 5).toNat ≠ 0 ∧
      (gapPart.seat 64).openEntry = some 0 ∧ gapPart.entry 0 = .opened core assembly := by
  refine ⟨rfl, seated_distinct, by decide +kernel, ?_, by decide, ?_, ?_⟩
  · simp [gapPart, Part.seat]
  · simp [gapPart, Part.seat, strokeSeat]
  · exact stroke_entry 0

theorem witness_InkFrameIsTakenForItsSeat_lift :
    sample.contact = true ∧ ({ sample with contact := false, hover := true } : Sample).contact = false ∧
      (readyPart.seat 64).openEntry = none ∧ (strokePart.seat 64).openEntry = some 0 ∧
      strokePart.entry 0 = .opened core assembly ∧ core.seat = 64 := by
  refine ⟨rfl, rfl, by decide +kernel, ?_, stroke_entry 0, rfl⟩
  rw [stroke_seat]
  rfl

theorem witness_DroppedFramesAreCountedAndRaised :
    readyPart.phase = .ready ∧ codeMatches [0, 0, 0, 0] = false ∧ codeMatches [7] = false ∧
      (let short := sealFrame [1]
      short.length = 3 ∧ codeMatches short = true ∧ formOf short = .malformed) ∧
      (let other := sealFrame [0x02, 0x01, 0, 1, 0x14, 0, 0, 10]
      codeMatches other = true ∧ formOf other = .management ∧ (byteAt other 1).toNat % 16 ≠ 0) ∧
      (∀ seat : Fin 72, (look readyPart.active.identity seat).enabled = false) := by
  refine ⟨rfl, by decide +kernel, by decide +kernel, by decide +kernel, by decide +kernel, ?_⟩
  intro seat
  simp [readyPart, resetPart, resetTables, resetIdentity]

theorem witness_DisplayFramesAreDroppedAndRaised :
    readyPart.phase = .ready ∧ (0 : Half) ≠ crc [0x21, 5] ∧ (0 : Half) ≠ crc [0x22, 5] ∧
      (Instr.displayFrameDiscard (sealFrame [0x23, 5])).wellFormed = true := by
  refine ⟨rfl, ?_, ?_, ?_⟩ <;> decide +kernel

theorem witness_AdmissionFollowsTheFirstFittingRule :
    readyPart.Decides 64 sample none ∧
      (seatedPart.Decides 64 sample (some (0, false)) ∧
        (look seatedPart.active.identity 64).allowedLayers.has 0 = true ∧
        (seatedPart.layer 0).state = .opened ∧ seatedPart.countEntries Entry.isOccupied < 48) ∧
      (({ seatedPart with active := narrowTables } : Part).Decides 64 sample (some (0, false)) ∧
        (look narrowTables.identity 64).allowedLayers.has 0 = false) ∧
      (({ readyPart with active := seatedTables } : Part).Decides 64 sample (some (0, false)) ∧
        (({ readyPart with active := seatedTables } : Part).layer 0).state ≠ .opened) ∧
      crowdedPart.Decides 64 sample (some (0, false)) ∧ (crowdedPart.layer 0).state = .opened ∧
        ¬ crowdedPart.countEntries Entry.isOccupied < 48 := by
  have hd : ∀ i, look seatedTables.defaults i = .admitted := by simp [seatedTables]
  have hl : (look seatedTables.identity 64).forcedLayer.getD sample.layer = 0 := by decide +kernel
  have hn : (look narrowTables.identity 64).forcedLayer.getD sample.layer = 0 := by decide +kernel
  have hs : some ((0 : Fin 8), false) =
      some ((look seatedTables.identity 64).forcedLayer.getD sample.layer, false) := by rw [hl]
  refine ⟨decides_default reset_rules (.inr ⟨by decide +kernel, rfl⟩),
    ⟨decides_default reset_rules (.inl ⟨hd 0, hs⟩), by decide +kernel, by decide +kernel,
      by decide +kernel⟩,
    ⟨decides_default reset_rules (.inl ⟨hd 0, ?_⟩), by decide +kernel⟩,
    ⟨decides_default reset_rules (.inl ⟨hd 0, hs⟩), by decide +kernel⟩,
    decides_default reset_rules (.inl ⟨hd 0, hs⟩), by decide +kernel, by decide +kernel⟩
  show some ((0 : Fin 8), false) =
      some ((look narrowTables.identity 64).forcedLayer.getD sample.layer, false)
  rw [hn]

theorem witness_RefusedSamplesDrawNothing :
    (readyPart.seat 64).openEntry = none ∧ (readyPart.seat 64).lockout = none ∧
      evaluate readyPart 64 sample = .error .denied ∧
      ((readyPart.setSeat 64 { resetSeat with lockout := some .denied }).seat 64).lockout =
        some .denied := by
  refine ⟨by decide +kernel, by decide +kernel, ?_, by simp⟩
  have h : (evaluate readyPart 64 sample).toOption = none ∧
      decideAction readyPart.active 64 .student .pen 0 = (.deny, 0) := by decide +kernel
  have h2 : (readyPart.identity 64).role = .student := by decide +kernel
  have h3 : (readyPart.identity 64).targetLayer sample.layer = 0 := by decide +kernel
  simp [evaluate, h2, h3, show sample.tool = .pen from rfl, h.2]

theorem witness_RefusedSamplesDrawNothing_tableFull :
    (crowdedPart.seat 64).openEntry = none ∧ (crowdedPart.seat 64).lockout = none ∧
      evaluate crowdedPart 64 sample = .error .tableFull ∧
      (look crowdedPart.errors.items ErrorKind.tableFull.index).mask = false ∧
      (look crowdedPart.errors.items ErrorKind.tableFull.index).status = false ∧
      crowdedPart.errors.log = none := by
  refine ⟨by decide +kernel, by decide +kernel, ?_, by decide +kernel, by decide +kernel, rfl⟩
  have h : decideAction crowdedPart.active 64 .student .pen 0 = (.admitted, 0) := by decide +kernel
  have h2 : (crowdedPart.identity 64).role = .student := by decide +kernel
  have h3 : (crowdedPart.identity 64).targetLayer sample.layer = 0 := by decide +kernel
  have h4 : (crowdedPart.identity 64).allowedLayers.has 0 = true := by decide +kernel
  have h5 : (crowdedPart.layer 0).state = .opened := by decide +kernel
  have h6 : crowdedPart.tableRoom 64 = false := by decide +kernel
  simp [evaluate, checkLayer, h2, h3, show sample.tool = .pen from rfl, h, h4, h5, h6]

theorem witness_AdmittedTouchDownBeginsAStroke :
    (seatedPart.seat 64).openEntry = none ∧ (seatedPart.seat 64).lockout = none ∧
      (evaluate seatedPart 64 sample).toOption = some (0, false) ∧
      seatedPart.entry 0 = .free ∧ (∀ j, j < (0 : Fin 48) → seatedPart.entry j ≠ .free) ∧
      seatedPart.IdsUnique := by
  refine ⟨by decide +kernel, by decide +kernel, by decide +kernel, by decide +kernel, ?_, ?_⟩
  · intro j hj
    exact absurd hj (Fin.not_lt_zero j)
  · have h : seatedPart.heldIds = [] := by decide +kernel
    exact ⟨by rw [h]; exact List.nodup_nil, by rw [h]; simp, by decide, by decide⟩

theorem witness_AdmittedTouchDownBeginsAStroke_handed :
    seatedPart.RecordsOrdered ∧ seatedPart.RoomChosen ∧ (∀ d, seatedPart.admits d) ∧
      (recordFull seatedPart).RoomChosen ∧ ¬ (recordFull seatedPart).admits .record := by
  refine ⟨ordered_of_empty ?_ ?_, nofun, ?_, nofun, not_admits_recordFull _ rfl⟩
  · intro i
    simp [seatedPart, readyPart, resetPart, Part.entry, resetAssembler]
  · intro d
    cases d <;> rfl
  · intro d
    cases d <;> exact .inl (by decide)

theorem witness_AllocatorFindsTheFirstFreeId :
    strokePart.entry 1 = .free ∧ strokePart.history.list.length ≤ 256 ∧
      1 ≤ strokePart.assembler.nextId ∧ strokePart.assembler.nextId ≤ 65535 := by
  refine ⟨?_, by decide, by decide, by decide⟩
  rw [stroke_entry]
  rfl

theorem witness_StrokeEndLeavesTheTable : strokePart.entry 0 = .opened core assembly ∧
    ({ strokePart with layers := put strokePart.layers 0 { openLayer0 with state := .draining } } :
      Part).layer core.layer = { openLayer0 with state := .draining } := by
  refine ⟨by rw [stroke_entry]; rfl, ?_⟩
  simp [Part.layer, core]

theorem stroke_not_pending (p : Part) (h : p.entry 0 = .opened core assembly) : emitPoints 0 p = p := by
  simp [emitPoints, h, assembly, Assembly.start]

theorem witness_StrokeEndLeavesTheTable_handed :
    strokePart.RoomChosen ∧ (∀ d, (emitPoints 0 strokePart).admits d) ∧
      (recordFull strokePart).RoomChosen ∧ (recordFull strokePart).entry 0 = .opened core assembly ∧
      core.goesTo .record ∧ ¬ (emitPoints 0 (recordFull strokePart)).admits .record := by
  refine ⟨nofun, ?_, nofun, stroke_entry 0, ⟨rfl, rfl⟩, ?_⟩
  · rw [stroke_not_pending _ (stroke_entry 0)]
    intro d
    cases d <;> exact .inl (by decide)
  · rw [stroke_not_pending (recordFull strokePart) (stroke_entry 0)]
    exact not_admits_recordFull _ rfl

/-- A display queue that holds one record, watermark 1: the layer of the stroke is congested. -/
def congestedPart : Part :=
  strokePart.setQueue .display { resetQueue .display with items := [item], watermark := 1 }

theorem witness_MarkFlushSparesCongestedLayers :
    strokePart.entry 0 = .opened core assembly ∧ (flushPoints strokePart).congested 0 = false ∧
      congestedPart.entry 0 = .opened core assembly ∧ congestedPart.congested 0 = true := by
  refine ⟨by rw [stroke_entry]; rfl, by decide +kernel, ?_, by decide +kernel⟩
  rw [congestedPart, Part.entry_setQueue, stroke_entry]
  rfl

theorem witness_MarkFlushSparesCongestedLayers_emission :
    drawingPart.entry 0 = .opened core drawing ∧ drawing.pending ≠ [] ∧ assembly.pending = [] ∧
      drawingPart.RoomChosen ∧ (∀ d, core.goesTo d → drawingPart.hasRoom d = true) ∧
      (recordFull drawingPart).RoomChosen ∧ (recordFull drawingPart).entry 0 = .opened core drawing ∧
      core.goesTo .record ∧ ¬ (recordFull drawingPart).admits .record := by
  refine ⟨by simp [drawingPart], by simp [drawing], rfl, nofun, ?_, nofun, ?_, ⟨rfl, rfl⟩,
    not_admits_recordFull _ rfl⟩
  · intro d _
    cases d <;> decide
  · show drawingPart.entry 0 = _
    simp [drawingPart]

theorem witness_MarkFlushSparesCongestedLayers_first :
    drawingPart.entry 0 = .opened core drawing ∧ drawing.pending ≠ [] ∧
      ∀ j d b, j < (0 : Fin 48) → drawingPart.entry j = .opened d b → b.pending ≠ [] →
        d.layer ≠ core.layer := by
  refine ⟨by simp [drawingPart], by simp [drawing], ?_⟩
  intro j _ _ h
  exact absurd h (Fin.not_lt_zero j)

def points : QueueItem := ⟨.points 1 .sequential [⟨0, 0, 4⟩], 0, 0, some 0⟩

theorem witness_HandedRecordJoinsReplacesOrStays :
    readyPart.queues.held = DestSet.empty ∧ readyPart.level .display < Config.capacity .display ∧
      (let full := withQueue .display (points :: List.replicate 255 item) readyPart
      Config.capacity .display ≤ full.level .display ∧ (full.queue .display).policy = .dropOldest ∧
        (full.queue .display).items = [] ++ points :: List.replicate 255 item ∧
        points.isPoints = true ∧ full.RoomChosen) ∧
      (let full := withQueue .record (List.replicate 1024 item) readyPart
      Config.capacity .record ≤ full.level .record ∧ (full.queue .record).policy = .stop) := by
  refine ⟨rfl, by decide, ⟨by decide +kernel, rfl, rfl, rfl, nofun⟩, by decide +kernel, rfl⟩

/-- An ENDING entry. -/
def endingPart : Part :=
  readyPart.setEntry 0 (.ending core ⟨.lifted, 0, .retract 1 0, DestSet.empty, DestSet.empty⟩)

theorem witness_HandedRecordJoinsReplacesOrStays_outcomes :
    (∀ d, readyPart.admits d) ∧ ¬ (recordFull endingPart).admits .record ∧
      (recordFull endingPart).entry 0 =
        .ending core ⟨.lifted, 0, .retract 1 0, DestSet.empty, DestSet.empty⟩ := by
  refine ⟨?_, not_admits_recordFull _ rfl, show endingPart.entry 0 = _ by simp [endingPart]⟩
  intro d
  cases d <;> exact .inl (by decide)

theorem witness_ScalingRoundsToNearest :
    scale 65535 (-32768) 65535 = 393206 ∧ scale 0 32767 65535 = -131066 := by decide

theorem witness_ConditionedPointsStayInTheWindow :
    1024 ≤ 19200 ∧ 1024 ≤ 10800 ∧ 64 ≤ (64 : Fin 72).val ∧ (63 : Fin 72).val < 64 ∧
      (windowBounds 0 (some ⟨20480, 8192, 12, 12⟩) 19200 10800).1 = ⟨20480, 19199, 19199⟩ := by
  decide

theorem witness_WidthIsInterpolatedBetweenEntries :
    pressureAbove 4095 0 = 4095 ∧ pressureAbove 3840 0 = 3840 ∧
      pressureAbove 3839 0 = 256 * (14 : Fin 16).val + 255 ∧
      (15 : Fin 16).val = (14 : Fin 16).val + 1 ∧ pressureAbove 5 9 = 0 := by decide

theorem witness_AveragesRoundToNearestWithinTheWindow :
    averageOf [1, 2] = 2 ∧ (∀ v ∈ [1, 2], 1 ≤ v ∧ v ≤ 2) ∧
      ([] : List XY).length < 1 ∧ [(⟨3, 4⟩ : XY)].length = 1 ∧
      enterWindow 1 [⟨3, 4⟩] ⟨5, 6⟩ = [⟨5, 6⟩] := by decide

theorem witness_InterleavedOrderIsRestored : (0 : Nat) < [(⟨0, 0, 4⟩ : Point)].length := by decide

theorem witness_HoverWindowFormsTheEstimate :
    (freshSet factorySet).sum = 0 ∧ (freshSet factorySet).count = 0 ∧
      (List.replicate 1023 5).length < 64 * 2 ^ (freshSet factorySet).stored.exponent ∧
      (List.replicate 1024 5).length = 64 * 2 ^ (freshSet factorySet).stored.exponent := by
  simp only [List.length_replicate]
  decide

theorem witness_CandidatesAreDecimatedAndDeduplicated :
    assembly.decimation < assembly.counter + 1 ∧ 0 + 1 ≤ ({ assembly with decimation := 1 }).decimation ∧
      (smooth assembly ⟨0, 0, 4⟩).2.2 = ⟨0, 0⟩ ∧ (smooth assembly ⟨10, 0, 4⟩).2.2 = ⟨3, 0⟩ := by
  decide

theorem witness_CandidatesAreDecimatedAndDeduplicated_sample :
    (strokePart.seat 64).openEntry = some 0 ∧ strokePart.entry 0 = .opened core assembly := by
  refine ⟨?_, stroke_entry 0⟩
  rw [stroke_seat]
  rfl

/-- A display link that is transmitting, with one record, one credit and an empty waiting list. -/
def busyDisplay : Part :=
  withEgress (fun e => { e with credit := 1, displayBusy := true }) (withQueue .display [item] readyPart)

theorem busyDisplay_settled : busyDisplay.Settled := ⟨by decide, by decide, by decide⟩

theorem witness_DisplayEgressSpendsCreditOnTheHead :
    readyPart.inReset = false ∧ readyPart.Settled ∧ readyPart.queues.display.items = [] ∧
      (withQueue .display [item] readyPart).Settled ∧
      (withQueue .display [item] readyPart).queues.display.items = item :: [] ∧
      (withQueue .display [item] readyPart).egress.displayBusy = false ∧
      busyDisplay.Settled ∧ busyDisplay.queues.display.items = item :: [] ∧
      1 ≤ busyDisplay.egress.credit ∧ busyDisplay.queues.display.waiting = [] :=
  ⟨rfl, ready_settled, rfl, ⟨by decide, by decide, by decide⟩, rfl, rfl, busyDisplay_settled, rfl,
    by decide, rfl⟩

def ending : Ending := ⟨.lifted, 0, .strokeEnd 1 ⟨0, 0, 4⟩ .lifted ⟨false, false, false⟩ 2,
  ⟨true, false, false⟩, ⟨false, true, true⟩⟩

def busyRecord : Part :=
  withEgress (fun e => { e with recorderReady := true, recordBusy := true })
    (withQueue .record [item] readyPart)

def offering (o : Offer) (p : Part) : Part := withEgress (fun e => { e with bridgeReady := true, offer := o }) p

/-- The END of entry 0 waits for one queue, which holds one record. -/
def waitingOn (d : Dest) (p : Part) : Part :=
  (p.setEntry 0 (.ending core ending)).setQueue d { p.queue d with items := [item], waiting := [0] }

theorem waitingOn_entry (d : Dest) (p : Part) : (waitingOn d p).entry 0 = .ending core ending := by
  simp [waitingOn]

theorem waitingOn_queue (d : Dest) (p : Part) :
    ((waitingOn d p).queue d).items = item :: [] ∧ ((waitingOn d p).queue d).waiting = 0 :: [] := by
  simp [waitingOn]

theorem witness_FreedSlotGoesToTheFirstWaitingEnd :
    (let p := waitingOn .display busyDisplay
    p.inReset = false ∧ p.Settled ∧ 1 ≤ p.egress.credit) ∧
    (let p := waitingOn .display readyPart
    p.Settled ∧ p.egress.displayBusy = false ∧ 1 ≤ (1 : Byte).toNat) ∧
    (let p := waitingOn .record busyRecord
    p.Settled ∧ p.egress.recorderReady = true) ∧
    (let p := waitingOn .record readyPart
    p.Settled ∧ p.egress.recordBusy = false) ∧
    (let p := waitingOn .fanout (offering .fanout readyPart)
    p.Settled ∧ p.egress.offer = .fanout ∧ p.egress.bridgeReady = true) :=
  ⟨⟨rfl, ⟨by decide, by decide, by decide⟩, by decide⟩,
    ⟨⟨by decide, by decide, by decide⟩, rfl, by decide⟩, ⟨⟨by decide, by decide, by decide⟩, rfl⟩,
    ⟨⟨by decide, by decide, by decide⟩, rfl⟩, ⟨⟨by decide, by decide, by decide⟩, rfl, rfl⟩⟩

theorem witness_RecordEgressFollowsTheReadyLine :
    heldPart.inReset = true ∧ readyPart.Settled ∧ readyPart.queues.record.items = [] ∧
      (withQueue .record [item] readyPart).Settled ∧
      (withQueue .record [item] readyPart).queues.record.items = item :: [] ∧
      (withQueue .record [item] readyPart).egress.recordBusy = false ∧
      busyRecord.Settled ∧ busyRecord.queues.record.items = item :: [] ∧
      busyRecord.egress.recorderReady = true ∧ busyRecord.queues.record.waiting = [] :=
  ⟨rfl, ready_settled, rfl, ⟨by decide, by decide, by decide⟩, rfl, rfl,
    ⟨by decide, by decide, by decide⟩, rfl, rfl, rfl⟩

theorem witness_BridgeTakesTheFrameUnderOffer :
    readyPart.agent.replies = [] ∧ readyPart.queues.fanout.items = [] ∧
      (withReplies 1 readyPart).agent.replies = reply :: [] ∧
      (withQueue .fanout [item] readyPart).queues.fanout.items = item :: [] ∧
      (offering .reply (withReplies 1 readyPart)).Settled ∧
      (offering .reply (withReplies 1 readyPart)).egress.offer = .reply ∧
      (offering .fanout (withQueue .fanout [item] readyPart)).Settled ∧
      (offering .fanout (withQueue .fanout [item] readyPart)).egress.offer = .fanout ∧
      (offering .fanout (withQueue .fanout [item] readyPart)).queues.fanout.waiting = [] :=
  ⟨rfl, rfl, rfl, rfl, ⟨by decide, by decide, by decide⟩, rfl, ⟨by decide, by decide, by decide⟩, rfl,
    rfl⟩

theorem witness_MarksUpdateTheMonitorAndTheTables :
    pendingPart.phase = .ready ∧ pendingPart.applies ∧ ¬ readyPart.applies ∧
      pendingPart.agent.replyHeld = false ∧ strokePart.SeatsAgree ∧
      (let m : Monitor := { resetMonitor with state := .locked, deadline := some ⟨0, 0⟩ }
      ({ readyPart with monitor := m } : Part).monitor.deadline = some ⟨0, 0⟩ ∧
        0 ≤ (readyPart.tick - 0).toNat) :=
  ⟨rfl, by decide, by decide, rfl, stroke_seats_agree, rfl, Nat.zero_le _⟩

/-- A commit that disables seat 64 applies at the next mark while its stroke is OPEN. -/
def revokingPart : Part :=
  { strokePart with
    active := seatedTables
    staging := ⟨true, 0⟩ }

theorem witness_MarksUpdateTheMonitorAndTheTables_revoked :
    revokingPart.phase = .ready ∧ revokingPart.applies ∧ revokingPart.entry 0 = .opened core assembly ∧
      revokingPart.revokedBy core.seat = true ∧ revokingPart.revokedStrokes ≠ 0 ∧
      revokingPart.agent.replyHeld = false :=
  ⟨rfl, by decide, stroke_entry 0, by decide +kernel, by decide +kernel, rfl⟩

theorem witness_QuietExpiryAbandonsTheStroke :
    strokePart.inReset = false ∧ strokePart.SeatsAgree ∧ (strokePart.seat 64).quiet = some 0 ∧
      0 ≤ (strokePart.tick - (strokePart.seat 64).lastTick).toNat ∧
      (strokePart.seat 64).openEntry = some 0 := by
  refine ⟨rfl, stroke_seats_agree, ?_, Nat.zero_le _, ?_⟩ <;> rw [stroke_seat] <;> rfl

/-- Seat 64 has its quiet deadline reached and no stroke. -/
def quietPart : Part := readyPart.setSeat 64 { resetSeat with quiet := some 0 }

theorem quiet_no_stroke (s : Fin 72) : (quietPart.seat s).openEntry = none := by
  simp only [quietPart, readyPart, resetPart, Part.seat, Part.setSeat, look_put]
  split <;> simp [resetSeat]

theorem witness_QuietExpiryAbandonsTheStroke_idle :
    quietPart.inReset = false ∧ quietPart.SeatsAgree ∧ (quietPart.seat 64).quiet = some 0 ∧
      0 ≤ (quietPart.tick - (quietPart.seat 64).lastTick).toNat ∧
      (quietPart.seat 64).openEntry = none ∧ quietPart.Settled := by
  refine ⟨rfl, ⟨fun s i => ?_, fun s => .inl (quiet_no_stroke s)⟩, ?_, Nat.zero_le _,
    quiet_no_stroke 64, ⟨by decide, by decide, by decide⟩⟩
  · rw [quiet_no_stroke]
    simp [quietPart, Part.entry, Part.setSeat, readyPart, resetPart, resetAssembler]
  · simp [quietPart, Part.seat, Part.setSeat]

theorem witness_StagedWritesStandInTheStagedCopy :
    readyPart.takes ∧ readyPart.staging.pending = false ∧
      (1 ≤ (0x0105 : Half).toNat ∧ (0x0105 : Half).toNat ≤ 65534 ∧ (5000 : Half).toNat ≤ 32767 ∧
        8 ≤ 12 ∧ 12 ≤ 15) ∧
      (∀ j : Fin 72, (look readyPart.staged.identity j).enabled = false) ∧ resetRule.low ≤ resetRule.high := by
  refine ⟨ready_takes, rfl, by decide, ?_, by decide⟩
  intro j
  simp [readyPart, resetPart, resetTables, resetIdentity]

theorem witness_CommitRequestsControlStaging : readyPart.takes ∧ readyPart.staging.pending = false :=
  ⟨ready_takes, rfl⟩

theorem witness_ReadsReportTheState : strokePart.takes ∧ (47 : Byte).toNat ≤ 47 :=
  ⟨stroke_takes, by decide⟩

theorem witness_ReadsClearWhatTheyReport : strokePart.takes ∧ 64 ≤ 71 ∧ 8 ≤ 8 ∧ 64 + 8 ≤ 72 :=
  ⟨stroke_takes, by decide, by decide, by decide⟩

theorem witness_SettingsTakeTheValuesSent :
    readyPart.takes ∧ (∀ l, (readyPart.layer l).state = .closed) ∧ (∀ i, readyPart.entry i = .free) ∧
      200 ≤ (200 : Half).toNat ∧ (2000 : Half).toNat ≤ 2000 ∧ 1024 ≤ (1024 : Half).toNat ∧
      (1024 : Half).toNat ≤ Config.capacity .record := by
  refine ⟨ready_takes, ?_, ?_, by decide, by decide, by decide, by decide⟩
  · intro l
    simp [readyPart, resetPart, Part.layer, resetLayer]
  · intro i
    simp [readyPart, resetPart, Part.entry, resetAssembler]

theorem witness_CalibrationWritesTakeTheFieldsSent :
    readyPart.takes ∧ readyPart.save = none ∧ factorySet.inRange = true ∧
      [(0 : Fin 16), 15].length ≤ 16 ∧ ∀ i, 1 ≤ (look (fill 16 (1 : Byte)) i).toNat :=
  ⟨ready_takes, rfl, by decide, by decide, by simp⟩

theorem witness_SavesWriteTheImageTaken :
    readyPart.takes ∧ readyPart.save = none ∧ savingPart.inReset = false ∧
      savingPart.save = some ⟨.saveCalibration, factoryImage⟩ := ⟨ready_takes, rfl, rfl, rfl⟩

/-- Layer 0 in a state, with no stroke. -/
def layered (st : LayerState) : Part := readyPart.setLayer 0 { resetLayer with state := st }

theorem witness_LayerActionsMoveTheState :
    readyPart.takes ∧ (readyPart.layer 0).state = .closed ∧ readyPart.queues.held = DestSet.empty ∧
      readyPart.Settled ∧
      (∀ d, (readyPart.queue d).items.length < Config.capacity d) ∧
      Config.capacity .display ≤
        ((withQueue .display (List.replicate 256 item) readyPart).queue .display).items.length ∧
      (layered .closed).takes ∧ (layered .opened).takes ∧ (layered .frozen).takes ∧
      (layered .draining).takes ∧ ∀ st, ((layered st).layer 0).state = st := by
  refine ⟨ready_takes, by decide +kernel, rfl, ready_settled, ?_, by decide +kernel, ⟨rfl, by decide⟩,
    ⟨rfl, by decide⟩, ⟨rfl, by decide⟩, ⟨rfl, by decide⟩, ?_⟩
  · intro d
    cases d <;> decide
  · intro st
    simp [layered]

theorem witness_CloseNowAndClearEndTheLayersStrokes :
    strokePart.takes ∧ (strokePart.layer 0).state = .opened ∧
      strokePart.countEntries (Entry.isOpenOn 0) = 1 ∧ (strokePart.layer 0).openCount = 1 ∧
      strokePart.queues.held = DestSet.empty ∧
      (∀ d, (strokePart.queue d).items.length + 1 + 1 ≤ Config.capacity d) ∧
      (strokePart.layer 1).state = .closed ∧ ((layered .draining).layer 0).state = .draining := by
  refine ⟨stroke_takes, by decide +kernel, by decide +kernel, by decide +kernel, rfl, ?_,
    by decide +kernel, by simp [layered]⟩
  intro d
  cases d <;> decide

theorem witness_CloseNowAndClearEndTheLayersStrokes_room :
    (let p := withQueue .display (List.replicate 255 item) strokePart
    p.takes ∧ (p.layer 0).state = .opened ∧ (p.layer 0).mode.dests.has .display = true ∧
      Config.capacity .display < (p.queue .display).items.length + (p.layer 0).openCount + 1) ∧
    (layered .opened).countEntries (Entry.isOpenOn 0) = 0 ∧
      (layered .opened).history.unread ≤ (layered .opened).history.list.length :=
  ⟨⟨⟨rfl, by decide⟩, by decide +kernel, by decide +kernel, by decide +kernel⟩, by decide +kernel,
    by decide⟩

/-- Waiting lists agree where no entry is occupied and no list has an entry. -/
theorem waiting_of_free {p : Part} (he : ∀ i, p.entry i = .free) (hh : p.queues.held = DestSet.empty)
    (hl : ∀ d, p.level d ≤ Config.capacity d) (hw : ∀ d, (p.queue d).waiting = []) :
    p.WaitingAgrees := by
  refine ⟨hh, hl, fun d => by simp [hw d], fun d i => by simp [hw d, he i, Entry.waitsFor], ?_, ?_,
    fun d h => absurd (hw d) h⟩
  · intro i c e h
    rw [he i] at h
    cases h
  · intro i c e d h
    rw [he i] at h
    cases h

theorem ready_no_entry (i : Fin 48) : readyPart.entry i = .free := by
  simp [readyPart, resetPart, Part.entry, resetAssembler]

theorem ready_waiting : readyPart.WaitingAgrees :=
  waiting_of_free ready_no_entry rfl (fun d => by cases d <;> decide) fun d => by cases d <;> rfl

/-- The display queue is full and the END of entry 0 waits for it; the other two have taken it. -/
def stalledPart : Part :=
  (readyPart.setEntry 0 (.ending core ending)).setQueue .display
    { readyPart.queue .display with items := List.replicate 256 item, waiting := [0] }

theorem stalled_entry (i : Fin 48) :
    stalledPart.entry i = if i = 0 then .ending core ending else .free := by
  have h : stalledPart.entry i = look (put readyPart.assembler.entries 0 (.ending core ending)) i := rfl
  rw [h, look_put, show look readyPart.assembler.entries i = .free from ready_no_entry i]

theorem stalled_waiting : stalledPart.WaitingAgrees := by
  have full : stalledPart.level .display = 256 := List.length_replicate
  have key : ∀ i c e, stalledPart.entry i = .ending c e → e = ending := by
    intro i c e h
    rw [stalled_entry] at h
    split at h <;> cases h
    rfl
  refine ⟨rfl, ?_, ?_, ?_, ?_, ?_, ?_⟩
  · intro d
    cases d
    · exact full.le
    · decide
    · decide
  · intro d; cases d <;> decide
  · intro d i
    have hw : (stalledPart.queue d).waiting = if d = .display then [0] else [] := by cases d <;> rfl
    rw [stalled_entry, hw]
    cases d <;> by_cases hi : i = 0 <;> simp [hi, Entry.waitsFor, ending, DestSet.has]
  · intro i c e h
    rw [key i c e h]
    rfl
  · intro i c e d h
    rw [key i c e h]
    cases d <;> decide
  · intro d h
    cases d
    · exact full
    · exact absurd rfl h
    · exact absurd rfl h

/-- FLUSH_QUEUE RECORD while the END of entry 0, which RECORD has taken, waits on DISPLAY: RECORD is
suppressed and no longer delivered (R142). -/
theorem test_flush_of_a_taken_end :
    (match exec (.flushQueue sender 2) ⟨stalledPart, []⟩ with
    | .next s =>
      match s.part.entry 0 with
      | .ending c e => some (c.suppressed, e.waitsOn, e.delivered)
      | _ => none
    | _ => none) = some (⟨false, false, true⟩, ⟨true, false, false⟩, ⟨false, true, false⟩) := by
  decide +kernel

theorem witness_FlushEmptiesTheQueue :
    (readyPart.takes ∧ readyPart.WaitingAgrees) ∧
      (stalledPart.takes ∧ stalledPart.WaitingAgrees ∧ (stalledPart.queue .display).waiting = [0] ∧
        stalledPart.entry 0 = .ending core ending ∧ (ending.waitsOn.erase .display).isEmpty = true) ∧
      ((ending.waitsOn.erase .record).isEmpty = false ∧ ending.delivered.has .record = true) ∧
      (let p := offering .fanout (withQueue .fanout [item] readyPart)
      p.takes ∧ p.WaitingAgrees ∧ p.egress.offer = .fanout ∧ p.egress.bridgeReady = true) :=
  ⟨⟨ready_takes, ready_waiting⟩, ⟨⟨rfl, by decide⟩, stalled_waiting, rfl, stalled_entry 0, rfl⟩,
    ⟨rfl, rfl⟩, ⟨rfl, by decide⟩,
    waiting_of_free ready_no_entry rfl (fun d => by cases d <;> decide) (fun d => by cases d <;> rfl),
    rfl, rfl⟩

def summary : Summary :=
  ⟨1, 64, 0, .pen, 3, ⟨0, 0, 0, 0⟩, 2, .lifted, ⟨false, false, false⟩, 0, 0, ⟨true, true, true⟩, false⟩

/-- A history list of 256 summaries, of which some are unread. -/
def fullHistory (unread : Nat) : History := ⟨List.replicate 256 summary, unread, 7⟩

theorem witness_StrokeEndLeavesTheTable_history :
    readyPart.history.list.length < 256 ∧
      (∀ unread, (fullHistory unread).list = summary :: List.replicate 255 summary) ∧
      (List.replicate 255 summary).length = 255 ∧ (fullHistory 256).unread = 256 ∧
      (fullHistory 255).unread < 256 :=
  ⟨by decide, fun _ => rfl, List.length_replicate, rfl, by decide⟩

def drawnPart : Part := { strokePart with history := ⟨[summary], 1, 0⟩ }

theorem witness_UndoRetractsTheNewestStroke :
    drawnPart.takes ∧ drawnPart.Settled ∧ drawnPart.history.list = [] ++ summary :: [] ∧
      summary.seat = 64 ∧ summary.retracted = false ∧ (drawnPart.layer summary.layer).state = .opened ∧
      (∀ d, (drawnPart.queue d).items.length < Config.capacity d) ∧
      drawnPart.queues.held = DestSet.empty ∧
      Config.capacity .display ≤
        ((withQueue .display (List.replicate 256 item) drawnPart).queue .display).items.length ∧
      (∀ m ∈ readyPart.history.list, ¬ m.seat = 64) := by
  refine ⟨⟨rfl, by decide⟩, ⟨by decide, by decide, by decide⟩, rfl, rfl, rfl, by decide +kernel, ?_, rfl,
    by decide +kernel, ?_⟩
  · intro d
    cases d <;> decide
  · intro m hm
    exact absurd hm List.not_mem_nil

theorem witness_RaiseFollowsItsFourSteps :
    readyPart.agent.replyHeld = false ∧ readyPart.isLoading = false ∧
      (let p := (withReplies 7 readyPart).holdReply true
      p.agent.replyHeld = true ∧ 8 - 1 ≤ p.agent.replies.length) ∧
      (look readyPart.errors.items ErrorKind.storeFault.index).mask = false ∧
      (look readyPart.errors.items ErrorKind.storeFault.index).status = false ∧
      (look readyPart.errors.items ErrorKind.storeFault.index).severity = .alert ∧
      readyPart.errors.log = none := by
  refine ⟨rfl, rfl, ⟨rfl, by decide⟩, ?_, ?_, ?_, rfl⟩ <;> decide +kernel

theorem witness_ErrorRequestsChangeTheItems :
    readyPart.takes ∧ [(0 : Fin 13), 12].length ≤ 13 ∧ readyPart.errors.log = none ∧
      (raise .storeFault noSource readyPart).errors.log =
        some ⟨.storeFault, noSource, readyPart.tick⟩ ∧
      13 < (List.replicate 14 (0 : Byte)).length ∧ 12 < (13 : Byte).toNat ∧ 1 < (2 : Byte).toNat :=
  ⟨ready_takes, by decide, rfl, by decide +kernel, by decide, by decide, by decide⟩

theorem witness_RefusedRequestsChangeNothing :
    pendingPart.takes ∧ pendingPart.staging.pending = true ∧
      (Instr.selectPage sender 1).request? = some (sender, .selectPage 1) ∧
      (Request.selectPage 1).code ∈ ([0x01, 0x03, 0x05, 0x06, 0x07, 0x09] : List Byte) ∧
      savingPart.takes ∧ savingPart.save ≠ none ∧
      (Instr.saveCalibration sender).request? = some (sender, .saveCalibration) ∧
      Request.saveCalibration.code ∈ ([0x0C, 0x0E, 0x0F, 0x21, 0x22] : List Byte) :=
  ⟨⟨rfl, by decide⟩, rfl, rfl, by decide, ⟨rfl, by decide⟩, by simp [savingPart], rfl, by decide⟩

/-- A WRITE_IDENTITY of room seat 1 with every field at an end of its range. -/
def identityWrite : IdentityWrite := ⟨1, 1, 2, 15, 0, 1, 31, 1, 7, 0x0105, 32767, 32767, 8, 15⟩

/-- A staged copy in which room seat 0 is enabled at address 0x0105. -/
def stagedPart : Part := { readyPart with staged := seatedTables }

theorem witness_RefusedRequestsChangeNothing_staged :
    stagedPart.takes ∧ stagedPart.staging.pending = false ∧ 71 < (72 : Byte).toNat ∧
      1 < (2 : Byte).toNat ∧ 2 < (3 : Byte).toNat ∧ 15 < (16 : Byte).toNat ∧ 31 < (32 : Byte).toNat ∧
      7 < (8 : Byte).toNat ∧ (0 : Half).toNat = 0 ∧ (65535 : Half).toNat = 65535 ∧
      32767 < (32768 : Half).toNat ∧ (7 : Byte).toNat < 8 ∧
      (identityWrite.seat.toNat < 64 ∧ identityWrite.enabled = 1 ∧ identityWrite.role.toNat ≤ 2 ∧
        identityWrite.overrideColour.toNat ≤ 31 ∧ identityWrite.forcedLayer.toNat ≤ 7 ∧
        identityWrite.address.toNat ≤ 65534 ∧ identityWrite.exponentY.toNat ≤ 15 ∧
        (0 : Fin 72).val ≠ identityWrite.seat.toNat ∧
        (look stagedPart.staged.identity 0).enabled = true ∧
        (look stagedPart.staged.identity 0).address = some identityWrite.address) ∧
      (0 : Byte).toNat < (1 : Byte).toNat ∧ 3 < (4 : Byte).toNat ∧ 8 < (9 : Byte).toNat ∧
      ((1 : Byte).toNat ≠ 0 ∧ (1 : Byte).toNat ≠ 3) := by
  refine ⟨⟨rfl, by decide⟩, rfl, ?_⟩
  decide +kernel

theorem witness_RefusedRequestsChangeNothing_settings :
    readyPart.takes ∧ readyPart.save = none ∧ (199 : Half).toNat < 200 ∧
      20000 < (20001 : Half).toNat ∧ (99 : Half).toNat < 100 ∧ 2000 < (2001 : Half).toNat ∧
      4095 < (4096 : Half).toNat ∧ 6 < (7 : Byte).toNat ∧ 16 < (List.replicate 17 (0 : Byte)).length ∧
      (∃ i ∈ [(16 : Byte)], 15 < i.toNat) ∧ (∃ i, look (fill 16 (0 : Byte)) i = 0) ∧
      (1023 : Half).toNat < 1024 ∧ 32767 < (32768 : Half).toNat ∧
      (∀ l, (readyPart.layer l).state = .closed) ∧ (strokePart.layer 0).state ≠ .closed ∧
      strokePart.entry 0 ≠ .free ∧ strokePart.takes ∧ (7 : Byte).toNat = (7 : Fin 8).val ∧
      ((5 : Byte).toNat ≠ 4 ∧ (5 : Byte).toNat ≠ 8) ∧ Dest.display.code = 0 ∧
      Config.capacity .display < (257 : Half).toNat ∧ 2 < (3 : Byte).toNat := by
  refine ⟨ready_takes, rfl, by decide, by decide, by decide, by decide, by decide, by decide, by decide,
    by decide, ⟨0, by simp⟩, by decide, by decide, ?_, by decide +kernel, ?_, stroke_takes, rfl, by decide,
    rfl, by decide, by decide⟩
  · intro l
    simp [readyPart, resetPart, Part.layer, resetLayer]
  · rw [stroke_entry]
    nofun

theorem witness_RequestsThatNameNothingAreRefused :
    readyPart.takes ∧ 71 < (72 : Byte).toNat ∧ 7 < (8 : Byte).toNat ∧ 15 < (16 : Byte).toNat ∧
      1 < (2 : Byte).toNat ∧ 3 < (4 : Byte).toNat ∧ 2 < (3 : Byte).toNat ∧ 47 < (48 : Byte).toNat ∧
      8 < (9 : Byte).toNat ∧ 72 < (71 : Byte).toNat + (2 : Byte).toNat ∧ (0 : Byte).toNat = 0 ∧
      (7 : Byte).toNat = (7 : Fin 8).val ∧ 5 < (6 : Byte).toNat ∧
      (let short := sealFrame (managementHeader sender 0x0E [2, 0] ++ [2, 0])
      codeMatches short = true ∧ 10 ≤ short.length ∧ byteAt short 0 = 0x02 ∧ channelOf short = 0 ∧
        1 ≤ (byteAt short 4).toNat ∧ (byteAt short 4).toNat ≤ 0x23 ∧
        ((short.drop 8).take (short.length - 10)).length ≠ catalogueLength 0x0E [2, 0]) ∧
      (let wrong := sealFrame ([0x02, 0x00] ++ be16 5 ++ [0x23, 9] ++ halfBytes 11)
      codeMatches wrong = true ∧ byteAt wrong 0 = 0x02 ∧ (byteAt wrong 4).toNat ≤ 0x23 ∧
        (halfAt wrong 6).toNat ≠ wrong.length) := by
  refine ⟨ready_takes, ?_⟩
  decide +kernel

theorem witness_EveryCommandKeepsTheEgressInOrder :
    busyDisplay.Bounded ∧ busyDisplay.Settled ∧ busyDisplay.OfferStands ∧ busyDisplay.NoSlotHeld ∧
      ∃ q, exec .displayTransmitEnd ⟨busyDisplay, []⟩ = .next ⟨q, []⟩ := by
  refine ⟨⟨?_, by decide, by decide, by decide, by decide⟩, busyDisplay_settled,
    ⟨by decide, by decide, by decide⟩, ⟨rfl, rfl⟩, _, rfl⟩
  intro d
  cases d <;> decide

theorem witness_EveryCommandKeepsTheStrokeTable :
    strokePart.SeatsAgree ∧ strokePart.RoomShare ∧ strokePart.LayersAgree ∧ strokePart.IdsUnique ∧
      ∃ q, exec (.quietExpiry 64) ⟨strokePart, []⟩ = .next ⟨q, []⟩ := by
  refine ⟨stroke_seats_agree, by unfold Part.RoomShare; decide +kernel, ⟨?_, ?_, ?_⟩, ?_, _, rfl⟩
  · decide +kernel
  · decide +kernel
  · decide +kernel
  · have h : strokePart.heldIds = [1] := by decide +kernel
    exact ⟨by rw [h]; simp, by rw [h]; simp, by decide, by decide⟩

theorem witness_EveryCommandKeepsTheRecordOrder :
    readyPart.WaitingAgrees ∧ readyPart.RecordsOrdered ∧
      ∃ q, exec .bridgeAccept ⟨readyPart, []⟩ = .next ⟨q, []⟩ :=
  ⟨ready_waiting, ordered_of_empty ready_no_entry fun d => by cases d <;> rfl, _, rfl⟩

theorem witness_EveryCommandKeepsPointsInBounds :
    strokePart.StrokesSound ∧ ∃ q, exec (.boardLinkFrame []) ⟨strokePart, []⟩ = .next ⟨q, []⟩ := by
  have key : ∀ i c a, strokePart.entry i = .opened c a → c = core ∧ a = assembly := by
    intro i c a h
    rw [stroke_entry] at h
    split at h
    · cases h; exact ⟨rfl, rfl⟩
    · cases h
  refine ⟨⟨?_, ?_, by decide, by decide +kernel⟩, _, rfl⟩
  · intro i c a h
    rw [(key i c a h).2]
    refine ⟨by decide, by decide, ?_, ?_, by decide, by decide, ?_, ?_, ?_, by decide, by decide⟩ <;>
      simp [assembly, Assembly.start, Assembly.holds, boardBounds, Point.xy]
  · intro i c a h
    rw [(key i c a h).2]
    exact ⟨⟨by decide, by decide⟩, by decide, by decide⟩

theorem witness_EveryCommandKeepsAlertAndLogTrue :
    readyPart.AlertAgrees ∧ readyPart.LogAgrees ∧
      ∃ q, exec (.boardLinkFrame []) ⟨readyPart, []⟩ = .next ⟨q, []⟩ := by
  refine ⟨by unfold Part.AlertAgrees; decide +kernel, ?_, _, rfl⟩
  intro l h
  cases h

theorem witness_TablesChangeWholeAtAnApplyingMark :
    (Instr.frameMark 5 (crc [0x21, 5])).wellFormed = true ∧ pendingPart.TablesSound ∧
      pendingPart.staging.pending = true ∧
      ∃ q, exec (.frameMark 5 (crc [0x21, 5])) ⟨pendingPart, []⟩ = .next ⟨q, []⟩ := by
  have h : ∀ i, (look resetTables.identity i).enabled = false := by
    intro i
    simp [resetTables, resetIdentity]
  refine ⟨rfl, ⟨?_, ?_, ?_, ?_⟩, rfl, _, rfl⟩
  · intro i j _ _ e
    rw [show pendingPart.active = resetTables from rfl, h i] at e
    cases e
  · intro i j _ _ e
    rw [show pendingPart.staged = resetTables from rfl, h i] at e
    cases e
  · intro i _ e
    rw [show pendingPart.active = resetTables from rfl, h i] at e
    cases e
  · intro i _ e
    rw [show pendingPart.staged = resetTables from rfl, h i] at e
    cases e

end Sys2Proof.Tests
end

section
/-! SUPPORT. The management channel: a request is read back from its frame, a body of another length is not read,
and a command that carries a request acts as its owner (section 10.3, R165 to R168). -/

namespace Sys2Proof.Machine

/-! ### Bodies (section 10.3, R177) -/

-- The row's tests above keep about as many threads waiting as check.sh's memory allows; a proof that is not run
-- beside them lets them end first.
set_option Elab.async false in
/-- The body of a request is read back as the request (R177). -/
theorem decodeRequest_body (r : Request) (h : r.framable = true) :
    decodeRequest r.code r.body = some r := by
  cases r
  case applyBaseline sets =>
    have h : sets.length < 256 := by simpa [Request.framable] using h
    simp [decodeRequest, Request.code, Request.body, readListBody, byteOf, Nat.mod_eq_of_lt h]
  case clearErrors kinds =>
    have h : kinds.length < 256 := by simpa [Request.framable] using h
    simp [decodeRequest, Request.code, Request.body, readListBody, byteOf, Nat.mod_eq_of_lt h]
  case writeWidthTable tool entries =>
    simp [decodeRequest, Request.code, Request.body, readWidthWrite]
    rfl
  all_goals
    simp [decodeRequest, Request.code, Request.body, be16, read16_be16, readIdentityWrite, readTwo,
      readRuleWrite, readThree, readOne, readEmpty, readTwoHalves, readCalibrationWrite, readModeWrite,
      readQueueWrite]

theorem readOne_eq_none (make : Byte → Request) (body : List Byte) :
    readOne make body = none ↔ body.length ≠ 1 := by
  rcases body with _ | ⟨a, _ | ⟨b, t⟩⟩ <;> simp [readOne]

theorem readTwo_eq_none (make : Byte → Byte → Request) (body : List Byte) :
    readTwo make body = none ↔ body.length ≠ 2 := by
  rcases body with _ | ⟨a, _ | ⟨b, _ | ⟨c, t⟩⟩⟩ <;> simp [readTwo]

theorem readThree_eq_none (make : Byte → Byte → Byte → Request) (body : List Byte) :
    readThree make body = none ↔ body.length ≠ 3 := by
  rcases body with _ | ⟨a, _ | ⟨b, _ | ⟨c, _ | ⟨d, t⟩⟩⟩⟩ <;> simp [readThree]

theorem readTwoHalves_eq_none (make : Half → Half → Request) (body : List Byte) :
    readTwoHalves make body = none ↔ body.length ≠ 4 := by
  rcases body with _ | ⟨a, _ | ⟨b, _ | ⟨c, _ | ⟨d, _ | ⟨e, t⟩⟩⟩⟩⟩ <;> simp [readTwoHalves]

theorem readQueueWrite_eq_none (body : List Byte) :
    readQueueWrite body = none ↔ body.length ≠ 4 := by
  rcases body with _ | ⟨a, _ | ⟨b, _ | ⟨c, _ | ⟨d, _ | ⟨e, t⟩⟩⟩⟩⟩ <;> simp [readQueueWrite]

theorem readEmpty_eq_none (r : Request) (body : List Byte) :
    readEmpty r body = none ↔ body.length ≠ 0 := by
  cases body <;> simp [readEmpty]

theorem readListBody_eq_none (make : List Byte → Request) (body : List Byte) :
    readListBody make body = none ↔ body.length ≠ 1 + (body.headD 0).toNat := by
  cases body with
  | nil => simp [readListBody]
  | cons n t => simp [readListBody, Nat.add_comm 1]

theorem readWidthWrite_eq_none (body : List Byte) :
    readWidthWrite body = none ↔ body.length ≠ 17 := by
  cases body <;> simp [readWidthWrite]

theorem readModeWrite_eq_none (body : List Byte) :
    readModeWrite body = none ↔ body.length ≠ 6 := by
  unfold readModeWrite
  split
  · simp
  · next h =>
    refine ⟨fun _ hl => ?_, fun _ => rfl⟩
    match body, hl with
    | [_, _, _, _, _, _], _ => exact h _ _ _ _ _ _ rfl

theorem readRuleWrite_eq_none (body : List Byte) :
    readRuleWrite body = none ↔ body.length ≠ 10 := by
  unfold readRuleWrite
  split
  · simp
  · next h =>
    refine ⟨fun _ hl => ?_, fun _ => rfl⟩
    match body, hl with
    | [_, _, _, _, _, _, _, _, _, _], _ => exact h _ _ _ _ _ _ _ _ _ _ rfl

theorem readCalibrationWrite_eq_none (body : List Byte) :
    readCalibrationWrite body = none ↔ body.length ≠ 13 := by
  unfold readCalibrationWrite
  split
  · simp
  · next h =>
    refine ⟨fun _ hl => ?_, fun _ => rfl⟩
    match body, hl with
    | [_, _, _, _, _, _, _, _, _, _, _, _, _], _ => exact h _ _ _ _ _ _ _ _ _ _ _ _ _ rfl

theorem readIdentityWrite_eq_none (body : List Byte) :
    readIdentityWrite body = none ↔ body.length ≠ 17 := by
  unfold readIdentityWrite
  split
  · simp
  · next h =>
    refine ⟨fun _ hl => ?_, fun _ => rfl⟩
    match body, hl with
    | [_, _, _, _, _, _, _, _, _, _, _, _, _, _, _, _, _], _ =>
      exact h _ _ _ _ _ _ _ _ _ _ _ _ _ _ _ _ _ rfl

/-- A body is read as a request of a kind of the catalogue exactly when it has the length that the catalogue
gives (R168, section 10.3). -/
theorem decodeRequest_eq_none_iff {kind : Byte} (body : List Byte) (h1 : 1 ≤ kind.toNat)
    (h2 : kind.toNat ≤ 0x23) :
    decodeRequest kind body = none ↔ body.length ≠ catalogueLength kind body := by
  unfold decodeRequest catalogueLength
  generalize kind.toNat = k at h1 h2
  interval_cases k <;>
    simp only [readOne_eq_none, readTwo_eq_none, readThree_eq_none, readTwoHalves_eq_none,
      readQueueWrite_eq_none, readEmpty_eq_none, readListBody_eq_none, readWidthWrite_eq_none,
      readModeWrite_eq_none, readRuleWrite_eq_none, readCalibrationWrite_eq_none,
      readIdentityWrite_eq_none]

/-! ### A request given as a command -/

/-- A command that carries a request passes it to the request's owner (R168). -/
theorem exec_request {c : Instr} {req : Requester} {r : Request} (h : c.request? = some (req, r))
    (s : State) : exec c s = request req r (ownerOf r) s := by
  cases c <;> cases h <;> rfl

end Sys2Proof.Machine
end

section
/-! SUPPORT. What the operations that end strokes, send records and take samples may change, said once for each
operation as a relation between the part before and the part after. -/

namespace Sys2Proof.Machine

/-! ### Departures and the ENDs they let join (R104, R105, R140) -/

/-- What serving a waiting END makes of an entry: an ENDING stroke may complete, or its END-pending and
delivered sets may change; every other entry stands. -/
def Entry.Served (x y : Entry) : Prop :=
  y = x ∨ ∃ c e, x = .ending c e ∧
    (y = .free ∨ ∃ w d, y = .ending c { e with waitsOn := w, delivered := d })

theorem Entry.Served.same (x : Entry) : x.Served x := .inl rfl

theorem Entry.Served.freed (c : StrokeCore) (e : Ending) : (Entry.ending c e).Served .free :=
  .inr ⟨c, e, rfl, .inl rfl⟩

theorem Entry.Served.waits (c : StrokeCore) (e : Ending) (w d : DestSet) :
    (Entry.ending c e).Served (.ending c { e with waitsOn := w, delivered := d }) :=
  .inr ⟨c, e, rfl, .inr ⟨w, d, rfl⟩⟩

theorem Entry.Served.trans {x y z : Entry} (h1 : x.Served y) (h2 : y.Served z) : x.Served z := by
  rcases h1 with rfl | ⟨c, e, rfl, rfl | ⟨w, d, rfl⟩⟩
  · exact h2
  · rcases h2 with rfl | ⟨c', e', h, -⟩
    · exact .freed c e
    · cases h
  · rcases h2 with rfl | ⟨c', e', h, rfl | ⟨w', d', rfl⟩⟩
    · exact .waits c e w d
    · exact .freed c e
    · cases h
      exact .waits c e w' d'

/-- An OPEN entry stands while waiting ENDs are served. -/
theorem Entry.Served.opened {c : StrokeCore} {a : Assembly} {y : Entry}
    (h : (Entry.opened c a).Served y) : y = .opened c a := by
  rcases h with rfl | ⟨c', e', h, -⟩
  · rfl
  · cases h

/-- From one part to another nothing has changed but what departures may change: queues, egress, history list,
frames sent, and the entries whose ENDs were served. -/
structure SettleStep (p q : Part) : Prop where
  fixed : q = { p with
    assembler := { p.assembler with entries := q.assembler.entries }
    queues := q.queues
    egress := q.egress
    history := q.history
    sent := q.sent }
  entries : ∀ i, (p.entry i).Served (q.entry i)

namespace SettleStep

theorem refl (p : Part) : SettleStep p p := ⟨rfl, fun _ => .same _⟩

theorem trans {p q r : Part} (h1 : SettleStep p q) (h2 : SettleStep q r) : SettleStep p r where
  fixed := by rw [h2.fixed, h1.fixed]
  entries i := (h1.entries i).trans (h2.entries i)

theorem seats {p q : Part} (h : SettleStep p q) : q.seats = p.seats := by rw [h.fixed]
theorem agent {p q : Part} (h : SettleStep p q) : q.agent = p.agent := by rw [h.fixed]
theorem counters {p q : Part} (h : SettleStep p q) :
    q.assembler.counters = p.assembler.counters := by rw [h.fixed]

end SettleStep

/-- An update of the queues and of the egress alone. -/
theorem settleStep_of_queues (p : Part) (qs : Queues) (g : Egress) (l : List SentFrame) :
    SettleStep p { p with queues := qs, egress := g, sent := l } := ⟨rfl, fun _ => .same _⟩

theorem completeIfDone_settleStep (i : Fin 48) (p : Part) : SettleStep p (completeIfDone i p) := by
  unfold completeIfDone
  split
  · next c e he =>
    split
    · rw [complete_eq he]
      refine ⟨rfl, fun j => ?_⟩
      show (p.entry j).Served ((p.setEntry i .free).entry j)
      rw [Part.entry_setEntry]
      split
      · next hj => subst hj; rw [he]; exact .freed c e
      · exact .same _
    · exact .refl p
  · exact .refl p

theorem serveWaiting_settleStep (d : Dest) (p : Part) : SettleStep p (serveWaiting d p) := by
  unfold serveWaiting
  split
  · exact .refl p
  · next i rest hw =>
    simp only [Part.entry_setQueue]
    split
    · next c e he =>
      refine SettleStep.trans ?_ (completeIfDone_settleStep i _)
      obtain ⟨o, ho⟩ := joinInk_eq d e.record (some c.serial)
        (p.setQueue d { p.queue d with waiting := rest })
      have hje : (joinInk d e.record (some c.serial)
          (p.setQueue d { p.queue d with waiting := rest })).entry i = .ending c e := by
        rw [ho]; exact he
      unfold Part.updateEnding
      simp only [hje]
      rw [ho]
      refine ⟨rfl, fun j => ?_⟩
      rw [Part.entry_setEntry]
      split
      · next hj => subst hj; rw [he]; exact .waits c e _ _
      · exact .same _
    · exact settleStep_of_queues p _ p.egress p.sent

theorem depart_settleStep (d : Dest) (link : Link) (frame : QueueItem → List Byte) (p : Part) :
    SettleStep p (depart d link frame p) := by
  unfold depart
  split
  · exact .refl p
  · exact (settleStep_of_queues p _ _ _).trans (serveWaiting_settleStep d _)

theorem displayPump_settleStep (p : Part) : SettleStep p (displayPump p) := by
  unfold displayPump
  split
  · exact (settleStep_of_queues p p.queues _ p.sent).trans (depart_settleStep _ _ _ _)
  · exact .refl p

theorem recordPump_settleStep (p : Part) : SettleStep p (recordPump p) := by
  unfold recordPump
  split
  · exact (settleStep_of_queues p p.queues _ p.sent).trans (depart_settleStep _ _ _ _)
  · exact .refl p

theorem roomChoose_settleStep (p : Part) : SettleStep p (roomChoose p) := by
  rw [roomChoose_eq]
  exact settleStep_of_queues p p.queues _ p.sent

/-- All that follows an event (R146, R148, R150). -/
theorem settle_settleStep (p : Part) : SettleStep p (settle p) := by
  unfold settle
  split
  · exact .refl p
  · exact ((displayPump_settleStep p).trans (recordPump_settleStep _)).trans (roomChoose_settleStep _)

/-! ### The blocks that strokes and departures leave alone -/

/-- From one part to another the clock, the timeouts, the receivers, the tables, the monitor, staging control and
the store stand, and of a seat only the lockout and the open stroke reference may differ. -/
structure StrokeStep (p q : Part) : Prop where
  fixed : q = { p with
    seats := q.seats
    refusals := q.refusals
    conditioning := q.conditioning
    assembler := q.assembler
    layers := q.layers
    queues := q.queues
    egress := q.egress
    history := q.history
    agent := q.agent
    errors := q.errors
    sent := q.sent }
  seats : ∀ s, q.seat s =
    { p.seat s with lockout := (q.seat s).lockout, openEntry := (q.seat s).openEntry }

namespace StrokeStep

theorem refl (p : Part) : StrokeStep p p := ⟨rfl, fun _ => rfl⟩

theorem trans {p q r : Part} (h1 : StrokeStep p q) (h2 : StrokeStep q r) : StrokeStep p r where
  fixed := by rw [h2.fixed, h1.fixed]
  seats s := by rw [h2.seats s, h1.seats s]

/-- A fold of operations that keep the relation keeps it. -/
theorem foldl {α : Type} {f : Part → α → Part} (h : ∀ p x, StrokeStep p (f p x)) (l : List α)
    (p : Part) : StrokeStep p (l.foldl f p) := by
  induction l generalizing p with
  | nil => exact .refl p
  | cons x t ih => exact (h p x).trans (ih (f p x))

theorem phase {p q : Part} (h : StrokeStep p q) : q.phase = p.phase := by rw [h.fixed]
theorem tick {p q : Part} (h : StrokeStep p q) : q.tick = p.tick := by rw [h.fixed]
theorem timing {p q : Part} (h : StrokeStep p q) : q.timing = p.timing := by rw [h.fixed]
theorem receivers {p q : Part} (h : StrokeStep p q) : q.receivers = p.receivers := by rw [h.fixed]
theorem active {p q : Part} (h : StrokeStep p q) : q.active = p.active := by rw [h.fixed]
theorem staged {p q : Part} (h : StrokeStep p q) : q.staged = p.staged := by rw [h.fixed]
theorem monitor {p q : Part} (h : StrokeStep p q) : q.monitor = p.monitor := by rw [h.fixed]
theorem staging {p q : Part} (h : StrokeStep p q) : q.staging = p.staging := by rw [h.fixed]
theorem store {p q : Part} (h : StrokeStep p q) : q.store = p.store := by rw [h.fixed]
theorem save {p q : Part} (h : StrokeStep p q) : q.save = p.save := by rw [h.fixed]

/-- A part that differs in none of the seats and in none of the blocks that stand. -/
theorem of_blocks {p q : Part} (h : q = { p with
    refusals := q.refusals
    conditioning := q.conditioning
    assembler := q.assembler
    layers := q.layers
    queues := q.queues
    egress := q.egress
    history := q.history
    agent := q.agent
    errors := q.errors
    sent := q.sent }) : StrokeStep p q := by
  have hs : q.seats = p.seats := by rw [h]
  refine ⟨?_, fun s => ?_⟩
  · rw [hs]; exact h
  · simp [Part.seat, hs]

end StrokeStep

theorem InkStep.strokeStep {p q : Part} (h : InkStep p q) : StrokeStep p q :=
  .of_blocks (by rw [h.fixed])

theorem SettleStep.strokeStep {p q : Part} (h : SettleStep p q) : StrokeStep p q :=
  .of_blocks (by rw [h.fixed])

/-- A change of one seat's lockout and open stroke reference. -/
theorem setSeat_strokeStep (p : Part) (s : Fin 72) (l : Option Lockout) (o : Option (Fin 48)) :
    StrokeStep p (p.setSeat s { p.seat s with lockout := l, openEntry := o }) := by
  refine ⟨rfl, fun t => ?_⟩
  rw [Part.seat_setSeat]
  split
  · next h => subst h; rfl
  · rfl

theorem settle_strokeStep (p : Part) : StrokeStep p (settle p) := (settle_settleStep p).strokeStep

theorem notice_strokeStep (n : Notice) (p : Part) : StrokeStep p (notice n p) := by
  obtain ⟨a, o, h, -⟩ := notice_frame n p
  rw [h]
  exact .of_blocks rfl

theorem joinReply_strokeStep (f : ReplyFrame) (p : Part) : StrokeStep p (joinReply f p) := by
  obtain ⟨o, h⟩ := joinReply_eq f p
  rw [h]
  exact .of_blocks rfl

/-! ### The end of a stroke (R101 to R105) -/

/-- From one part to another nothing has changed but what handing the END of an entry to the queues may change:
what an `InkStep` may change, the entry's END-pending and delivered sets, and the waiting lists. -/
structure EndStep (i : Fin 48) (p q : Part) : Prop where
  fixed : q = { p with
    assembler := { p.assembler with entries := q.assembler.entries }
    queues := q.queues
    agent := q.agent
    egress := { p.egress with offer := q.egress.offer }
    errors := q.errors }
  entry : ∀ c e, p.entry i = .ending c e →
    ∃ c' w d, q.entry i = .ending c' { e with waitsOn := w, delivered := d } ∧ c.Like c'
  others : ∀ j, j ≠ i → (p.entry j).Like (q.entry j)
  replyHeld : q.agent.replyHeld = p.agent.replyHeld

namespace EndStep

theorem trans {i : Fin 48} {p q r : Part} (h1 : EndStep i p q) (h2 : EndStep i q r) :
    EndStep i p r where
  fixed := by rw [h2.fixed, h1.fixed]
  entry c e he := by
    obtain ⟨c1, w1, d1, h, hl⟩ := h1.entry c e he
    obtain ⟨c2, w2, d2, h', hl'⟩ := h2.entry c1 _ h
    exact ⟨c2, w2, d2, h', hl.trans hl'⟩
  others j hj := (h1.others j hj).trans (h2.others j hj)
  replyHeld := h2.replyHeld.trans h1.replyHeld

theorem refl (i : Fin 48) (p : Part) : EndStep i p p :=
  ⟨rfl, fun c e h => ⟨c, e.waitsOn, e.delivered, h, .refl c⟩, fun _ _ => .refl _, rfl⟩

theorem foldl {i : Fin 48} {α : Type} {f : Part → α → Part} (h : ∀ p x, EndStep i p (f p x))
    (l : List α) (p : Part) : EndStep i p (l.foldl f p) := by
  induction l generalizing p with
  | nil => exact .refl i p
  | cons x t ih => exact (h p x).trans (ih (f p x))

theorem of_inkStep {p q : Part} (i : Fin 48) (h : InkStep p q) : EndStep i p q where
  fixed := h.fixed
  entry c e he := by
    have := h.entries i
    rw [he] at this
    cases hq : q.entry i with
    | free => rw [hq] at this; cases this
    | opened => rw [hq] at this; cases this
    | ending c' e' =>
      rw [hq] at this
      cases this with
      | ending hl => exact ⟨c', e.waitsOn, e.delivered, rfl, hl⟩
  others j _ := h.entries j
  replyHeld := h.replyHeld

/-- A change of the entry's END-pending and delivered sets. -/
theorem updateEnding (i : Fin 48) (p : Part) (w d : Ending → DestSet) :
    EndStep i p (p.updateEnding i fun e => { e with waitsOn := w e, delivered := d e }) := by
  unfold Part.updateEnding
  split
  · next c e he =>
    refine ⟨rfl, fun c' e' h => ?_, fun j hj => ?_, rfl⟩
    · rw [he] at h
      cases h
      exact ⟨c, w e, d e, by rw [Part.entry_setEntry_same], .refl c⟩
    · rw [Part.entry_setEntry_other _ _ hj]
      exact .refl _
  · exact .refl i p

theorem setQueue (i : Fin 48) (p : Part) (d : Dest) (v : InkQueue) : EndStep i p (p.setQueue d v) :=
  ⟨rfl, fun c e h => ⟨c, e.waitsOn, e.delivered, h, .refl c⟩, fun _ _ => .refl _, rfl⟩

end EndStep

theorem handEnd_endStep (i : Fin 48) (c : StrokeCore) (r : InkRecord) (p : Part) (d : Dest) :
    EndStep i p (handEnd i c r p d) := by
  have h := EndStep.of_inkStep i (handInk_inkStep d r c.serial c.seat p)
  unfold handEnd
  split
  · next p1 he =>
    rw [he] at h
    exact h.trans (.updateEnding i p1 Ending.waitsOn fun e => e.delivered.insert d)
  · next p1 he =>
    rw [he] at h
    exact (((h.trans (.updateEnding i p1 (fun e => e.waitsOn.insert d) Ending.delivered)).trans
      (.setQueue i _ d _)).trans (.of_inkStep i (countQueue_inkStep d _ _))).trans
        (.of_inkStep i (raise_inkStep _ _ _))

end Sys2Proof.Machine
end

section
/-! SUPPORT. The end of a stroke (R101 to R105): what each of its steps may change, and what every sample handed on for
a seat leaves alone (R93 to R98). -/

namespace Sys2Proof.Machine

/-! ### Entries that records handed to the queues leave OPEN -/

/-- An OPEN entry stays OPEN while records are handed to the queues, its stroke the same. -/
theorem Entry.Like.opened_left {c : StrokeCore} {a : Assembly} {y : Entry}
    (h : (Entry.opened c a).Like y) : ∃ c' a', y = .opened c' a' ∧ c.Like c' := by
  cases h with
  | opened hc _ => exact ⟨_, _, rfl, hc⟩

theorem StrokeCore.Like.seat {c d : StrokeCore} (h : c.Like d) : d.seat = c.seat := by rw [h]
theorem StrokeCore.Like.id {c d : StrokeCore} (h : c.Like d) : d.id = c.id := by rw [h]

/-- From one part to another nothing has changed but what steps 4 to 7 of an end may change: entries, counters of
strokes, layers, queues, reply queue, offer, history list and errors. -/
def EndsWith (p q : Part) : Prop :=
  ∃ (entries : Vector Entry 48) (counters : StrokeCounters) (layers : Vector Layer 8) (queues : Queues)
    (agent : Agent) (offer : Offer) (history : History) (errors : Errors),
    q = { p with
      assembler := { p.assembler with entries := entries, counters := counters }
      layers := layers
      queues := queues
      agent := agent
      egress := { p.egress with offer := offer }
      history := history
      errors := errors }

theorem EndsWith.trans {p q r : Part} (h1 : EndsWith p q) (h2 : EndsWith q r) : EndsWith p r := by
  obtain ⟨_, _, _, _, _, _, _, _, rfl⟩ := h1
  obtain ⟨_, _, _, _, _, _, _, _, rfl⟩ := h2
  exact ⟨_, _, _, _, _, _, _, _, rfl⟩

theorem EndStep.endsWith {i : Fin 48} {p q : Part} (h : EndStep i p q) : EndsWith p q :=
  ⟨_, p.assembler.counters, p.layers, _, _, _, p.history, _, h.fixed⟩

theorem InkStep.endsWith {p q : Part} (h : InkStep p q) : EndsWith p q :=
  ⟨_, p.assembler.counters, p.layers, _, _, _, p.history, _, h.fixed⟩

theorem EndsWith.strokeStep {p q : Part} (h : EndsWith p q) : StrokeStep p q := by
  obtain ⟨_, _, _, _, _, _, _, _, rfl⟩ := h
  exact .of_blocks rfl

/-- What the delivery of an END makes of the entry: FREE, or ENDING with the sets changed. -/
def EndLeaves (c : StrokeCore) (e : Ending) (x : Entry) : Prop :=
  x = .free ∨ ∃ c' w d, x = .ending c' { e with waitsOn := w, delivered := d } ∧ c.Like c'

/-- What step 6 of an end may change: the entry is then FREE or still ENDING, and the count of END waits may have
advanced. -/
theorem deliverEnd_step {i : Fin 48} {c0 : StrokeCore} {e0 : Ending} (c : StrokeCore) (r : InkRecord)
    {p : Part} (h : p.entry i = .ending c0 e0) :
    EndsWith p (deliverEnd i c r p) ∧ EndLeaves c0 e0 ((deliverEnd i c r p).entry i) ∧
    (∀ j, j ≠ i → (p.entry j).Like ((deliverEnd i c r p).entry j)) ∧
    (∃ n, (deliverEnd i c r p).assembler.counters = { p.assembler.counters with endWaits := n }) ∧
    (deliverEnd i c r p).agent.replyHeld = p.agent.replyHeld := by
  have hf := EndStep.foldl (handEnd_endStep i c r) c.targets p
  obtain ⟨c', w, d, he, hl⟩ := hf.entry c0 e0 h
  have hc : (c.targets.foldl (handEnd i c r) p).assembler.counters = p.assembler.counters := by
    rw [hf.fixed]
  unfold deliverEnd
  simp only [he]
  split
  · rw [complete_eq he]
    refine ⟨hf.endsWith.trans ⟨_, _, _, _, _, _, _, _, rfl⟩, .inl ?_, ?_,
      ⟨p.assembler.counters.endWaits, hc⟩, hf.replyHeld⟩
    · exact Part.entry_setEntry_same _ _ _
    · intro j hj
      show (p.entry j).Like (((c.targets.foldl (handEnd i c r) p).setEntry i .free).entry j)
      rw [Part.entry_setEntry_other _ _ hj]
      exact hf.others j hj
  · refine ⟨hf.endsWith.trans ⟨_, _, _, _, _, _, _, _, rfl⟩, .inr ⟨c', w, d, he, hl⟩, hf.others,
      ⟨bump p.assembler.counters.endWaits, ?_⟩, hf.replyHeld⟩
    rw [← hc]
    rfl

/-- What steps 4 to 7 of an end may change. -/
theorem closeStroke_step (i : Fin 48) (reason : EndReason) (c : StrokeCore) (a : Assembly) (p : Part) :
    EndsWith p (closeStroke i reason c a p) ∧
    ((closeStroke i reason c a p).entry i = .free ∨
      ∃ c' e, (closeStroke i reason c a p).entry i = .ending c' e ∧ c'.id = c.id ∧ c'.seat = c.seat ∧
        e.reason = reason ∧ e.endTick = p.tick) ∧
    (∀ j, j ≠ i → (p.entry j).Like ((closeStroke i reason c a p).entry j)) ∧
    (∃ n, (closeStroke i reason c a p).assembler.counters =
      { p.assembler.counters.countEnd reason with endWaits := n }) ∧
    (closeStroke i reason c a p).agent.replyHeld = p.agent.replyHeld := by
  set c1 : StrokeCore := { c with count := bump c.count, box := c.box.grow a.lastContact } with hc1
  set r := InkRecord.strokeEnd c1.id a.lastContact reason c1.flags c1.count
  set p2 := (p.setLayer c1.layer (p.layer c1.layer).strokeEnded).setEntry i
    (.ending c1 ⟨reason, p.tick, r, DestSet.empty, DestSet.empty⟩) with hp2
  have h2 : p2.entry i = .ending c1 ⟨reason, p.tick, r, DestSet.empty, DestSet.empty⟩ :=
    Part.entry_setEntry_same _ _ _
  obtain ⟨hf, he, ho, ⟨n, hn⟩, hh⟩ := deliverEnd_step c1 r h2
  have hq : closeStroke i reason c a p =
    (deliverEnd i c1 r p2).countStrokes fun k => k.countEnd reason := rfl
  have h02 : EndsWith p p2 := ⟨_, _, _, _, _, _, _, _, rfl⟩
  rw [hq]
  refine ⟨(h02.trans hf).trans ⟨_, _, _, _, _, _, _, _, rfl⟩, ?_, ?_, ⟨n, ?_⟩, hh⟩
  · rcases he with he | ⟨c', w, d, he, hl⟩
    · exact .inl he
    · exact .inr ⟨c', _, he, hl.id, hl.seat, rfl, rfl⟩
  · intro j hj
    have := ho j hj
    rw [hp2, Part.entry_setEntry_other _ _ hj] at this
    exact this
  · show (deliverEnd i c1 r p2).assembler.counters.countEnd reason = _
    rw [hn]
    cases reason <;> rfl

/-- An OPEN stroke of an entry has ended for a reason (R101): the seat has no open stroke, the entry is FREE or
ENDING, the counter of the reason has advanced, and of the other entries nothing has changed but what handing
records to the queues may change. -/
structure StrokeEnded (reason : EndReason) (i : Fin 48) (c : StrokeCore) (p q : Part) : Prop where
  blocks : EndsWith (p.setSeat c.seat { p.seat c.seat with openEntry := none }) q
  entry : q.entry i = .free ∨ ∃ c' e, q.entry i = .ending c' e ∧ c'.id = c.id ∧ c'.seat = c.seat ∧
    e.reason = reason ∧ e.endTick = p.tick
  others : ∀ j, j ≠ i → (p.entry j).Like (q.entry j)
  counters : ∃ n, q.assembler.counters =
    { p.assembler.counters.countEnd reason with endWaits := n }
  replyHeld : q.agent.replyHeld = p.agent.replyHeld

/-- The end of an OPEN stroke does what R101 says of the seat, the entry and the counters. -/
theorem endStroke_ended (reason : EndReason) {p : Part} {i : Fin 48} {c : StrokeCore} {a : Assembly}
    (h : p.entry i = .opened c a) : StrokeEnded reason i c p (endStroke reason p i) := by
  set p1 := p.setSeat c.seat { p.seat c.seat with openEntry := none } with hp1
  have hi := emitPoints_inkStep i p1
  obtain ⟨c2, a2, h2, hl⟩ : ∃ c2 a2, (emitPoints i p1).entry i = .opened c2 a2 ∧ c.Like c2 := by
    have := hi.entries i
    rw [hp1, Part.entry_setSeat, h] at this
    exact this.opened_left
  have hq : endStroke reason p i = closeStroke i reason c2 a2 (emitPoints i p1) := by
    unfold endStroke
    simp only [h]
    rw [← hp1]
    simp only [h2]
  obtain ⟨hf, he, ho, ⟨n, hn⟩, hh⟩ := closeStroke_step i reason c2 a2 (emitPoints i p1)
  rw [hq]
  refine ⟨hi.endsWith.trans hf, ?_, ?_, ⟨n, ?_⟩, ?_⟩
  · rw [hl.id, hl.seat, hi.tick] at he
    exact he
  · intro j hj
    exact (hi.entries j).trans (ho j hj)
  · rw [hn, hi.counters]; rfl
  · rw [hh, hi.replyHeld]; rfl

/-- An entry that is not OPEN is left as it is (R100). -/
theorem endStroke_self (reason : EndReason) {p : Part} {i : Fin 48}
    (h : ∀ c a, p.entry i ≠ .opened c a) : endStroke reason p i = p := by
  unfold endStroke
  split
  · next c a he => exact absurd he (h c a)
  · rfl

theorem StrokeEnded.strokeStep {reason : EndReason} {i : Fin 48} {c : StrokeCore} {p q : Part}
    (h : StrokeEnded reason i c p q) : StrokeStep p q :=
  (setSeat_strokeStep p c.seat (p.seat c.seat).lockout none).trans h.blocks.strokeStep

theorem endStroke_strokeStep (reason : EndReason) (p : Part) (i : Fin 48) :
    StrokeStep p (endStroke reason p i) := by
  by_cases h : ∃ c a, p.entry i = .opened c a
  · obtain ⟨c, a, h⟩ := h
    exact (endStroke_ended reason h).strokeStep
  · rw [endStroke_self reason fun c a hc => h ⟨c, a, hc⟩]
    exact .refl p

/-! ### Samples (R93 to R98) -/

theorem setCalibrationSet_strokeStep (i : Fin 16) (c : CalibrationSet) (p : Part) :
    StrokeStep p (p.setCalibrationSet i c) := .of_blocks rfl

theorem strokeSample_strokeStep (i : Fin 48) (s : Sample) (p : Part) :
    StrokeStep p (strokeSample i s p) := by
  unfold strokeSample
  split
  · next c a he =>
    have h1 : ∀ e, StrokeStep p (p.setEntry i e) := fun _ => .of_blocks rfl
    simp only
    split
    · exact (h1 _).trans (emitPoints_inkStep i _).strokeStep
    · exact h1 _
  · exact .refl p

theorem placeStroke_strokeStep (i : Fin 48) (c : StrokeCore) (a : Assembly) (p : Part) :
    StrokeStep p (placeStroke i c a p) := by
  let p2 : Part := { p.setEntry i (.opened c a) with
    assembler := { p.assembler with
      entries := put p.assembler.entries i (.opened c a)
      nextId := nextIdAfter c.id
      nextSerial := p.assembler.nextSerial + 1 } }
  let y := p2.layer c.layer
  have h2 : StrokeStep p p2 := .of_blocks rfl
  have h3 := setSeat_strokeStep p2 c.seat (p2.seat c.seat).lockout (some i)
  have h4 : StrokeStep (p2.setSeat c.seat { p2.seat c.seat with openEntry := some i })
      ((p2.setSeat c.seat { p2.seat c.seat with openEntry := some i }).setLayer c.layer
        { y with openCount := y.openCount + 1 }) := .of_blocks rfl
  have h5 := (InkStep.foldl (fun q d => handBegin_inkStep i c (beginRecord c a) q d) c.dests.toList
    ((p2.setSeat c.seat { p2.seat c.seat with openEntry := some i }).setLayer c.layer
        { y with openCount := y.openCount + 1 })).strokeStep
  exact (((h2.trans h3).trans h4).trans h5).trans (.of_blocks rfl)

theorem touchDown_strokeStep (seat : Fin 72) (s : Sample) (src : ErrorSource) (p : Part) :
    StrokeStep p (touchDown seat s src p) := by
  unfold touchDown
  split
  · unfold beginStroke
    split
    · exact placeStroke_strokeStep _ _ _ p
    · exact .refl p
  · next reason _ =>
    have h1 : StrokeStep p { p.setSeat seat { p.seat seat with lockout := some reason } with
        refusals := p.refusals.count reason } :=
      (setSeat_strokeStep p seat (some reason) (p.seat seat).openEntry).trans (.of_blocks rfl)
    unfold refuseTouch
    cases reason with
    | tableFull => exact h1.trans (raise_inkStep _ _ _).strokeStep
    | denied => exact h1
    | notAllowed => exact h1
    | layerNotOpen => exact h1

theorem contactSample_strokeStep (seat : Fin 72) (s : Sample) (src : ErrorSource) (p : Part) :
    StrokeStep p (contactSample seat s src p) := by
  have h1 : StrokeStep p (abortWindow seat p) := setCalibrationSet_strokeStep _ _ p
  unfold contactSample
  simp only
  split
  · exact h1.trans (strokeSample_strokeStep _ s _)
  · exact h1.trans (.of_blocks rfl)
  · exact h1.trans (touchDown_strokeStep seat s src _)

theorem endSeatStroke_strokeStep (seat : Fin 72) (reason : EndReason) (p : Part) :
    StrokeStep p (endSeatStroke seat reason p) := by
  unfold endSeatStroke
  split
  · exact endStroke_strokeStep reason p _
  · exact .refl p

theorem clearLockout_strokeStep (seat : Fin 72) (p : Part) : StrokeStep p (clearLockout seat p) :=
  setSeat_strokeStep p seat none (p.seat seat).openEntry

theorem liftSample_strokeStep (seat : Fin 72) (s : Sample) (p : Part) :
    StrokeStep p (liftSample seat s p) := by
  have h1 := (endSeatStroke_strokeStep seat .lifted p).trans (clearLockout_strokeStep seat _)
  unfold liftSample
  simp only
  split
  · exact h1.trans (setCalibrationSet_strokeStep _ _ _)
  · exact h1

/-- All that one sample handed on for a seat leaves alone (R9, R93, R98). -/
theorem handleSample_strokeStep (seat : Fin 72) (src : ErrorSource) (p : Part) (s : Sample) :
    StrokeStep p (handleSample seat src p s) := by
  unfold handleSample
  split
  · exact contactSample_strokeStep seat s src p
  · exact liftSample_strokeStep seat s p

end Sys2Proof.Machine
end

section
/-! SUPPORT. The two copies of the tables: which operations leave them, and what the others make of them (chapters 1
to 3). -/

namespace Sys2Proof.Machine

/-! ### A request given as a command -/

/-! ### Operations that leave the tables -/

/-- Both copies, staging control and the clock stand. -/
structure TablesStand (p q : Part) : Prop where
  active : q.active = p.active
  staged : q.staged = p.staged
  staging : q.staging = p.staging
  tick : q.tick = p.tick

theorem TablesStand.refl (p : Part) : TablesStand p p := ⟨rfl, rfl, rfl, rfl⟩

theorem TablesStand.trans {p q r : Part} (h1 : TablesStand p q) (h2 : TablesStand q r) :
    TablesStand p r :=
  ⟨h2.active.trans h1.active, h2.staged.trans h1.staged, h2.staging.trans h1.staging,
    h2.tick.trans h1.tick⟩

/-- The copies stood when an operation began that leaves them. -/
theorem TablesStand.after {p q r : Part} (h : TablesStand q r) (ha : q.active = p.active)
    (hs : q.staged = p.staged) (hg : q.staging = p.staging) (ht : q.tick = p.tick) :
    TablesStand p r := .trans ⟨ha, hs, hg, ht⟩ h

theorem StrokeStep.tablesStand {p q : Part} (h : StrokeStep p q) : TablesStand p q :=
  ⟨h.active, h.staged, h.staging, h.tick⟩

theorem raise_tablesStand (k : ErrorKind) (src : ErrorSource) (p : Part) :
    TablesStand p (raise k src p) := (raise_inkStep k src p).strokeStep.tablesStand

theorem joinIfRoom_strokeStep (r : InkRecord) (p : Part) (d : Dest) :
    StrokeStep p (joinIfRoom r p d) := by
  unfold joinIfRoom
  split
  · obtain ⟨o, h⟩ := joinInk_eq d r none p
    rw [h]
    exact .of_blocks rfl
  · exact .refl p

theorem sendLayerRecord_strokeStep (l : Fin 8) (ev : LayerEvent) (p : Part) :
    StrokeStep p (sendLayerRecord l ev p) :=
  .foldl (joinIfRoom_strokeStep _) _ p

theorem setLayerState_strokeStep (l : Fin 8) (st : LayerState) (p : Part) :
    StrokeStep p (p.setLayerState l st) := .of_blocks rfl

theorem clearEffects_strokeStep (l : Fin 8) (strokes : List (Fin 48)) (p : Part) :
    StrokeStep p (clearEffects l strokes p) := by
  have h1 : StrokeStep p (p.holdSlots (p.layer l).mode.dests) := .of_blocks rfl
  have h2 := h1.trans (.foldl (endStroke_strokeStep .cleared) strokes _)
  exact (h2.trans (.of_blocks rfl)).trans (sendLayerRecord_strokeStep l .cleared _)

/-- The six actions of LAYER_CONTROL and its refusals leave the tables (R118 to R124). -/
theorem ownLayerControl_tablesStand (layer action : Byte) (p : Part) :
    TablesStand p (ownLayerControl layer action p).2 := by
  have key : ∀ f : Fin 8 → Part → Answer, (∀ l, StrokeStep p (f l p).2) →
      TablesStand p (withLayer layer f p).2 := by
    intro f h
    unfold withLayer
    split
    · exact (h _).tablesStand
    · exact ⟨rfl, rfl, rfl, rfl⟩
  unfold ownLayerControl
  split
  · refine key _ fun l => ?_
    unfold layerOpen
    split
    · exact .refl p
    · simp only
      split
      · exact .refl p
      · exact (setLayerState_strokeStep l .opened p).trans (sendLayerRecord_strokeStep l .opened _)
  split
  · refine key _ fun l => ?_
    unfold layerFreeze
    split
    · exact .refl p
    · exact setLayerState_strokeStep l .frozen p
  split
  · refine key _ fun l => ?_
    unfold layerThaw
    split
    · exact .refl p
    · exact setLayerState_strokeStep l .opened p
  split
  · refine key _ fun l => ?_
    unfold layerClose
    split
    · exact .refl p
    · exact .refl p
    · exact setLayerState_strokeStep l _ p
  split
  · refine key _ fun l => ?_
    unfold layerCloseNow
    split
    · exact .refl p
    · exact (StrokeStep.foldl (endStroke_strokeStep .cancelled) _ p).trans
        (setLayerState_strokeStep l .closed _)
  split
  · refine key _ fun l => ?_
    unfold layerClear
    split
    · exact .refl p
    · simp only
      split
      · exact .refl p
      · exact (clearEffects_strokeStep l _ p).trans (.of_blocks rfl)
  · exact key _ fun l => .refl p

theorem flushRecords_strokeStep (d : Dest) (p : Part) : StrokeStep p (flushRecords d p) := by
  unfold flushRecords
  simp only
  split
  · exact .of_blocks rfl
  · exact .of_blocks rfl

theorem releaseWaiting_strokeStep (d : Dest) (p : Part) : StrokeStep p (releaseWaiting d p) := by
  have h1 : ∀ q i, StrokeStep q (releaseEnd d q i) := fun q i =>
    (EndStep.updateEnding i q (fun e => e.waitsOn.erase d) Ending.delivered).endsWith.strokeStep
  exact (StrokeStep.foldl h1 (p.queue d).waiting p).trans (.of_blocks rfl)

theorem ownFlushQueue_tablesStand (queue : Byte) (p : Part) :
    TablesStand p (ownFlushQueue queue p).2 := by
  unfold ownFlushQueue
  split
  · exact .refl p
  · next d _ =>
    have h1 : StrokeStep p (suppressAll d (flushRecords d p)) :=
      (flushRecords_strokeStep d p).trans (.of_blocks rfl)
    have h2 := h1.trans (releaseWaiting_strokeStep d _)
    have h3 := h2.trans (.foldl (fun q i => (completeIfDone_settleStep i q).strokeStep)
      (p.queue d).waiting _)
    exact (h3.trans (roomChoose_settleStep _).strokeStep).tablesStand

theorem ownUndo_tablesStand (seat : Byte) (p : Part) : TablesStand p (ownUndo seat p).2 := by
  unfold ownUndo undoSeat
  split
  · split
    · exact .refl p
    · simp only
      split
      · exact .refl p
      · exact ((StrokeStep.foldl (joinIfRoom_strokeStep _) _ p).trans (.of_blocks rfl)).tablesStand
  · exact .refl p

/-! ### What a command makes of the tables -/

/-- Soundness of both copies reads the copies alone. -/
theorem Part.TablesSound.congr {p q : Part} (h : p.TablesSound) (ha : q.active = p.active)
    (hs : q.staged = p.staged) : q.TablesSound := by
  obtain ⟨h1, h2, h3, h4⟩ := h
  constructor <;> simpa only [ha, hs]

/-- What every step makes of the two copies: soundness is kept; the copy in force changes whole, at a mark
(`mark`) that applies a commit or at a reset; and the staged copy stands while a commit is pending, a reset
apart. -/
structure TableStep (mark : Prop) (p q : Part) : Prop where
  sound : p.TablesSound → q.TablesSound
  active : q.active ≠ p.active → (q.active = p.staged ∧ p.applies ∧ mark) ∨
    q.active = resetTables ∧ q.staged = resetTables ∧ q.tick = 0
  staged : p.staging.pending = true →
    q.staged = p.staged ∨ q.staged = resetTables ∧ q.tick = 0

namespace TableStep

/-- The copies stand. -/
theorem of_same {mark : Prop} {p q : Part} (ha : q.active = p.active) (hs : q.staged = p.staged) :
    TableStep mark p q :=
  ⟨fun h => h.congr ha hs, fun h => absurd ha h, fun _ => .inl hs⟩

/-- The tables of a reset have no enabled entry, so that they are sound. -/
theorem sound_of_reset {q : Part} (ha : q.active = resetTables) (hs : q.staged = resetTables) :
    q.TablesSound := by
  have he : ∀ i, (look resetTables.identity i).enabled = false := fun i => by
    simp [resetTables, resetIdentity]
  have hd : resetTables.AddressesDistinct := fun i _ _ _ h => by simp [he i] at h
  have hc : resetTables.EnabledComplete := fun i _ h => by simp [he i] at h
  exact ⟨ha ▸ hd, hs ▸ hd, ha ▸ hc, hs ▸ hc⟩

/-- A reset. -/
theorem of_reset {mark : Prop} {p q : Part} (ha : q.active = resetTables) (hs : q.staged = resetTables)
    (ht : q.tick = 0) : TableStep mark p q :=
  ⟨fun _ => sound_of_reset ha hs, fun _ => .inr ⟨ha, hs, ht⟩, fun _ => .inr ⟨hs, ht⟩⟩

/-- A write of the staged copy, no commit being pending. -/
theorem of_staged {mark : Prop} {p : Part} {t : Tables} (hp : p.staging.pending = false)
    (hd : p.TablesSound → t.AddressesDistinct) (hc : p.TablesSound → t.EnabledComplete) :
    TableStep mark p { p with staged := t } :=
  ⟨fun h => ⟨h.activeDistinct, hd h, h.activeComplete, hc h⟩, fun h => absurd rfl h,
    fun h => by simp [hp] at h⟩

/-- The application of a commit at a mark. -/
theorem of_commit {p q : Part} (hp : p.applies) (ha : q.active = p.staged) (hs : q.staged = p.staged) :
    TableStep True p q :=
  ⟨fun h => ⟨ha ▸ h.stagedDistinct, hs ▸ h.stagedDistinct, ha ▸ h.stagedComplete,
    hs ▸ h.stagedComplete⟩, fun _ => .inl ⟨ha, hp, trivial⟩, fun _ => .inl hs⟩

theorem mono {m m' : Prop} {p q : Part} (h : TableStep m p q) (hm : m → m') : TableStep m' p q :=
  ⟨h.sound, fun ha => (h.active ha).imp_left fun ⟨a, b, c⟩ => ⟨a, b, hm c⟩, h.staged⟩

/-- What follows leaves the tables. -/
theorem trans_stand {m : Prop} {p q r : Part} (h1 : TableStep m p q) (h2 : TablesStand q r) :
    TableStep m p r := by
  refine ⟨fun h => (h1.sound h).congr h2.active h2.staged, ?_, ?_⟩
  · rw [h2.active, h2.staged, h2.tick]; exact h1.active
  · rw [h2.staged, h2.tick]; exact h1.staged

/-- The copies stood when the step began. -/
theorem after {m : Prop} {p q r : Part} (h : TableStep m q r) (ha : q.active = p.active)
    (hs : q.staged = p.staged) (hg : q.staging = p.staging) : TableStep m p r := by
  obtain ⟨h1, h2, h3⟩ := h
  rw [ha, hs, Part.applies, hg] at h2
  rw [hs, hg] at h3
  exact ⟨fun h => h1 (h.congr ha hs), h2, h3⟩

end TableStep

theorem TablesStand.tableStep {mark : Prop} {p q : Part} (h : TablesStand p q) : TableStep mark p q :=
  .of_same h.active h.staged

/-! ### The staged writes (R14 to R16, R29 to R32) -/

/-- A room entry that a write gives has a window and an address in range; a board entry has neither. -/
theorem entryOf_room {seat : Fin 72} {w : IdentityWrite} {e : IdentityEntry}
    (h : entryOf? seat w = some e) (hr : isRoomSeat seat = true) :
    e.window.isSome = true ∧ ∃ a, e.address = some a ∧ 1 ≤ a.toNat ∧ a.toNat ≤ 65534 := by
  unfold entryOf? roomFields? at h
  simp only [hr, if_true, Option.bind_eq_bind, Option.bind_eq_some_iff, Option.ite_none_right_eq_some,
    Option.some.injEq] at h
  obtain ⟨en, -, role, -, cal, -, colour, -, forced, -, room, ⟨hrange, rfl⟩, rfl⟩ := h
  exact ⟨rfl, _, rfl, hrange.1, hrange.2.1⟩

/-- The staged copy keeps its enabled room addresses distinct when no other enabled room entry has the one
written (R5, R16). -/
theorem AddressesDistinct.put {t : Tables} {seat : Fin 72} {e : IdentityEntry}
    (h : t.AddressesDistinct) (hn : addressConflict t seat e = false) :
    ({ t with identity := put t.identity seat e } : Tables).AddressesDistinct := by
  have clash : isRoomSeat seat = true → e.enabled = true → ∀ j, isRoomSeat j = true → j ≠ seat →
      (look t.identity j).enabled = true → (look t.identity j).address ≠ e.address := by
    intro hr he j hj hjs hje ha
    have : addressConflict t seat e = true := by
      simp only [addressConflict, hr, he, Bool.true_and, List.any_eq_true]
      exact ⟨j, mem_indexes j, by simp [hj, hjs, hje, ha]⟩
    rw [hn] at this
    cases this
  intro i j hi hj
  simp only [look_put]
  split
  · next h1 =>
    subst h1
    split
    · next h2 => intros; exact h2.symm
    · next h2 => exact fun he hje ha => absurd ha.symm (clash hi he j hj h2 hje)
  · next h1 =>
    split
    · next h2 =>
      subst h2
      exact fun hie he ha => absurd ha (clash hj he i hi h1 hie)
    · exact h i j hi hj

theorem EnabledComplete.put {t : Tables} {seat : Fin 72} {e : IdentityEntry} (h : t.EnabledComplete)
    (he : isRoomSeat seat = true →
      e.window.isSome = true ∧ ∃ a, e.address = some a ∧ 1 ≤ a.toNat ∧ a.toNat ≤ 65534) :
    ({ t with identity := put t.identity seat e } : Tables).EnabledComplete := by
  intro i hi
  simp only [look_put]
  split
  · next h1 => subst h1; exact fun _ => he hi
  · exact h i hi

theorem ownWriteIdentity_tableStep (w : IdentityWrite) (p : Part) :
    TableStep False p (ownWriteIdentity w p).2 := by
  unfold ownWriteIdentity
  split
  · exact .of_same rfl rfl
  · next hp =>
    split
    · exact .of_same rfl rfl
    · next seat e hw =>
      split
      · exact .of_same rfl rfl
      · next hc =>
        have he : entryOf? seat w = some e := by
          unfold identityOf? at hw
          simp only [Option.bind_eq_bind, Option.bind_eq_some_iff, Option.some.injEq,
            Prod.mk.injEq] at hw
          obtain ⟨s, -, e', he, rfl, rfl⟩ := hw
          exact he
        exact .of_staged (by simpa using hp)
          (fun h => AddressesDistinct.put h.stagedDistinct (by simpa using hc))
          (fun h => EnabledComplete.put h.stagedComplete (entryOf_room he))

/-- A write of the staged copy that leaves the identity table. -/
theorem TableStep.of_rules {mark : Prop} {p : Part} {t : Tables} (hp : ¬ p.staging.pending = true)
    (ht : t.identity = p.staged.identity) : TableStep mark p { p with staged := t } := by
  refine .of_staged (by simpa using hp) (fun h => ?_) (fun h => ?_)
  · have := h.stagedDistinct
    unfold Tables.AddressesDistinct at *
    rwa [ht]
  · have := h.stagedComplete
    unfold Tables.EnabledComplete at *
    rwa [ht]

/-- The owners of the other requests on the tables (R29 to R32, R41, R45, R46). -/
theorem ownWriteRule_tableStep (w : RuleWrite) (p : Part) :
    TableStep False p (ownWriteRule w p).2 := by
  unfold ownWriteRule
  split
  · exact .of_same rfl rfl
  · next hp =>
    split
    · exact .of_same rfl rfl
    · exact .of_rules hp rfl

theorem ownSetDefaultAction_tableStep (page action : Byte) (p : Part) :
    TableStep False p (ownSetDefaultAction page action p).2 := by
  unfold ownSetDefaultAction
  split
  · exact .of_same rfl rfl
  · next hp =>
    split
    · exact .of_rules hp rfl
    · exact .of_same rfl rfl

theorem ownSelectPage_tableStep (page : Byte) (p : Part) :
    TableStep False p (ownSelectPage page p).2 := by
  unfold ownSelectPage
  split
  · exact .of_same rfl rfl
  · next hp =>
    split
    · exact .of_rules hp rfl
    · exact .of_same rfl rfl

theorem ownCommit_tableStep (skip : Byte) (p : Part) : TableStep False p (ownCommit skip p).2 := by
  unfold ownCommit
  split
  · exact .of_same rfl rfl
  · split
    · exact .of_same rfl rfl
    · exact .of_same rfl rfl

theorem ownDiscardStaged_tableStep (p : Part) : TableStep False p (ownDiscardStaged p).2 := by
  unfold ownDiscardStaged
  split
  · exact .of_same rfl rfl
  · next hp =>
    exact .of_staged (by simpa using hp) Part.TablesSound.activeDistinct
      Part.TablesSound.activeComplete

/-! ### Resets -/

theorem softReset_tableStep (p : Part) : TableStep False p (softReset p) := by
  have h := (notice_strokeStep (.restarted .soft .notLoaded) { resetBlocks .ready p with
    monitor := { (resetBlocks .ready p).monitor with
      deadline := (resetBlocks .ready p).frameDeadline } }).tablesStand
  exact .of_reset (h.active.trans rfl) (h.staged.trans rfl) (h.tick.trans rfl)

/-! ### Every request (section 10.3) -/

/-- A request that is taken makes of the tables what its owner has made of them. -/
theorem taken_tableStep {mark : Prop} {p q : Part} (body : ReplyBody) (ha : q.active = p.active)
    (hs : q.staged = p.staged) : TableStep mark p (taken body q).2 := .of_same ha hs

/-- What the owner of a request makes of the tables. -/
theorem ownerOf_tableStep (r : Request) (p : Part) : TableStep False p (ownerOf r p).2 := by
  cases r with
  | writeIdentity w => exact ownWriteIdentity_tableStep w p
  | writeRule w => exact ownWriteRule_tableStep w p
  | setDefaultAction page action => exact ownSetDefaultAction_tableStep page action p
  | selectPage page => exact ownSelectPage_tableStep page p
  | commit skip => exact ownCommit_tableStep skip p
  | cancelCommit => exact .of_same rfl rfl
  | discardStaged => exact ownDiscardStaged_tableStep p
  | layerControl layer action => exact (ownLayerControl_tablesStand layer action p).tableStep
  | flushQueue queue => exact (ownFlushQueue_tablesStand queue p).tableStep
  | undo seat => exact (ownUndo_tablesStand seat p).tableStep
  | resetPart => exact softReset_tableStep p
  | readLayers => exact .of_same rfl rfl
  | readErrors => exact .of_same rfl rfl
  | readIdentity seat copy => simp only [ownerOf, ownReadIdentity]; split <;> exact .of_same rfl rfl
  | readRule page index copy => simp only [ownerOf, ownReadRule]; split <;> exact .of_same rfl rfl
  | readMonitor clear => simp only [ownerOf, ownReadMonitor]; split <;> exact .of_same rfl rfl
  | setTiming idle frame => simp only [ownerOf, ownSetTiming]; split <;> exact .of_same rfl rfl
  | writeCalibration w =>
    simp only [ownerOf, ownWriteCalibration]
    split
    · exact .of_same rfl rfl
    · split <;> exact .of_same rfl rfl
  | readCalibration set => simp only [ownerOf, ownReadCalibration]; split <;> exact .of_same rfl rfl
  | applyBaseline sets =>
    simp only [ownerOf, ownApplyBaseline]
    split
    · exact .of_same rfl rfl
    · split
      · exact .of_same rfl rfl
      · exact taken_tableStep _ rfl rfl
  | writeWidthTable tool entries =>
    simp only [ownerOf, ownWriteWidthTable]
    split
    · exact .of_same rfl rfl
    · split <;> exact .of_same rfl rfl
  | readWidthTable tool => simp only [ownerOf, ownReadWidthTable]; split <;> exact .of_same rfl rfl
  | setCanvas width height =>
    simp only [ownerOf, ownSetCanvas]
    split
    · exact .of_same rfl rfl
    · split <;> exact .of_same rfl rfl
  | setLayerMode w =>
    simp only [ownerOf, ownSetLayerMode]
    split
    · exact .of_same rfl rfl
    · split
      · exact .of_same rfl rfl
      · split <;> exact .of_same rfl rfl
  | setQueue queue watermark policy =>
    simp only [ownerOf, ownSetQueue]; split <;> exact .of_same rfl rfl
  | setRoomPriority mode =>
    simp only [ownerOf, ownSetRoomPriority]
    split
    · exact .of_same rfl rfl
    · exact (roomChoose_settleStep _).strokeStep.tablesStand.tableStep.after rfl rfl rfl
  | readQueues clear => simp only [ownerOf, ownReadQueues]; split <;> exact .of_same rfl rfl
  | readStrokes start => simp only [ownerOf, ownReadStrokes]; split <;> exact .of_same rfl rfl
  | readCounters clear first count =>
    simp only [ownerOf, ownReadCounters]; split <;> exact .of_same rfl rfl
  | readHistory count => simp only [ownerOf, ownReadHistory]; split <;> exact .of_same rfl rfl
  | clearErrors kinds =>
    simp only [ownerOf, ownClearErrors]
    split
    · exact .of_same rfl rfl
    · exact taken_tableStep _ rfl rfl
  | setErrorMask kind mask => simp only [ownerOf, ownSetErrorMask]; split <;> exact .of_same rfl rfl
  | setErrorSeverity kind severity =>
    simp only [ownerOf, ownSetErrorSeverity]; split <;> exact .of_same rfl rfl
  | saveCalibration => simp only [ownerOf, ownSaveCalibration]; split <;> exact .of_same rfl rfl
  | restoreFactory => simp only [ownerOf, ownRestoreFactory]; split <;> exact .of_same rfl rfl

/-- What the taking of a request makes of the tables, whatever the gate and the owner do. -/
theorem takeRequest_tableStep {m : Prop} {owner : Part → Answer} (ho : ∀ p, TableStep m p (owner p).2)
    (h : RequestHead) (p : Part) : TableStep m p (takeRequest h owner p) := by
  unfold takeRequest
  split
  · exact (raise_tablesStand _ _ p).tableStep
  · split
    · exact (joinReply_strokeStep _ p).tablesStand.tableStep
    · have h1 : TableStep m p (owner (p.holdReply true)).2 :=
        (ho (p.holdReply true)).after rfl rfl rfl
      have h2 : TableStep m p ((owner (p.holdReply true)).2.holdReply false) :=
        h1.trans_stand ⟨rfl, rfl, rfl, rfl⟩
      unfold finish
      split
      · exact h2.trans_stand (joinReply_strokeStep _ _).tablesStand
      · exact h2

theorem answerBody_tableStep (kind : Byte) (body : List Byte) (agrees : Bool) (p : Part) :
    TableStep False p (answerBody kind body agrees p).2 := by
  unfold answerBody
  split
  · exact .of_same rfl rfl
  · split
    · exact .of_same rfl rfl
    · split
      · exact .of_same rfl rfl
      · next r _ => exact ownerOf_tableStep r p

/-! ### Marks (R37 to R44) -/

theorem applyCommit_tables (mark : Byte) (substitute : Bool) (p : Part) :
    (applyCommit mark substitute p).active = p.staged ∧
      (applyCommit mark substitute p).staged = p.staged := by
  set p1 : Part := { p with active := p.staged, staging := ⟨false, 0⟩ }
  set ended := (p1.openEntries fun c => revokes p.active p1.active c.seat).foldl (endStroke .revoked) p1
  have he : StrokeStep p1 ended := .foldl (endStroke_strokeStep .revoked) _ p1
  have hn := notice_strokeStep (.committed mark substitute)
    { ended with seats := adjustSeats p.active ended.active ended.seats }
  exact ⟨hn.active.trans he.active, hn.staged.trans he.staged⟩

theorem flushPoints_tablesStand (p : Part) : TablesStand p (flushPoints p) :=
  (flushPoints_inkStep p).strokeStep.tablesStand

theorem markEffects_tableStep (mark : Byte) (substitute : Bool) (p : Part) :
    TableStep True p (markEffects mark substitute p) := by
  unfold markEffects
  split
  · next ha =>
    simp only
    split
    · obtain ⟨h1, h2⟩ := applyCommit_tables mark substitute { p with freeDraws := p.freeDraws + 1 }
      exact (TableStep.of_commit ha h1 h2).trans_stand (flushPoints_tablesStand _)
    · obtain ⟨h1, h2⟩ := applyCommit_tables mark substitute
        (flushPoints { p with freeDraws := p.freeDraws + 1 })
      have hf := flushPoints_tablesStand { p with freeDraws := p.freeDraws + 1 }
      rw [hf.staged] at h1 h2
      exact .of_commit ha h1 h2
  · have hs : TableStep True p (stepCountdown p) := by
      unfold stepCountdown
      split <;> exact .of_same rfl rfl
    exact hs.trans_stand (flushPoints_tablesStand _)

theorem realMark_tableStep (number : Byte) (p : Part) : TableStep True p (realMark number p) := by
  unfold realMark
  exact (markEffects_tableStep number false _).after rfl rfl rfl

theorem loseMark_tablesStand (p : Part) : TablesStand p (loseMark p) := by
  unfold loseMark
  split
  · exact (raise_tablesStand _ _ _).after rfl rfl rfl rfl
  · exact .refl p

theorem substituteMark_tableStep (p : Part) : TableStep True p (substituteMark p) := by
  have h := loseMark_tablesStand p
  unfold substituteMark
  exact (markEffects_tableStep 0 true _).after h.active h.staged h.staging

theorem grantCredit_tablesStand (count : Byte) (p : Part) : TablesStand p (grantCredit count p) := by
  unfold grantCredit
  simp only
  split
  · exact (raise_tablesStand _ _ _).after rfl rfl rfl rfl
  · exact ⟨rfl, rfl, rfl, rfl⟩

/-- A frame that is neither a mark nor a grant (R147). -/
theorem displayForm_other {frame : List Byte} (h : isMarkOrGrant frame = false) :
    displayForm frame = .other := by
  unfold displayForm
  split
  · next kind value c0 c1 =>
    simp only [isMarkOrGrant, Bool.or_eq_false_iff, decide_eq_false_iff_not] at h
    rw [if_neg h.1, if_neg h.2]
  · rfl

/-- What a frame on the display link makes of the tables; only a mark may apply a commit. -/
theorem takeDisplayFrame_tableStep (frame : List Byte) (p : Part) :
    TableStep (∃ n, displayForm frame = .mark n) p (takeDisplayFrame frame p) := by
  unfold takeDisplayFrame
  split
  · split
    · next n hf =>
      split
      · exact .of_same rfl rfl
      · exact (realMark_tableStep n p).mono fun _ => ⟨n, hf⟩
    · exact (grantCredit_tablesStand _ p).tableStep
    · split
      · exact .of_same rfl rfl
      · exact (raise_tablesStand _ _ p).tableStep
  · split
    · exact .of_same rfl rfl
    · exact (raise_tablesStand _ _ p).tableStep

/-! ### The receivers -/

theorem countLink_tablesStand (port : Port) (f : LinkCounters → LinkCounters) (p : Part) :
    TablesStand p (p.countLink port f) := by cases port <;> exact ⟨rfl, rfl, rfl, rfl⟩

theorem gapStroke_tablesStand (seat : Fin 72) (p : Part) : TablesStand p (gapStroke seat p) := by
  unfold gapStroke
  split
  · split <;> exact ⟨rfl, rfl, rfl, rfl⟩
  · exact .refl p

theorem checkSequence_tablesStand (seat : Fin 72) (seq : Byte) (src : ErrorSource) (p : Part) :
    TablesStand p (checkSequence seat seq src p) := by
  unfold checkSequence
  simp only
  split
  · exact ⟨rfl, rfl, rfl, rfl⟩
  · split
    · exact ⟨rfl, rfl, rfl, rfl⟩
    · exact ((raise_tablesStand _ _ _).trans (gapStroke_tablesStand seat _)).after rfl rfl rfl rfl

theorem armQuiet_tablesStand (seat : Fin 72) (p : Part) : TablesStand p (armQuiet seat p) :=
  ⟨rfl, rfl, rfl, rfl⟩

theorem takeInk_tablesStand (port : Port) (seat : Fin 72) (seq : Byte) (samples : List Sample)
    (src : ErrorSource) (p : Part) : TablesStand p (takeInk port seat seq samples src p) := by
  refine TablesStand.trans ?_ (StrokeStep.foldl (handleSample_strokeStep seat src) samples _).tablesStand
  refine (countLink_tablesStand port (fun c => { c with inkTaken := bump c.inkTaken }) p).trans ?_
  refine TablesStand.trans ?_ (armQuiet_tablesStand seat _)
  exact (checkSequence_tablesStand seat seq src _).after rfl rfl rfl rfl

/-- What a frame on the board link or the room link makes of the tables (R1 to R7, R165). -/
theorem receive_tableStep (port : Port) (frame : List Byte) (p : Part) :
    TableStep False p (receive port frame p) := by
  have hdrop : ∀ kind count, TableStep False p (dropFrame port kind frame count p) := fun kind count =>
    ((countLink_tablesStand port count p).trans (raise_tablesStand kind _ _)).tableStep
  unfold receive
  split
  · split
    · exact .of_same rfl rfl
    · exact hdrop _ _
  · split
    · split
      · exact .of_same rfl rfl
      · exact hdrop _ _
    · split
      · exact takeRequest_tableStep (answerBody_tableStep _ _ _) _ p
      · unfold misplaced
        split
        · exact .of_same rfl rfl
        · exact (raise_tablesStand _ _ p).tableStep
    · split
      · exact .of_same rfl rfl
      · unfold takeInkFrame
        split
        · exact (takeInk_tablesStand _ _ _ _ _ p).tableStep
        · exact ((countLink_tablesStand port _ p).trans (raise_tablesStand _ _ _)).tableStep

/-! ### Every command -/

theorem event_tableStep {m : Prop} {f : Part → Part} {p q : Part} {rest : List Instr}
    (hf : TableStep m p (f p)) (h : event f ⟨p, rest⟩ = .next ⟨q, rest⟩) : TableStep m p q := by
  cases hr : p.inReset
  · rw [event_next rest hr] at h
    cases h
    exact hf.trans_stand (settle_strokeStep _).tablesStand
  · rw [event_held rest hr] at h
    cases h
    exact .of_same rfl rfl

theorem bridgeAccept_tablesStand (p : Part) : TablesStand p (bridgeAccept p) := by
  have hchoose := fun q => (roomChoose_settleStep q).strokeStep.tablesStand
  unfold bridgeAccept
  split
  · exact .refl p
  · have h : TablesStand p (acceptReply p) := by
      unfold acceptReply
      split <;> exact ⟨rfl, rfl, rfl, rfl⟩
    exact (hchoose _).after h.active h.staged h.staging h.tick
  · have h := (depart_settleStep .fanout .room fanoutFrame p).strokeStep.tablesStand
    exact (hchoose _).after h.active h.staged h.staging h.tick

theorem quietExpire_tablesStand (seat : Fin 72) (p : Part) : TablesStand p (quietExpire seat p) := by
  have h := fun q => (endSeatStroke_strokeStep seat .abandoned q).trans (clearLockout_strokeStep seat _)
  exact (h _).tablesStand.after rfl rfl rfl rfl

theorem saveComplete_tablesStand (success : Bool) (p : Part) :
    TablesStand p (saveComplete success p) := by
  unfold saveComplete
  split
  · exact .refl p
  · simp only
    split
    · exact (notice_strokeStep _ _).tablesStand.after rfl rfl rfl rfl
    · exact ((notice_strokeStep _ _).tablesStand.trans (raise_tablesStand _ _ _)).after
        rfl rfl rfl rfl

theorem loadComplete_tablesStand (p : Part) : TablesStand p (loadComplete p) := by
  unfold loadComplete
  split
  · unfold finishLoad
    simp only
    split
    · exact (notice_strokeStep _ _).tablesStand.after rfl rfl rfl rfl
    · exact ((notice_strokeStep _ _).tablesStand.trans (raise_tablesStand _ _ _)).after
        rfl rfl rfl rfl
  · exact .refl p

/-- Whether a command is one of the two marks. -/
def Instr.IsMark (c : Instr) : Prop := c = .substituteMark ∨ ∃ number code, c = .frameMark number code

/-- What a command makes of the tables. -/
theorem exec_tableStep {c : Instr} {p q : Part} {rest : List Instr} (hw : c.wellFormed = true)
    (h : exec c ⟨p, rest⟩ = .next ⟨q, rest⟩) : TableStep (Instr.IsMark c) p q := by
  cases hc : c.request? with
  | some x =>
    obtain ⟨req, r⟩ := x
    rw [exec_request hc] at h
    exact (event_tableStep (takeRequest_tableStep (ownerOf_tableStep r) _ p) h).mono False.elim
  | none =>
    cases c with
    | powerOnReset => cases h; exact .of_reset rfl rfl rfl
    | resetnLow =>
      cases h
      unfold pinLow
      split
      · exact .of_same rfl rfl
      · exact .of_reset rfl rfl rfl
    | resetEnd =>
      cases h
      refine TableStep.trans_stand ?_ (settle_strokeStep _).tablesStand
      unfold resetEnds
      split
      · exact .of_reset rfl rfl rfl
      · exact .of_same rfl rfl
    | loadComplete => exact event_tableStep (loadComplete_tablesStand p).tableStep h
    | boardLinkFrame frame =>
      exact (event_tableStep (receive_tableStep .board frame p) h).mono False.elim
    | roomLinkFrame frame =>
      exact (event_tableStep (receive_tableStep .room frame p) h).mono False.elim
    | quietExpiry seat =>
      refine event_tableStep ?_ h
      split
      · exact (quietExpire_tablesStand seat p).tableStep
      · exact .of_same rfl rfl
    | frameMark number code =>
      exact (event_tableStep (takeDisplayFrame_tableStep _ p) h).mono
        fun _ => .inr ⟨number, code, rfl⟩
    | substituteMark =>
      refine event_tableStep ?_ h
      split
      · exact (substituteMark_tableStep p).mono fun _ => .inl rfl
      · exact .of_same rfl rfl
    | creditGrant count code =>
      refine (event_tableStep (takeDisplayFrame_tableStep _ p) h).mono ?_
      rintro ⟨n, hn⟩
      cases hn
    | displayFrameDiscard frame =>
      refine (event_tableStep (takeDisplayFrame_tableStep _ p) h).mono ?_
      rintro ⟨n, hn⟩
      rw [displayForm_other (by simpa [Instr.wellFormed] using hw)] at hn
      cases hn
    | displayTransmitEnd =>
      exact event_tableStep (f := fun p => { p with egress := { p.egress with displayBusy := false } })
        (.of_same rfl rfl) h
    | recordReadyChange asserted =>
      cases h
      exact (settle_strokeStep _).tablesStand.tableStep.after rfl rfl rfl
    | recordTransmitEnd =>
      exact event_tableStep (f := fun p => { p with egress := { p.egress with recordBusy := false } })
        (.of_same rfl rfl) h
    | bridgeReadyChange ready =>
      cases h
      exact (settle_strokeStep _).tablesStand.tableStep.after rfl rfl rfl
    | bridgeAccept => exact event_tableStep (bridgeAccept_tablesStand p).tableStep h
    | saveComplete success => exact event_tableStep (saveComplete_tablesStand success p).tableStep h
    | unknownRequest req kind body =>
      exact (event_tableStep (takeRequest_tableStep (answerBody_tableStep _ _ _) _ p) h).mono
        False.elim
    | _ => cases hc

/-- Settles O58: `exec_tableStep`, by the cases of the command. -/
theorem tablesChangeWholeAtAnApplyingMark : Obligations.TablesChangeWholeAtAnApplyingMark := by
  intro c p q rest hw h
  obtain ⟨h1, h2, h3⟩ := exec_tableStep hw h
  exact ⟨h1, h2, h3⟩

end Sys2Proof.Machine
end

section
/-! SUPPORT. Frames: the link check code (R1), the header's fields and the form check (R2, R175), and what a frame on
the room link that carries a request does (R165 to R168). -/

namespace Sys2Proof.Machine

/-! ### The check code of a frame (R1) -/

theorem length_be16 (h : Half) : (be16 h).length = 2 := rfl

/-- A frame closed by its code passes. -/
theorem codeMatches_sealFrame (bytes : List Byte) : codeMatches (sealFrame bytes) = true := by
  simp [codeMatches, sealFrame, length_be16]

/-- A frame passes exactly when its last two bytes are the code of those before them. -/
theorem codeMatches_iff (frame : List Byte) :
    codeMatches frame = true ↔ ∃ (bytes : List Byte) (hi lo : Byte),
      frame = bytes ++ [hi, lo] ∧ crc bytes = hi ++ lo := by
  constructor
  · intro h
    simp only [codeMatches, Bool.and_eq_true, decide_eq_true_eq] at h
    obtain ⟨-, hd⟩ := h
    refine ⟨frame.take (frame.length - 2), _, _, ?_, (read16_be16 _).symm⟩
    conv_lhs => rw [← List.take_append_drop (frame.length - 2) frame, hd]
    rfl
  · rintro ⟨bytes, hi, lo, rfl, hc⟩
    have : sealFrame bytes = bytes ++ [hi, lo] := by
      rw [sealFrame, hc, show hi ++ lo = read16 hi lo from rfl, be16_read16]
    rw [← this]
    exact codeMatches_sealFrame bytes

/-! ### The header (R175) -/

/-- A frame with the layout of R175: kind, channel byte, address, two bytes by kind, length field and body,
closed by its code. -/
def framed (kind channel : Byte) (address : Half) (b4 b5 : Byte) (len : Nat) (body : List Byte) :
    List Byte :=
  sealFrame ([kind, channel] ++ be16 address ++ [b4, b5] ++ halfBytes len ++ body)

section
variable (kind channel : Byte) (address : Half) (b4 b5 : Byte) (len : Nat) (body : List Byte)

theorem codeMatches_framed : codeMatches (framed kind channel address b4 b5 len body) = true :=
  codeMatches_sealFrame _

theorem length_framed : (framed kind channel address b4 b5 len body).length = body.length + 10 := by
  simp only [framed, sealFrame, halfBytes, List.length_append, length_be16, List.length_cons,
    List.length_nil]
  omega

theorem kind_framed : byteAt (framed kind channel address b4 b5 len body) 0 = kind := rfl

theorem channelOf_framed :
    channelOf (framed kind channel address b4 b5 len body) = channel.toNat % 16 := rfl

theorem addressOf_framed : addressOf (framed kind channel address b4 b5 len body) = address :=
  read16_be16 address

theorem byte4_framed : byteAt (framed kind channel address b4 b5 len body) 4 = b4 := rfl

theorem byte5_framed : byteAt (framed kind channel address b4 b5 len body) 5 = b5 := rfl

theorem lengthField_framed (h : len < 65536) :
    lengthField (framed kind channel address b4 b5 len body) = len := by
  have : halfAt (framed kind channel address b4 b5 len body) 6 = BitVec.ofNat 16 len := read16_be16 _
  rw [lengthField, this, BitVec.toNat_ofNat, Nat.mod_eq_of_lt h]

theorem take_framed : (framed kind channel address b4 b5 len body).take 8 =
    [kind, channel] ++ be16 address ++ [b4, b5] ++ halfBytes len := rfl

theorem drop_framed : (framed kind channel address b4 b5 len body).drop 8 =
    body ++ be16 (crc ([kind, channel] ++ be16 address ++ [b4, b5] ++ halfBytes len ++ body)) := by
  simp [framed, sealFrame, halfBytes, be16]

theorem frameBody_framed : frameBody (framed kind channel address b4 b5 len body) = body := by
  rw [frameBody, drop_framed, length_framed, Nat.add_sub_cancel, List.take_left']
  rfl

end

/-! ### The frame of a request (R165 to R168) -/

/-- The answer to a request whose owner gives a status and a body, on whatever way it came. -/
theorem event_answered {p q : Part} (h : p.takes) (hd : RequestHead) {owner : Part → Answer}
    {status : Status} {body : ReplyBody} (rest : List Instr)
    (ho : owner (p.holdReply true) = (some (status, body), q)) :
    event (takeRequest hd owner) ⟨p, rest⟩ =
      .next ⟨answered ⟨hd.address, hd.tag⟩ hd.kind status body q, rest⟩ := by
  rw [event_next rest (inReset_of_ready h.1), takeRequest_takes h, ho]
  rfl

/-- A management frame on channel 0 of the room link goes to the agent (R165). -/
theorem receive_management {frame : List Byte} (hc : codeMatches frame = true) (hl : 10 ≤ frame.length)
    (hk : byteAt frame 0 = 0x02) (hch : channelOf frame = 0) (p : Part) :
    receive .room frame p = takeManagement frame p := by
  have hf : formOf frame = .management := by
    rw [formOf, if_neg (by omega), if_neg (by rw [hk]; decide), if_pos hk]
  simp [receive, hc, hf, accepted, hch]

/-- A request's frame is taken as the request of its kind and body would be. -/
theorem receive_request_frame (req : Requester) (kind : Byte) (body : List Byte)
    (hb : body.length + 10 < 65536) (p : Part) :
    receive .room (sealFrame (managementHeader req kind body ++ body)) p =
      takeRequest (headOf req kind body) (answerBody kind body true) p := by
  have he : sealFrame (managementHeader req kind body ++ body) =
      framed 0x02 0 req.address kind req.tag (body.length + 10) body := rfl
  rw [he, receive_management (codeMatches_framed ..) (by rw [length_framed]; omega) (kind_framed ..)
    (channelOf_framed ..), takeManagement, byte4_framed, frameBody_framed, lengthField_framed _ _ _ _ _ _ _ hb,
    length_framed, decide_eq_true rfl]
  congr 1
  rw [frameHead, addressOf_framed, byte4_framed, byte5_framed, headerOf, take_framed]
  rfl

theorem inCatalogue_code (r : Request) : inCatalogue r.code = true := by cases r <;> rfl

/-- A body that can be framed fits the frame length field. -/
theorem length_body_of_framable {r : Request} (h : r.framable = true) :
    r.body.length + 10 < 65536 := by
  cases r
  case applyBaseline sets =>
    have : sets.length < 256 := by simpa [Request.framable] using h
    simp only [Request.body, List.length_cons]
    omega
  case clearErrors kinds =>
    have : kinds.length < 256 := by simpa [Request.framable] using h
    simp only [Request.body, List.length_cons]
    omega
  all_goals simp [Request.body, length_be16]

/-- A request's body is passed to the request's owner (R168). -/
theorem answerBody_request {r : Request} (h : r.framable = true) :
    answerBody r.code r.body true = ownerOf r := by
  funext p
  simp [answerBody, inCatalogue_code, decodeRequest_body r h]

/-- A request's frame on the room link does what the request does (R165 to R168). -/
theorem exec_request_frame {r : Request} (h : r.framable = true) (req : Requester) (s : State) :
    exec (.roomLinkFrame (requestFrame req r)) s = request req r (ownerOf r) s := by
  show event (receive .room (requestFrame req r)) s = _
  have : receive .room (requestFrame req r) = takeRequest (headOf req r.code r.body) (ownerOf r) := by
    funext p
    rw [requestFrame, receive_request_frame req r.code r.body (length_body_of_framable h),
      answerBody_request h]
  rw [this]
  rfl

/-- Settles O10: a request's frame and its command pass the same head and owner to the agent. -/
theorem requestFrameActsAsItsCommand : Obligations.RequestFrameActsAsItsCommand := by
  refine ⟨?_, ?_⟩
  · intro c req r p rest hc hf
    rw [exec_request_frame hf, exec_request hc]
  · intro req kind body p rest hw
    simp only [Instr.wellFormed, Bool.and_eq_true, Bool.not_eq_true', fitsFrame,
      decide_eq_true_eq] at hw
    obtain ⟨hk, hb⟩ := hw
    refine ⟨?_, fun ht => ?_⟩
    · show event (receive .room _) _ = event _ _
      congr 1
      funext q
      exact receive_request_frame req kind body hb q
    · exact event_answered (q := p.holdReply true) ht (headOf req kind body) rest
        (by simp [answerBody, hk, refuse])

end Sys2Proof.Machine
end

section
/-! SUPPORT. Which bytes encode no value (R177), the samples of an ink frame (R2, R175), and the link check code as a
polynomial remainder (R1). -/

namespace Sys2Proof.Machine

/-! ### Fields outside their range (R177) -/

theorem finOf_eq_none {n : Nat} {b : Byte} : finOf? n b = none ↔ n ≤ b.toNat := by
  simp [finOf?]

theorem finOf_eq_some {n : Nat} {b : Byte} {i : Fin n} : finOf? n b = some i ↔ b.toNat = i.val := by
  unfold finOf?
  split
  · simp [Fin.ext_iff]
  · next h => simp only [reduceCtorEq, false_iff]; omega

theorem flagOf_eq_none {b : Byte} : flagOf? b = none ↔ 1 < b.toNat := by
  unfold flagOf?
  split_ifs <;> simp <;> bv_omega

theorem Tool_of_eq_none {b : Byte} : Tool.of? b = none ↔ 3 < b.toNat := by
  unfold Tool.of?
  split_ifs <;> simp <;> bv_omega

theorem Role_of_eq_none {b : Byte} : Role.of? b = none ↔ 2 < b.toNat := by
  unfold Role.of?
  split_ifs <;> simp <;> bv_omega

theorem Dest_of_eq_none {b : Byte} : Dest.of? b = none ↔ 2 < b.toNat := by
  unfold Dest.of?
  split_ifs <;> simp <;> bv_omega

theorem Copy_of_eq_none {b : Byte} : Copy.of? b = none ↔ 1 < b.toNat := by
  unfold Copy.of?
  split_ifs <;> simp <;> bv_omega

theorem Action_of_eq_none {b : Byte} : Action.of? b = none ↔ 3 < b.toNat := by
  unfold Action.of?
  split_ifs <;> simp <;> bv_omega

theorem DefaultAction_of_eq_none {b : Byte} :
    DefaultAction.of? b = none ↔ b.toNat ≠ 0 ∧ b.toNat ≠ 3 := by
  unfold DefaultAction.of?
  split_ifs <;> simp <;> bv_omega

theorem PointOrder_of_eq_none {b : Byte} : PointOrder.of? b = none ↔ 1 < b.toNat := by
  unfold PointOrder.of?
  split_ifs <;> simp <;> bv_omega

theorem Policy_of_eq_none {b : Byte} : Policy.of? b = none ↔ 1 < b.toNat := by
  unfold Policy.of?
  split_ifs <;> simp <;> bv_omega

theorem Priority_of_eq_none {b : Byte} : Priority.of? b = none ↔ 1 < b.toNat := by
  unfold Priority.of?
  split_ifs <;> simp <;> bv_omega

theorem DestSet_of_eq_none {b : Byte} : DestSet.of? b = none ↔ 7 < b.toNat := by
  simp [DestSet.of?]; omega

theorem RoleSet_of_eq_none {b : Byte} : RoleSet.of? b = none ↔ 7 < b.toNat := by
  simp [RoleSet.of?]; omega

theorem ToolSet_of_eq_none {b : Byte} : ToolSet.of? b = none ↔ 15 < b.toNat := by
  simp [ToolSet.of?]; omega

/-! ### Samples (R2, R175) -/

/-- A sample's field is out of its range (R2, R175), the sample standing at an offset of some bytes. -/
def BadSample (bytes : List Byte) (o : Nat) : Prop :=
  4095 < (halfAt bytes (o + 4)).toNat ∨ 3 < (byteAt bytes (o + 6)).toNat ∨
    31 < (byteAt bytes (o + 8)).toNat ∨ 7 < (byteAt bytes (o + 9)).toNat

theorem byteAt_drop (bytes : List Byte) (n i : Nat) : byteAt (bytes.drop n) i = byteAt bytes (n + i) := by
  simp [byteAt, List.getD_eq_getElem?_getD, List.getElem?_drop]

theorem byteAt_take {bytes : List Byte} {n i : Nat} (h : i < n) :
    byteAt (bytes.take n) i = byteAt bytes i := by
  simp [byteAt, List.getD_eq_getElem?_getD, h]

theorem badSample_drop (bytes : List Byte) (n o : Nat) :
    BadSample (bytes.drop n) o ↔ BadSample bytes (n + o) := by
  simp [BadSample, halfAt, byteAt_drop, Nat.add_assoc]

theorem badSample_take (bytes : List Byte) : BadSample (bytes.take 10) 0 ↔ BadSample bytes 0 := by
  simp [BadSample, halfAt, byteAt_take]

/-- Ten bytes are no sample exactly when a field is out of its range. -/
theorem readSample_eq_none {bytes : List Byte} (h : bytes.length = 10) :
    readSample bytes = none ↔ BadSample bytes 0 := by
  match bytes, h with
  | [x1, x0, y1, y0, p1, p0, tool, indications, colour, layer], _ =>
    show _ ↔ 4095 < (read16 p1 p0).toNat ∨ 3 < tool.toNat ∨ 31 < colour.toNat ∨ 7 < layer.toNat
    rw [← Tool_of_eq_none, show 31 < colour.toNat ↔ finOf? 32 colour = none from finOf_eq_none.symm,
      show 7 < layer.toNat ↔ finOf? 8 layer = none from finOf_eq_none.symm]
    simp only [readSample]
    cases Tool.of? tool <;> cases finOf? 32 colour <;> cases finOf? 8 layer <;> simp

/-- A run of samples is malformed exactly when one of its samples is. -/
theorem readSamples_eq_none {n : Nat} {bytes : List Byte} (h : 10 * n ≤ bytes.length) :
    readSamples n bytes = none ↔ ∃ k < n, BadSample bytes (10 * k) := by
  induction n generalizing bytes with
  | zero => simp [readSamples]
  | succ n ih =>
    have h10 : (bytes.take 10).length = 10 := by rw [List.length_take]; omega
    have hd : 10 * n ≤ (bytes.drop 10).length := by rw [List.length_drop]; omega
    have hsplit : (∃ k < n + 1, BadSample bytes (10 * k)) ↔
        BadSample bytes 0 ∨ ∃ k < n, BadSample (bytes.drop 10) (10 * k) := by
      simp only [badSample_drop]
      rw [Nat.exists_lt_succ_left]
      simp [Nat.mul_add, Nat.add_comm]
    rw [hsplit, ← ih hd, ← badSample_take, ← readSample_eq_none h10, readSamples]
    cases readSample (bytes.take 10) <;> cases readSamples n (bytes.drop 10) <;> simp

/-- The fields of sample `k` of an ink frame stand at these offsets (R175). -/
theorem badSample_frame (frame : List Byte) (k : Nat) : BadSample frame (8 + 10 * k) ↔
    4095 < (halfAt frame (12 + 10 * k)).toNat ∨ 3 < (byteAt frame (14 + 10 * k)).toNat ∨
      31 < (byteAt frame (16 + 10 * k)).toNat ∨ 7 < (byteAt frame (17 + 10 * k)).toNat := by
  rw [BadSample, show 8 + 10 * k + 4 = 12 + 10 * k by omega, show 8 + 10 * k + 6 = 14 + 10 * k by omega,
    show 8 + 10 * k + 8 = 16 + 10 * k by omega, show 8 + 10 * k + 9 = 17 + 10 * k by omega]

/-- Settles O14, by the branches of the form check. -/
theorem formCheckRefusesExactlyTheMalformed : Obligations.FormCheckRefusesExactlyTheMalformed := by
  intro frame
  simp only [← badSample_frame]
  rw [formOf]
  by_cases hlen : frame.length < 10
  · simp [hlen]
  rw [if_neg hlen]
  by_cases hk : byteAt frame 0 = 0x01
  · rw [if_pos hk]
    set n := (byteAt frame 5).toNat
    by_cases hc : 1 ≤ n ∧ n ≤ 8 ∧ frame.length = 10 + 10 * n ∧ lengthField frame = 10 + 10 * n
    · obtain ⟨h1, h8, hl, hf⟩ := hc
      rw [if_pos ⟨h1, h8, hl, hf⟩]
      have hr := readSamples_eq_none (n := n) (bytes := frame.drop 8) (by rw [List.length_drop]; omega)
      simp only [badSample_drop] at hr
      rw [lengthField] at hf
      cases hs : readSamples n (frame.drop 8) with
      | none => exact iff_of_true rfl (.inr (.inr ⟨hk, .inr (.inr (.inr (.inr (hr.1 hs))))⟩))
      | some l =>
        refine iff_of_false (by simp) ?_
        rintro (h | ⟨h, -⟩ | ⟨-, h | h | h | h | h⟩)
        · exact hlen h
        · exact h hk
        · omega
        · omega
        · exact h hl
        · exact h hf
        · rw [hr.2 h] at hs
          cases hs
    · rw [if_neg hc]
      refine iff_of_true rfl (.inr (.inr ⟨hk, ?_⟩))
      rw [lengthField] at hc
      by_contra hno
      push Not at hno
      exact hc ⟨hno.1, hno.2.1, hno.2.2.1, hno.2.2.2.1⟩
  · rw [if_neg hk]
    by_cases hk2 : byteAt frame 0 = 0x02
    · rw [if_pos hk2]
      refine iff_of_false (by simp) ?_
      rintro (h | ⟨-, h⟩ | ⟨h, -⟩)
      · exact hlen h
      · exact h hk2
      · exact hk h
    · rw [if_neg hk2]
      exact iff_of_true rfl (.inr (.inl ⟨hk, hk2⟩))

/-! ### An ink frame is read back (R175) -/

theorem readSample_bytes {s : Sample} (h : s.fits = true) : readSample s.bytes = some s := by
  obtain ⟨rawX, rawY, pressure, tool, contact, hover, colour, layer⟩ := s
  simp only [Sample.fits, Bool.and_eq_true, decide_eq_true_eq] at h
  obtain ⟨⟨hx, hy⟩, hp⟩ := h
  have hflags : ∀ c o : Bool, (flagByte c ||| (flagByte o <<< 1)).getLsbD 0 = c ∧
      (flagByte c ||| (flagByte o <<< 1)).getLsbD 1 = o := by decide
  have hb := (hflags contact hover)
  simp only [Sample.bytes, halfBytes, be16, List.cons_append, List.nil_append, readSample, read16_be16,
    Tool.of_code, finOf_byteOf 32 (by omega), finOf_byteOf 8 (by omega), hb.1, hb.2,
    BitVec.toNat_ofNat, Nat.mod_eq_of_lt hx, Nat.mod_eq_of_lt hy,
    Nat.mod_eq_of_lt (show pressure < 2 ^ 16 by omega), if_pos hp]

theorem length_sample_bytes (s : Sample) : s.bytes.length = 10 := rfl

theorem readSamples_bytes {l : List Sample} (h : ∀ x ∈ l, x.fits = true) (rest : List Byte) :
    readSamples l.length (l.flatMap Sample.bytes ++ rest) = some l := by
  induction l with
  | nil => rfl
  | cons s t ih =>
    have hs := readSample_bytes (h s List.mem_cons_self)
    have ht := ih fun x hx => h x (List.mem_cons_of_mem s hx)
    have he : (s :: t).flatMap Sample.bytes ++ rest = s.bytes ++ (t.flatMap Sample.bytes ++ rest) := by
      simp
    rw [he, List.length_cons, readSamples, List.take_left' (length_sample_bytes s),
      List.drop_left' (length_sample_bytes s), hs, ht]

theorem length_samples (l : List Sample) : (l.flatMap Sample.bytes).length = 10 * l.length := by
  induction l with
  | nil => rfl
  | cons s t ih => simp [ih, length_sample_bytes]; omega

section
variable (channel : Byte) (source : Half) (seq : Byte) (samples : List Sample)

theorem inkFrame_eq : inkFrame channel source seq samples =
    framed 0x01 channel source seq (byteOf samples.length) (10 + 10 * samples.length)
      (samples.flatMap Sample.bytes) := rfl

theorem codeMatches_inkFrame : codeMatches (inkFrame channel source seq samples) = true :=
  codeMatches_framed ..

theorem channelOf_inkFrame : channelOf (inkFrame channel source seq samples) = channel.toNat % 16 := rfl

theorem addressOf_inkFrame : addressOf (inkFrame channel source seq samples) = source :=
  addressOf_framed ..

theorem length_inkFrame :
    (inkFrame channel source seq samples).length = 10 * samples.length + 10 := by
  rw [inkFrame_eq, length_framed, length_samples]

/-- An ink frame passes the form check with its sequence and samples. -/
theorem formOf_inkFrame (h1 : 1 ≤ samples.length) (h8 : samples.length ≤ 8)
    (hf : ∀ x ∈ samples, x.fits = true) :
    formOf (inkFrame channel source seq samples) = .ink seq samples := by
  have hn : (byteAt (inkFrame channel source seq samples) 5).toNat = samples.length := by
    rw [inkFrame_eq, byte5_framed, byteOf, BitVec.toNat_ofNat]
    omega
  have hl : lengthField (inkFrame channel source seq samples) = 10 + 10 * samples.length := by
    rw [inkFrame_eq, lengthField_framed]
    omega
  have hk : byteAt (inkFrame channel source seq samples) 0 = 0x01 := rfl
  rw [formOf, if_neg (by rw [length_inkFrame]; omega), if_pos hk]
  simp only [hn, hl, length_inkFrame]
  rw [if_pos ⟨h1, h8, by omega, trivial⟩]
  have hr : readSamples samples.length ((inkFrame channel source seq samples).drop 8) = some samples := by
    rw [inkFrame_eq, drop_framed]
    exact readSamples_bytes hf _
  rw [hr]
  rfl

end

/-! ### The check code as a remainder (R1) -/

/-- The dividend `v` and the remainder `w` differ by shifted copies of the generator. -/
def CrcReduces (v w : Nat) : Prop :=
  ∃ shifts : List Nat, v = shifts.foldl (fun u k => u ^^^ (0x11021 <<< k)) w

theorem CrcReduces.refl (v : Nat) : CrcReduces v v := ⟨[], rfl⟩

theorem CrcReduces.trans {u v w : Nat} (h1 : CrcReduces u v) (h2 : CrcReduces v w) : CrcReduces u w := by
  obtain ⟨l1, rfl⟩ := h1
  obtain ⟨l2, rfl⟩ := h2
  exact ⟨l2 ++ l1, by rw [List.foldl_append]⟩

theorem CrcReduces.step (v k : Nat) : CrcReduces (v ^^^ (0x11021 <<< k)) v := ⟨[k], rfl⟩

/-- Shifting the dividend and the remainder, and adding to both, keeps the relation. -/
theorem CrcReduces.shift_xor {v w : Nat} (h : CrcReduces v w) (n x : Nat) :
    CrcReduces ((v <<< n) ^^^ x) ((w <<< n) ^^^ x) := by
  obtain ⟨l, rfl⟩ := h
  refine ⟨l.map (· + n), ?_⟩
  induction l generalizing w with
  | nil => rfl
  | cons k t ih =>
    rw [List.foldl_cons, List.map_cons, List.foldl_cons, ih]
    congr 1
    rw [Nat.shiftLeft_xor_distrib, ← Nat.shiftLeft_add, Nat.xor_right_comm]

theorem CrcReduces.shift {v w : Nat} (h : CrcReduces v w) (n : Nat) :
    CrcReduces (v <<< n) (w <<< n) := by
  simpa using h.shift_xor n 0

/-- Below a power of two, adding a multiple of the power is exclusive or. -/
theorem shift_add_eq_xor (m : Nat) {n b : Nat} (h : b < 2 ^ n) : 2 ^ n * m + b = (m <<< n) ^^^ b := by
  apply Nat.eq_of_testBit_eq
  intro j
  rw [Nat.testBit_two_pow_mul_add m h, Nat.testBit_xor, Nat.testBit_shiftLeft]
  split
  · next hj => simp [show ¬ n ≤ j by omega]
  · next hj =>
    have hb : b.testBit j = false :=
      Nat.testBit_lt_two_pow (lt_of_lt_of_le h (Nat.pow_le_pow_right (by omega) (by omega)))
    simp [show n ≤ j by omega, hb]

/-- One bit step is a division step by the generator (R1). -/
theorem crcBit_reduces (r : Half) : CrcReduces (r.toNat <<< 1) (crcBit r).toNat := by
  have hlt := r.isLt
  have hs : (r <<< 1).toNat = 2 * r.toNat % 65536 := by
    rw [BitVec.toNat_shiftLeft, Nat.shiftLeft_eq]
    omega
  have h2 : r.toNat <<< 1 = 2 * r.toNat := by rw [Nat.shiftLeft_eq]; omega
  unfold crcBit
  split
  · next hm =>
    have hge : 32768 ≤ r.toNat := by
      rw [BitVec.msb_eq_decide] at hm
      simpa using hm
    have hx := shift_add_eq_xor 1 (n := 16) (b := 2 * r.toNat % 65536) (by omega)
    have hv : r.toNat <<< 1 = ((r <<< 1) ^^^ 0x1021#16).toNat ^^^ (0x11021 <<< 0) := calc
      r.toNat <<< 1 = 2 ^ 16 * 1 + 2 * r.toNat % 65536 := by omega
      _ = (2 * r.toNat % 65536) ^^^ 0x10000 := by rw [hx, Nat.xor_comm]; rfl
      _ = ((r <<< 1) ^^^ 0x1021#16).toNat ^^^ (0x11021 <<< 0) := by
        rw [BitVec.toNat_xor, hs, Nat.xor_assoc]; rfl
    rw [hv]
    exact .step _ 0
  · next hm =>
    have hlow : r.toNat < 32768 := by
      rw [BitVec.msb_eq_decide] at hm
      simpa using hm
    rw [hs, h2, Nat.mod_eq_of_lt (by omega)]
    exact .refl _

theorem crcBits_reduces (k : Nat) (r : Half) : CrcReduces (r.toNat <<< k) (crcBit^[k] r).toNat := by
  induction k generalizing r with
  | zero => exact .refl _
  | succ k ih =>
    rw [Function.iterate_succ_apply, Nat.add_comm, Nat.shiftLeft_add]
    exact ((crcBit_reduces r).shift k).trans (ih _)

/-- One byte taken is eight division steps (R1). -/
theorem crcByte_reduces (r : Half) (b : Byte) :
    CrcReduces ((r.toNat <<< 8) ^^^ (b.toNat <<< 16)) (crcByte r b).toNat := by
  have hb : (b.setWidth 16 <<< 8).toNat = b.toNat <<< 8 := by
    have := b.isLt
    rw [BitVec.toNat_shiftLeft, BitVec.toNat_setWidth, Nat.shiftLeft_eq, Nat.shiftLeft_eq]
    omega
  have h := crcBits_reduces 8 (r ^^^ (b.setWidth 16 <<< 8))
  rw [BitVec.toNat_xor, hb, Nat.shiftLeft_xor_distrib, ← Nat.shiftLeft_add] at h
  exact h

/-- The code of some bytes is the remainder of their division, 0xFFFF preset (R1). -/
theorem crc_reduces (bytes : List Byte) : CrcReduces
    (((bytes.foldl (fun m b => m * 256 + b.toNat) 0) <<< 16) ^^^ (0xFFFF <<< (8 * bytes.length)))
    (crc bytes).toNat := by
  induction bytes using List.reverseRecOn with
  | nil => exact .refl _
  | append_singleton l b ih =>
    have h := (ih.shift_xor 8 (b.toNat <<< 16)).trans (crcByte_reduces (crc l) b)
    have hm := fun m => shift_add_eq_xor m (n := 8) b.isLt
    rw [List.foldl_append, List.length_append, crc, List.foldl_append]
    simp only [List.foldl_cons, List.foldl_nil, List.length_singleton]
    rw [Nat.mul_comm _ 256, show (256 : Nat) = 2 ^ 8 from rfl, hm, Nat.shiftLeft_xor_distrib]
    rw [Nat.shiftLeft_xor_distrib] at h
    simp only [← Nat.shiftLeft_add] at h ⊢
    rw [Nat.mul_add, Nat.xor_right_comm]
    exact h

/-- Settles O15. -/
theorem inkFrameReadsBack : Obligations.InkFrameReadsBack :=
  ⟨crc_reduces, codeMatches_iff, fun _ _ _ _ h1 h8 hf =>
    ⟨codeMatches_inkFrame .., formOf_inkFrame _ _ _ _ h1 h8 hf, addressOf_inkFrame ..,
      channelOf_inkFrame ..⟩⟩

end Sys2Proof.Machine
end

section
/-! SUPPORT. Refused requests: for each owner, the operands it refuses (R16 to R49, R65 to R71, R112 to R118, R142 to
R162), and the reply that follows (R169). -/

namespace Sys2Proof.Machine

/-! ### The reply to a request given as a command -/

theorem exec_answered {c : Instr} {req : Requester} {r : Request} {p q : Part} {status : Status}
    {body : ReplyBody} (h : p.takes) (hc : c.request? = some (req, r))
    (ho : ownerOf r (p.holdReply true) = (some (status, body), q)) (rest : List Instr) :
    exec c ⟨p, rest⟩ = .next ⟨answered req r.code status body q, rest⟩ := by
  rw [exec_request hc]
  exact request_answered h req r rest ho

/-- An owner that refuses changes nothing, so that the reply is all that follows (R169). -/
theorem exec_refused {c : Instr} {req : Requester} {r : Request} {p : Part} {status : Status}
    (h : p.takes) (hc : c.request? = some (req, r)) (ho : ∀ p', p' = p.holdReply true →
      ownerOf r p' = refuse status p') (rest : List Instr) :
    exec c ⟨p, rest⟩ = .next ⟨answered req r.code status .empty p, rest⟩ :=
  exec_answered (q := p.holdReply true) h hc (ho _ rfl) rest

theorem rangeRefused_of {c : Instr} {req : Requester} {r : Request} {kind : Byte} {p : Part}
    (h : p.takes) (hc : c.request? = some (req, r)) (hk : r.code = kind)
    (ho : ∀ p', p' = p.holdReply true → ownerOf r p' = refuse .range p') : rangeRefused c req kind p :=
  hk ▸ exec_refused h hc ho

/-! ### Operands of the reads, of a flush and of an undo -/

theorem ownReadIdentity_range {seat copy : Byte} (h : 71 < seat.toNat ∨ 1 < copy.toNat) (p : Part) :
    ownReadIdentity seat copy p = refuse .range p := by
  unfold ownReadIdentity
  rcases h with h | h
  · rw [finOf_eq_none.2 h]
  · rw [Copy_of_eq_none.2 h]
    cases finOf? 72 seat <;> rfl

theorem ownReadRule_range {page index copy : Byte}
    (h : 7 < page.toNat ∨ 15 < index.toNat ∨ 1 < copy.toNat) (p : Part) :
    ownReadRule page index copy p = refuse .range p := by
  unfold ownReadRule
  rcases h with h | h | h
  · rw [finOf_eq_none.2 h]
  · rw [finOf_eq_none.2 h]
    cases finOf? 8 page <;> rfl
  · rw [Copy_of_eq_none.2 h]
    cases finOf? 8 page <;> cases finOf? 16 index <;> rfl

theorem ownReadMonitor_range {clear : Byte} (h : 1 < clear.toNat) (p : Part) :
    ownReadMonitor clear p = refuse .range p := by
  rw [ownReadMonitor, flagOf_eq_none.2 h]

theorem ownReadCalibration_range {set : Byte} (h : 15 < set.toNat) (p : Part) :
    ownReadCalibration set p = refuse .range p := by
  rw [ownReadCalibration, finOf_eq_none.2 h]

theorem toolTable_eq_none {tool : Byte} (h : 3 < tool.toNat) : toolTable? tool = none := by
  rw [toolTable?, Tool_of_eq_none.2 h]
  rfl

theorem ownReadWidthTable_range {tool : Byte} (h : 3 < tool.toNat) (p : Part) :
    ownReadWidthTable tool p = refuse .range p := by
  rw [ownReadWidthTable, toolTable_eq_none h]

theorem ownFlushQueue_range {queue : Byte} (h : 2 < queue.toNat) (p : Part) :
    ownFlushQueue queue p = refuse .range p := by
  rw [ownFlushQueue, Dest_of_eq_none.2 h]

theorem ownReadQueues_range {clear : Byte} (h : 1 < clear.toNat) (p : Part) :
    ownReadQueues clear p = refuse .range p := by
  rw [ownReadQueues, flagOf_eq_none.2 h]

theorem ownReadStrokes_range {start : Byte} (h : 47 < start.toNat) (p : Part) :
    ownReadStrokes start p = refuse .range p := by
  rw [ownReadStrokes, if_neg (by omega)]

theorem ownReadCounters_range {clear first count : Byte}
    (h : 1 < clear.toNat ∨ 71 < first.toNat ∨ 8 < count.toNat ∨ 72 < first.toNat + count.toNat)
    (p : Part) : ownReadCounters clear first count p = refuse .range p := by
  have hn : countersOf? clear first count = none := by
    unfold countersOf?
    rcases h with h | h
    · rw [flagOf_eq_none.2 h]
    · cases flagOf? clear with
      | none => rfl
      | some b => exact if_neg (by omega)
  rw [ownReadCounters, hn]

theorem ownReadHistory_range {count : Byte} (h : count.toNat = 0 ∨ 8 < count.toNat) (p : Part) :
    ownReadHistory count p = refuse .range p := by
  unfold ownReadHistory
  exact if_neg (by omega)

theorem ownUndo_range {seat : Byte} (h : 71 < seat.toNat) (p : Part) :
    ownUndo seat p = refuse .range p := by
  rw [ownUndo, finOf_eq_none.2 h]

/-! ### LAYER_CONTROL without a layer or without an action (R118) -/

/-- What is left of a part when a LAYER_CONTROL names no layer: one free value is drawn (log entry 15). -/
theorem ownLayerControl_absent {layer : Byte} (h : 7 < layer.toNat) (action : Byte) (p : Part) :
    ownLayerControl layer action p =
      (some (.range, .absentLayer layer (Config.absentLayerState p.freeDraws)),
        { p with freeDraws := p.freeDraws + 1 }) := by
  have key : ∀ f, withLayer layer f p =
      (some (.range, .absentLayer layer (Config.absentLayerState p.freeDraws)),
        { p with freeDraws := p.freeDraws + 1 }) := by
    intro f
    rw [withLayer, finOf_eq_none.2 h]
  unfold ownLayerControl
  split_ifs <;> exact key _

theorem ownLayerControl_noAction {layer action : Byte} {l : Fin 8} (hl : layer.toNat = l.val)
    (h : 5 < action.toNat) (p : Part) :
    ownLayerControl layer action p = (some (.range, .layerState l (p.layer l).state), p) := by
  have hne : ∀ k : Byte, k.toNat ≤ 5 → ¬ action = k := by
    rintro k hk rfl
    omega
  have hw : withLayer layer (refuseLayer .range) p = (some (.range, .layerState l (p.layer l).state), p) := by
    rw [withLayer, finOf_eq_some.2 hl]
    rfl
  unfold ownLayerControl
  rw [if_neg (hne _ (by decide)), if_neg (hne _ (by decide)), if_neg (hne _ (by decide)),
    if_neg (hne _ (by decide)), if_neg (hne _ (by decide)), if_neg (hne _ (by decide)), hw]

/-- Settles O60: each operand out of range by its owner's lemma, the lengths by `decodeRequest_eq_none_iff`. -/
theorem requestsThatNameNothingAreRefused : Obligations.RequestsThatNameNothingAreRefused := by
  intro p rest h
  refine ⟨fun req => ⟨?_, ?_, ?_, ?_, ?_, ?_, ?_, ?_, ?_, ?_, ?_, fun layer action => ⟨?_, ?_⟩⟩, ?_⟩
  · exact fun _ _ ho => rangeRefused_of h rfl rfl fun p' _ => ownReadIdentity_range ho p'
  · exact fun _ _ _ ho => rangeRefused_of h rfl rfl fun p' _ => ownReadRule_range ho p'
  · exact fun _ ho => rangeRefused_of h rfl rfl fun p' _ => ownReadMonitor_range ho p'
  · exact fun _ ho => rangeRefused_of h rfl rfl fun p' _ => ownReadCalibration_range ho p'
  · exact fun _ ho => rangeRefused_of h rfl rfl fun p' _ => ownReadWidthTable_range ho p'
  · exact fun _ ho => rangeRefused_of h rfl rfl fun p' _ => ownFlushQueue_range ho p'
  · exact fun _ ho => rangeRefused_of h rfl rfl fun p' _ => ownReadQueues_range ho p'
  · exact fun _ ho => rangeRefused_of h rfl rfl fun p' _ => ownReadStrokes_range ho p'
  · exact fun _ _ _ ho => rangeRefused_of h rfl rfl fun p' _ => ownReadCounters_range ho p'
  · exact fun _ ho => rangeRefused_of h rfl rfl fun p' _ => ownReadHistory_range ho p'
  · exact fun _ ho => rangeRefused_of h rfl rfl fun p' _ => ownUndo_range ho p'
  · intro hl c hc
    have key : ∀ a, request req (.layerControl layer a) (ownLayerControl layer a) ⟨p, rest⟩ = _ :=
      fun a => request_answered h req (.layerControl layer a) rest (ownLayerControl_absent hl a _)
    simp only [List.mem_cons, List.not_mem_nil, or_false] at hc
    rcases hc with rfl | rfl | rfl | rfl | rfl | rfl | rfl
    · exact key 0
    · exact key 1
    · exact key 2
    · exact key 3
    · exact key 4
    · exact key 5
    · exact (exec_request_frame (r := .layerControl layer action) rfl req _).trans (key action)
  · intro l hl ha
    exact (exec_request_frame (r := .layerControl layer action) rfl req _).trans
      (request_answered (q := p.holdReply true) h req (.layerControl layer action) rest
        (ownLayerControl_noAction hl ha _))
  · intro frame hc hlen hk hch h1 h2 body hbad
    have hcat : inCatalogue (byteAt frame 4) = true := by simp [inCatalogue, h1, h2]
    have ho : answerBody (byteAt frame 4) (frameBody frame) (decide (lengthField frame = frame.length))
        (p.holdReply true) = refuse .malformed (p.holdReply true) := by
      rw [answerBody, if_neg (by simp [hcat])]
      by_cases hf : lengthField frame = frame.length
      · have hb : (frameBody frame).length ≠ catalogueLength (byteAt frame 4) (frameBody frame) :=
          hbad.resolve_left fun hn => hn hf
        rw [if_neg (by simp [hf]), (decodeRequest_eq_none_iff _ h1 h2).2 hb]
      · rw [if_pos (by simp [hf])]
    have he : receive .room frame = takeManagement frame :=
      funext fun q => receive_management hc hlen hk hch q
    show event (receive .room frame) ⟨p, rest⟩ = _
    rw [he]
    exact event_answered (q := p.holdReply true) h (frameHead frame) rest ho

end Sys2Proof.Machine
end

section
/-! SUPPORT. The operands that the writes and settings take and refuse (R14 to R16, R29 to R34, R50, R65 to R71, R116,
R117, R143, R154), and the states in which they refuse (R41, R46, R190). -/

namespace Sys2Proof.Machine

/-! ### While a commit is pending, or a save is in flight -/

/-- The requests on the staged copy are refused with PENDING (R16, R29, R31, R32, R41, R46). -/
theorem ownerOf_pending {r : Request} (h : r.code ∈ ([0x01, 0x03, 0x05, 0x06, 0x07, 0x09] : List Byte))
    {p : Part} (hp : p.staging.pending = true) : ownerOf r p = refuse .pending p := by
  cases r
  case writeIdentity w => exact if_pos hp
  case writeRule w => exact if_pos hp
  case setDefaultAction page action => exact if_pos hp
  case selectPage page => exact if_pos hp
  case commit skip => exact if_pos hp
  case discardStaged => exact if_pos hp
  all_goals exact absurd h (by simp [Request.code])

/-- The requests on the calibration are refused with BUSY (R65 to R67, R69, R190). -/
theorem ownerOf_busy {r : Request} (h : r.code ∈ ([0x0C, 0x0E, 0x0F, 0x21, 0x22] : List Byte))
    {p : Part} (hs : p.save ≠ none) : ownerOf r p = refuse .busy p := by
  have hs : p.save.isSome = true := Option.isSome_iff_ne_none.2 hs
  cases r
  case writeCalibration w => exact if_pos hs
  case applyBaseline sets => exact if_pos hs
  case writeWidthTable tool entries => exact if_pos hs
  case saveCalibration => exact if_pos hs
  case restoreFactory => exact if_pos hs
  all_goals exact absurd h (by simp [Request.code])

/-! ### WRITE_IDENTITY (R14, R16) -/

/-- An optional field with a presence byte that is neither 0 nor 1, or present with a value that reads as
none, is out of range. -/
theorem optionOf_eq_none {α : Type} {read : Byte → Option α} {presence value : Byte}
    (h : 1 < presence.toNat ∨ presence = 1 ∧ read value = none) :
    optionOf? read presence value = none := by
  unfold optionOf?
  rcases h with h | ⟨rfl, h⟩
  · rw [if_neg (by rintro rfl; simp at h), if_neg (by rintro rfl; simp at h)]
  · simp [h]

theorem optionOf_eq_some {α : Type} {read : Byte → Option α} {presence value : Byte}
    (h : presence = 0 ∨ presence = 1 ∧ read value ≠ none) :
    ∃ o, optionOf? read presence value = some o := by
  unfold optionOf?
  rcases h with rfl | ⟨rfl, h⟩
  · exact ⟨none, rfl⟩
  · obtain ⟨a, ha⟩ := Option.ne_none_iff_exists'.1 h
    exact ⟨some a, by simp [ha]⟩

theorem roomFields_eq_none {w : IdentityWrite} (h : w.address.toNat = 0 ∨ w.address.toNat = 65535 ∨
    32767 < w.baseX.toNat ∨ 32767 < w.baseY.toNat ∨ w.exponentX.toNat < 8 ∨ 15 < w.exponentX.toNat ∨
      w.exponentY.toNat < 8 ∨ 15 < w.exponentY.toNat) : roomFields? w = none := by
  unfold roomFields?
  exact if_neg (by omega)

/-- A WRITE_IDENTITY with a field out of range is no write of an entry (R14, R16). -/
theorem identityOf_eq_none {w : IdentityWrite} (h : 71 < w.seat.toNat ∨ 1 < w.enabled.toNat ∨
    2 < w.role.toNat ∨ 15 < w.calibrationSet.toNat ∨ 1 < w.overridePresent.toNat ∨
    (w.overridePresent = 1 ∧ 31 < w.overrideColour.toNat) ∨ 1 < w.forcedPresent.toNat ∨
    (w.forcedPresent = 1 ∧ 7 < w.forcedLayer.toNat) ∨
    (w.seat.toNat < 64 ∧ (w.address.toNat = 0 ∨ w.address.toNat = 65535 ∨ 32767 < w.baseX.toNat ∨
      32767 < w.baseY.toNat ∨ w.exponentX.toNat < 8 ∨ 15 < w.exponentX.toNat ∨
      w.exponentY.toNat < 8 ∨ 15 < w.exponentY.toNat))) : identityOf? w = none := by
  cases hw : identityOf? w with
  | none => rfl
  | some x =>
    exfalso
    unfold identityOf? entryOf? at hw
    simp only [Option.bind_eq_bind, Option.bind_eq_some_iff] at hw
    obtain ⟨seat, hseat, entry, ⟨en, hen, role, hrole, cal, hcal, colour, hcolour, forced, hforced, he⟩, -⟩ :=
      hw
    rcases h with h | h | h | h | h | h | h | h | ⟨h, hroom⟩
    · rw [finOf_eq_none.2 h] at hseat; cases hseat
    · rw [flagOf_eq_none.2 h] at hen; cases hen
    · rw [Role_of_eq_none.2 h] at hrole; cases hrole
    · rw [finOf_eq_none.2 h] at hcal; cases hcal
    · rw [optionOf_eq_none (.inl h)] at hcolour; cases hcolour
    · rw [optionOf_eq_none (.inr ⟨h.1, finOf_eq_none.2 h.2⟩)] at hcolour; cases hcolour
    · rw [optionOf_eq_none (.inl h)] at hforced; cases hforced
    · rw [optionOf_eq_none (.inr ⟨h.1, finOf_eq_none.2 h.2⟩)] at hforced; cases hforced
    · have hs : isRoomSeat seat = true := by
        rw [isRoomSeat, decide_eq_true_eq, ← finOf_eq_some.1 hseat]
        exact h
      rw [if_pos hs, roomFields_eq_none hroom] at he
      cases he

theorem ownWriteIdentity_range {w : IdentityWrite} {p : Part} (hp : p.staging.pending = false)
    (h : identityOf? w = none) : ownWriteIdentity w p = refuse .range p := by
  rw [ownWriteIdentity, if_neg (by simp [hp]), h]

/-- A room entry whose address an enabled room entry of the staged copy has is refused (R16). -/
theorem ownWriteIdentity_conflict {w : IdentityWrite} {seat j : Fin 72} {e : IdentityEntry} {p : Part}
    (hp : p.staging.pending = false) (h : identityOf? w = some (seat, e)) (hs : seat.val < 64)
    (he : e.enabled = true) (hj : j.val < 64) (hne : j ≠ seat)
    (hje : (look p.staged.identity j).enabled = true)
    (hja : (look p.staged.identity j).address = e.address) :
    ownWriteIdentity w p = refuse .conflict p := by
  have hc : addressConflict p.staged seat e = true := by
    simp only [addressConflict, Bool.and_eq_true, List.any_eq_true, decide_eq_true_eq, isRoomSeat]
    exact ⟨⟨hs, he⟩, j, mem_indexes j, ⟨⟨hj, hne⟩, hje⟩, hja⟩
  rw [ownWriteIdentity, if_neg (by simp [hp]), h]
  exact if_pos hc

/-- A WRITE_IDENTITY of a room seat with every field in range is a write of an entry with the address sent. -/
theorem identityOf_room {w : IdentityWrite} (hs : w.seat.toNat < 64) (hen : w.enabled = 1)
    (hrole : w.role.toNat ≤ 2) (hcal : w.calibrationSet.toNat ≤ 15)
    (hcolour : w.overridePresent = 0 ∨ w.overridePresent = 1 ∧ w.overrideColour.toNat ≤ 31)
    (hforced : w.forcedPresent = 0 ∨ w.forcedPresent = 1 ∧ w.forcedLayer.toNat ≤ 7)
    (hroom : 1 ≤ w.address.toNat ∧ w.address.toNat ≤ 65534 ∧ w.baseX.toNat ≤ 32767 ∧
      w.baseY.toNat ≤ 32767 ∧ 8 ≤ w.exponentX.toNat ∧ w.exponentX.toNat ≤ 15 ∧
      8 ≤ w.exponentY.toNat ∧ w.exponentY.toNat ≤ 15) :
    ∃ e, identityOf? w = some (⟨w.seat.toNat, by omega⟩, e) ∧ e.enabled = true ∧
      e.address = some w.address := by
  have hseat : finOf? 72 w.seat = some ⟨w.seat.toNat, by omega⟩ := finOf_eq_some.2 rfl
  obtain ⟨role, hr⟩ := Option.ne_none_iff_exists'.1
    (fun h => absurd (Role_of_eq_none (b := w.role) |>.1 h) (by omega))
  have hc : finOf? 16 w.calibrationSet = some ⟨w.calibrationSet.toNat, by omega⟩ := finOf_eq_some.2 rfl
  obtain ⟨colour, hco⟩ := optionOf_eq_some (read := finOf? 32) (value := w.overrideColour)
    (hcolour.imp_right fun h =>
    ⟨h.1, fun hn => absurd (finOf_eq_none.1 hn) (by omega)⟩)
  obtain ⟨forced, hfo⟩ := optionOf_eq_some (read := finOf? 8) (value := w.forcedLayer)
    (hforced.imp_right fun h =>
    ⟨h.1, fun hn => absurd (finOf_eq_none.1 hn) (by omega)⟩)
  have hrs : isRoomSeat ⟨w.seat.toNat, by omega⟩ = true := by simpa [isRoomSeat] using hs
  have hroom? : roomFields? w = some _ := if_pos hroom
  have hen? : flagOf? w.enabled = some true := by rw [hen]; rfl
  refine ⟨⟨true, some w.address, role, ⟨w.calibrationSet.toNat, by omega⟩,
    some ⟨storedBase w.baseX.toNat w.exponentX.toNat, storedBase w.baseY.toNat w.exponentY.toNat,
      w.exponentX.toNat, w.exponentY.toNat⟩, LayerSet.ofByte w.allowedLayers, colour, forced⟩,
    ?_, rfl, rfl⟩
  simp only [identityOf?, entryOf?, hseat, hr, hc, hco, hfo, hrs, hroom?, hen?,
    Option.bind_eq_bind, Option.bind_some, if_true]

/-! ### WRITE_RULE (R19, R29) -/

theorem layerMatchOf_eq_none {b : Byte} (h : 8 < b.toNat) : layerMatchOf? b = none := by
  rw [layerMatchOf?, if_neg (by rintro rfl; simp at h), finOf_eq_none.2 (by omega)]
  rfl

/-- A WRITE_RULE with a field out of range, or with its low bound above the high bound, is no write of a
rule. -/
theorem ruleOf_eq_none {w : RuleWrite} (h : 7 < w.page.toNat ∨ 15 < w.index.toNat ∨
    1 < w.valid.toNat ∨ 71 < w.low.toNat ∨ 71 < w.high.toNat ∨ w.high.toNat < w.low.toNat ∨
    7 < w.roles.toNat ∨ 15 < w.tools.toNat ∨ 8 < w.layerMatch.toNat ∨ 3 < w.action.toNat ∨
    7 < w.target.toNat) : ruleOf? w = none := by
  cases hw : ruleOf? w with
  | none => rfl
  | some x =>
    exfalso
    unfold ruleOf? ruleFields? at hw
    simp only [Option.bind_eq_bind, Option.bind_eq_some_iff, Option.ite_none_right_eq_some] at hw
    obtain ⟨page, hpage, index, hindex, rule, ⟨valid, hvalid, low, hlow, high, hhigh, roles, hroles,
      tools, htools, layer, hlayer, action, haction, target, htarget, hle, -⟩, -⟩ := hw
    rcases h with h | h | h | h | h | h | h | h | h | h | h
    · rw [finOf_eq_none.2 h] at hpage; cases hpage
    · rw [finOf_eq_none.2 h] at hindex; cases hindex
    · rw [flagOf_eq_none.2 h] at hvalid; cases hvalid
    · rw [finOf_eq_none.2 h] at hlow; cases hlow
    · rw [finOf_eq_none.2 h] at hhigh; cases hhigh
    · rw [finOf_eq_some.1 hlow, finOf_eq_some.1 hhigh] at h
      exact absurd hle (not_le.2 h)
    · rw [RoleSet_of_eq_none.2 h] at hroles; cases hroles
    · rw [ToolSet_of_eq_none.2 h] at htools; cases htools
    · rw [layerMatchOf_eq_none h] at hlayer; cases hlayer
    · rw [Action_of_eq_none.2 h] at haction; cases haction
    · rw [finOf_eq_none.2 h] at htarget; cases htarget

theorem ownWriteRule_range {w : RuleWrite} {p : Part} (hp : p.staging.pending = false)
    (h : ruleOf? w = none) : ownWriteRule w p = refuse .range p := by
  rw [ownWriteRule, if_neg (by simp [hp]), h]

/-! ### The other writes of the staged copy (R31, R32, R41) -/

theorem ownSetDefaultAction_range {page action : Byte} {p : Part} (hp : p.staging.pending = false)
    (h : 7 < page.toNat ∨ action.toNat ≠ 0 ∧ action.toNat ≠ 3) :
    ownSetDefaultAction page action p = refuse .range p := by
  rw [ownSetDefaultAction, if_neg (by simp [hp])]
  rcases h with h | h
  · rw [finOf_eq_none.2 h]
  · rw [DefaultAction_of_eq_none.2 h]
    cases finOf? 8 page <;> rfl

theorem ownSelectPage_range {page : Byte} {p : Part} (hp : p.staging.pending = false)
    (h : 7 < page.toNat) : ownSelectPage page p = refuse .range p := by
  rw [ownSelectPage, if_neg (by simp [hp]), finOf_eq_none.2 h]

theorem ownCommit_range {skip : Byte} {p : Part} (hp : p.staging.pending = false)
    (h : 7 < skip.toNat) : ownCommit skip p = refuse .range p := by
  rw [ownCommit, if_neg (by simp [hp]), if_neg (by omega)]

theorem ownSetTiming_range {idle frame : Half} (h : idle.toNat < 200 ∨ 20000 < idle.toNat ∨
    frame.toNat < 100 ∨ 2000 < frame.toNat) (p : Part) :
    ownSetTiming idle frame p = refuse .range p := by
  have hn : timingOf? idle frame = none := if_neg (by omega)
  rw [ownSetTiming, hn]

/-! ### The writes of the calibration (R50, R65, R67, R69) -/

theorem ownWriteCalibration_range {w : CalibrationWrite} {p : Part} (hp : p.save = none)
    (h : 15 < w.set.toNat ∨ 4095 < w.baseline.toNat ∨ 6 < w.exponent.toNat ∨ 1 < w.autoApply.toNat) :
    ownWriteCalibration w p = refuse .range p := by
  have hn : calibrationOf? w = none := by
    cases hw : calibrationOf? w with
    | none => rfl
    | some x =>
      exfalso
      unfold calibrationOf? at hw
      simp only [Option.bind_eq_bind, Option.bind_eq_some_iff, Option.ite_none_right_eq_some] at hw
      obtain ⟨set, hset, auto, hauto, ⟨hb, he⟩, -⟩ := hw
      rcases h with h | h | h | h
      · rw [finOf_eq_none.2 h] at hset; cases hset
      · omega
      · omega
      · rw [flagOf_eq_none.2 h] at hauto; cases hauto
  rw [ownWriteCalibration, if_neg (by simp [hp]), hn]

theorem mapM_eq_none {α β : Type} {f : α → Option β} {l : List α} {a : α} (ha : a ∈ l)
    (hf : f a = none) : l.mapM f = none := by
  cases hl : l.mapM f with
  | none => rfl
  | some r =>
    exfalso
    induction l generalizing r with
    | nil => cases ha
    | cons b t ih =>
      simp only [List.mapM_cons, Option.bind_eq_bind, Option.bind_eq_some_iff] at hl
      obtain ⟨b', hb, t', ht, -⟩ := hl
      rcases List.mem_cons.1 ha with rfl | ha
      · rw [hf] at hb; cases hb
      · exact ih ha t' ht

theorem ownApplyBaseline_range {sets : List Byte} {p : Part} (hp : p.save = none)
    (h : 16 < sets.length ∨ ∃ i ∈ sets, 15 < i.toNat) :
    ownApplyBaseline sets p = refuse .range p := by
  have hn : setsOf? sets = none := by
    unfold setsOf?
    rcases h with h | ⟨i, hi, h⟩
    · exact if_neg (by omega)
    · rw [mapM_eq_none hi (finOf_eq_none.2 h)]
      exact ite_self none
  rw [ownApplyBaseline, if_neg (by simp [hp]), hn]

theorem ownWriteWidthTable_range {tool : Byte} {entries : Vector Byte 16} {p : Part} (hp : p.save = none)
    (h : 3 < tool.toNat ∨ ∃ i, look entries i = 0) :
    ownWriteWidthTable tool entries p = refuse .range p := by
  have hn : widthsOf? tool entries = none := by
    unfold widthsOf?
    rcases h with h | ⟨i, hi⟩
    · rw [toolTable_eq_none h]
    · cases toolTable? tool with
      | none => rfl
      | some t =>
        refine if_neg fun hall => ?_
        have := List.all_eq_true.1 hall (look entries i) (by
          rw [toList_eq_map]
          exact List.mem_map_of_mem (mem_indexes i))
        simp [hi] at this
  rw [ownWriteWidthTable, if_neg (by simp [hp]), hn]

/-! ### SET_CANVAS and SET_LAYER_MODE (R71, R117) -/

theorem canvasFree_iff (p : Part) : p.canvasFree = true ↔
    (∀ l, (p.layer l).state = .closed) ∧ ∀ i, p.entry i = .free := by
  have hocc : ∀ e : Entry, e.isOccupied = true ↔ e ≠ .free := by
    intro e
    cases e <;> simp [Entry.isOccupied, Entry.core?]
  simp only [Part.canvasFree, Bool.and_eq_true, List.all_eq_true, decide_eq_true_eq, toList_eq_map,
    Part.countEntries, List.countP_eq_zero, List.forall_mem_map, hocc, not_not]
  exact ⟨fun h => ⟨fun l => h.1 l (mem_indexes l), fun i => h.2 i (mem_indexes i)⟩,
    fun h => ⟨fun l _ => h.1 l, fun i _ => h.2 i⟩⟩

theorem ownSetCanvas_state {width height : Half} {p : Part} (h : p.canvasFree ≠ true) :
    ownSetCanvas width height p = refuse .state p := if_pos (by simpa using h)

theorem ownSetCanvas_range {width height : Half} {p : Part} (hf : p.canvasFree = true)
    (h : width.toNat < 1024 ∨ 32767 < width.toNat ∨ height.toNat < 1024 ∨ 32767 < height.toNat) :
    ownSetCanvas width height p = refuse .range p := by
  have hn : canvasOf? width height = none := if_neg (by omega)
  rw [ownSetCanvas, if_neg (by simp [hf]), hn]

theorem ownSetLayerMode_absent {w : LayerModeWrite} (h : 7 < w.layer.toNat) (p : Part) :
    ownSetLayerMode w p = refuse .range p := by
  rw [ownSetLayerMode, finOf_eq_none.2 h]

theorem ownSetLayerMode_state {w : LayerModeWrite} {l : Fin 8} {p : Part} (hl : w.layer.toNat = l.val)
    (h : (p.layer l).state ≠ .closed) : ownSetLayerMode w p = refuse .state p := by
  rw [ownSetLayerMode, finOf_eq_some.2 hl]
  exact if_pos h

theorem ownSetLayerMode_range {w : LayerModeWrite} {l : Fin 8} {p : Part} (hl : w.layer.toNat = l.val)
    (hs : (p.layer l).state = .closed) (h : 3 < w.smoothing.toNat ∨ 15 < w.decimation.toNat ∨
      (w.chop.toNat ≠ 4 ∧ w.chop.toNat ≠ 8) ∨ 1 < w.order.toNat ∨ 7 < w.destinations.toNat) :
    ownSetLayerMode w p = refuse .range p := by
  have hn : modeOf? w = none := by
    cases hw : modeOf? w with
    | none => rfl
    | some x =>
      exfalso
      unfold modeOf? at hw
      simp only [Option.bind_eq_bind, Option.bind_eq_some_iff, Option.ite_none_right_eq_some] at hw
      obtain ⟨order, horder, dests, hdests, hrange, -⟩ := hw
      rcases h with h | h | h | h | h
      · omega
      · omega
      · omega
      · rw [PointOrder_of_eq_none.2 h] at horder; cases horder
      · rw [DestSet_of_eq_none.2 h] at hdests; cases hdests
  rw [ownSetLayerMode, finOf_eq_some.2 hl]
  simp only [hs, ne_eq, not_true_eq_false, if_false, hn]

/-! ### SET_QUEUE and SET_ROOM_PRIORITY (R143, R154) -/

theorem ownSetQueue_range {queue : Byte} {watermark : Half} {policy : Byte}
    (h : 2 < queue.toNat ∨ watermark.toNat = 0 ∨ 1 < policy.toNat ∨
      (∃ d : Dest, d.code = queue ∧ Config.capacity d < watermark.toNat)) (p : Part) :
    ownSetQueue queue watermark policy p = refuse .range p := by
  have hn : queueOf? queue watermark policy = none := by
    cases hw : queueOf? queue watermark policy with
    | none => rfl
    | some x =>
      exfalso
      unfold queueOf? at hw
      simp only [Option.bind_eq_bind, Option.bind_eq_some_iff, Option.ite_none_right_eq_some] at hw
      obtain ⟨d, hd, pol, hpol, ⟨h1, hc⟩, -⟩ := hw
      rcases h with h | h | h | ⟨e, rfl, h⟩
      · rw [Dest_of_eq_none.2 h] at hd; cases hd
      · omega
      · rw [Policy_of_eq_none.2 h] at hpol; cases hpol
      · rw [Dest.of_code] at hd
        cases hd
        omega
  rw [ownSetQueue, hn]

theorem ownSetRoomPriority_range {mode : Byte} (h : 1 < mode.toNat) (p : Part) :
    ownSetRoomPriority mode p = refuse .range p := by
  rw [ownSetRoomPriority, Priority_of_eq_none.2 h]

/-- Settles O52: each refusal by its owner's lemma. -/
theorem refusedRequestsChangeNothing : Obligations.RefusedRequestsChangeNothing := by
  intro p rest h
  refine ⟨fun c req r hc hk hp => exec_refused h hc (fun p' e => ownerOf_pending hk (e ▸ hp)) rest,
    fun c req r hc hk hs => exec_refused h hc (fun p' e => ownerOf_busy hk (e ▸ hs)) rest,
    fun req => ⟨?_, ?_, ?_, ?_, ?_, ?_, ?_, ?_, ?_, ?_, ?_, ?_, ?_, ?_, ?_, ?_, ?_⟩⟩
  · exact fun w hp ho => rangeRefused_of h rfl rfl fun p' e =>
      ownWriteIdentity_range (e ▸ hp) (identityOf_eq_none ho)
  · intro w j hp hs hen hrole hcal hcolour hforced ha1 ha2 hbx hby hx1 hx2 hy1 hy2 hj hne hje hja
    obtain ⟨e, hw, he, hea⟩ := identityOf_room hs hen hrole hcal hcolour hforced
      ⟨ha1, ha2, hbx, hby, hx1, hx2, hy1, hy2⟩
    refine exec_refused (r := .writeIdentity w) h rfl (fun p' e' => ?_) rest
    subst e'
    exact ownWriteIdentity_conflict (j := j) hp hw hs he hj (fun hc => hne (by rw [hc])) hje
      (hja.trans hea.symm)
  · exact fun w hp ho => rangeRefused_of h rfl rfl fun p' e =>
      ownWriteRule_range (e ▸ hp) (ruleOf_eq_none ho)
  · exact fun _ _ hp ho => rangeRefused_of h rfl rfl fun p' e => ownSetDefaultAction_range (e ▸ hp) ho
  · exact fun _ hp ho => rangeRefused_of h rfl rfl fun p' e => ownSelectPage_range (e ▸ hp) ho
  · exact fun _ hp ho => rangeRefused_of h rfl rfl fun p' e => ownCommit_range (e ▸ hp) ho
  · exact fun _ _ ho => rangeRefused_of h rfl rfl fun p' _ => ownSetTiming_range ho p'
  · exact fun _ hp ho => rangeRefused_of h rfl rfl fun p' e => ownWriteCalibration_range (e ▸ hp) ho
  · exact fun _ hp ho => rangeRefused_of h rfl rfl fun p' e => ownApplyBaseline_range (e ▸ hp) ho
  · exact fun _ _ hp ho => rangeRefused_of h rfl rfl fun p' e => ownWriteWidthTable_range (e ▸ hp) ho
  · intro width height ho
    refine exec_refused (r := .setCanvas width height) h rfl (fun p' e => ownSetCanvas_state ?_) rest
    subst e
    intro hfree
    obtain ⟨hl, hi⟩ := (canvasFree_iff _).1 hfree
    rcases ho with ⟨l, hn⟩ | ⟨i, hn⟩
    · exact hn (hl l)
    · exact hn (hi i)
  · exact fun _ _ hl hi ho => rangeRefused_of h rfl rfl fun p' e =>
      ownSetCanvas_range (e ▸ (canvasFree_iff _).2 ⟨hl, hi⟩) ho
  · exact fun _ ho => rangeRefused_of h rfl rfl fun p' _ => ownSetLayerMode_absent ho p'
  · exact fun w l hl ho => exec_refused (r := .setLayerMode w) h rfl
      (fun p' e => ownSetLayerMode_state hl (e ▸ ho)) rest
  · exact fun w l hl hs ho => rangeRefused_of h rfl rfl fun p' e =>
      ownSetLayerMode_range hl (e ▸ hs) ho
  · exact fun _ _ _ ho => rangeRefused_of h rfl rfl fun p' _ => ownSetQueue_range ho p'
  · exact fun _ ho => rangeRefused_of h rfl rfl fun p' _ => ownSetRoomPriority_range ho p'

end Sys2Proof.Machine
end

section
/-! SUPPORT. Requests taken: the staged writes with the fields as sent (R15, R16, R29, R31, R32), and the reads that
report and change nothing else (R17, R30, R68, R70, R112, R131, R184). -/

namespace Sys2Proof.Machine

/-! ### Operands as they are sent -/

@[simp] theorem finOf_byteOf_72 (i : Fin 72) : finOf? 72 (byteOf i.val) = some i :=
  finOf_byteOf 72 (by omega) i

@[simp] theorem finOf_byteOf_16 (i : Fin 16) : finOf? 16 (byteOf i.val) = some i :=
  finOf_byteOf 16 (by omega) i

@[simp] theorem finOf_byteOf_8 (i : Fin 8) : finOf? 8 (byteOf i.val) = some i :=
  finOf_byteOf 8 (by omega) i

theorem toNat_byteOf {n : Nat} (h : n < 256) : (byteOf n).toNat = n := by
  simp only [byteOf, BitVec.toNat_ofNat]
  omega

@[simp] theorem layerMatchOf_byteOf (l : Option (Fin 8)) :
    layerMatchOf? (byteOf ((l.map Fin.val).getD 8)) = some l := by
  cases l with
  | none => rfl
  | some l =>
    have hl : byteOf l.val ≠ 8 := by
      intro h
      have := congrArg BitVec.toNat h
      rw [toNat_byteOf (by omega)] at this
      exact absurd this (by have := l.isLt; simp; omega)
    exact (if_neg hl).trans (by rw [Option.map_some, Option.getD_some, finOf_byteOf_8]; rfl)

theorem optionOf_flagByte {α : Type} {read : Byte → Option α} {value : Byte} {o : Option α}
    (h : ∀ a, o = some a → read value = some a) : optionOf? read (flagByte o.isSome) value = some o := by
  cases o with
  | none => rfl
  | some a => exact congrArg (Option.map some) (h a rfl)

/-- A base rounded down loses its remainder by the extent (R15). -/
theorem storedBase_eq (base exponent : Nat) :
    storedBase base exponent = base - base % 2 ^ exponent := by
  have := Nat.div_add_mod' base (2 ^ exponent)
  rw [storedBase]
  omega

/-! ### The staged writes (R16, R29, R31, R32) -/

/-- A write with the fields of an entry stands as that entry, its bases rounded down (R15, R16). -/
theorem identityOf_sent (seat : Fin 72) (enabled : Bool) (role : Role) (cal : Fin 16) (layers : Byte)
    {colour : Option (Fin 32)} {forced : Option (Fin 8)} {colourByte forcedByte : Byte}
    (address baseX baseY : Half) {ex ey : Nat} (hc : ∀ c, colour = some c → colourByte = byteOf c.val)
    (hf : ∀ l, forced = some l → forcedByte = byteOf l.val)
    (hroom : seat.val < 64 → 1 ≤ address.toNat ∧ address.toNat ≤ 65534 ∧ baseX.toNat ≤ 32767 ∧
      baseY.toNat ≤ 32767 ∧ 8 ≤ ex ∧ ex ≤ 15 ∧ 8 ≤ ey ∧ ey ≤ 15) :
    identityOf? ⟨byteOf seat.val, flagByte enabled, role.code, byteOf cal.val, layers,
        flagByte colour.isSome, colourByte, flagByte forced.isSome, forcedByte, address, baseX, baseY,
        byteOf ex, byteOf ey⟩ =
      some (seat, ⟨enabled, if seat.val < 64 then some address else none, role, cal,
        if seat.val < 64 then
          some ⟨baseX.toNat - baseX.toNat % 2 ^ ex, baseY.toNat - baseY.toNat % 2 ^ ey, ex, ey⟩
        else none,
        LayerSet.ofByte layers, colour, forced⟩) := by
  have hcol : optionOf? (finOf? 32) (flagByte colour.isSome) colourByte = some colour :=
    optionOf_flagByte fun c e => by rw [hc c e, finOf_byteOf 32 (by omega)]
  have hfor : optionOf? (finOf? 8) (flagByte forced.isSome) forcedByte = some forced :=
    optionOf_flagByte fun l e => by rw [hf l e, finOf_byteOf_8]
  simp only [identityOf?, entryOf?, finOf_byteOf_72, finOf_byteOf_16, flagOf_flagByte, Role.of_code,
    hcol, hfor, Option.bind_eq_bind, Option.bind_some, isRoomSeat, decide_eq_true_eq]
  split_ifs with hs
  · obtain ⟨h1, h2, h3, h4, h5, h6, h7, h8⟩ := hroom hs
    have hex : (byteOf ex).toNat = ex := toNat_byteOf (by omega)
    have hey : (byteOf ey).toNat = ey := toNat_byteOf (by omega)
    simp only [roomFields?, hex, hey, storedBase_eq, h1, h2, h3, h4, h5, h6, h7, h8, and_self, if_true,
      Option.bind_some]
  · rfl

/-- The write of a rule's fields is the write of that rule (R29). -/
theorem ruleOf_sent (page : Fin 8) (index : Fin 16) {r : Rule} (h : r.low ≤ r.high) :
    ruleOf? ⟨byteOf page.val, byteOf index.val, flagByte r.valid, byteOf r.low.val, byteOf r.high.val,
        r.roles.code, r.tools.code, byteOf ((r.layerMatch.map Fin.val).getD 8), r.action.code,
        byteOf r.target.val⟩ = some (page, index, r) := by
  simp only [ruleOf?, ruleFields?, finOf_byteOf_8, finOf_byteOf_16, finOf_byteOf_72, flagOf_flagByte,
    RoleSet.of_code, ToolSet.of_code, layerMatchOf_byteOf, Action.of_code, Option.bind_eq_bind,
    Option.bind_some, if_pos h]

theorem addressConflict_eq_false {t : Tables} {seat : Fin 72} {e : IdentityEntry}
    (h : seat.val < 64 → e.enabled = true → ∀ j : Fin 72, j.val < 64 → j ≠ seat →
      (look t.identity j).enabled = true → (look t.identity j).address ≠ e.address) :
    addressConflict t seat e = false := by
  rw [Bool.eq_false_iff]
  intro hc
  simp only [addressConflict, Bool.and_eq_true, List.any_eq_true, decide_eq_true_eq, isRoomSeat] at hc
  obtain ⟨⟨hs, he⟩, j, -, ⟨⟨hj, hne⟩, hje⟩, hja⟩ := hc
  exact h hs he j hj hne hje hja

/-- Settles O39: each write is read back as sent (`identityOf_sent`, `ruleOf_sent`) and staged. -/
theorem stagedWritesStandInTheStagedCopy : Obligations.StagedWritesStandInTheStagedCopy := by
  intro req p rest h hp
  have hpend : ¬ ((p.holdReply true).staging.pending = true) := by simp [hp]
  refine ⟨?_, ?_, ?_, ?_⟩
  · intro seat enabled role cal layers colour forced colourByte forcedByte address baseX baseY ex ey hc hf
      w e hroom
    refine exec_answered (r := .writeIdentity w)
      (q := { p.holdReply true with
        staged := { p.staged with identity := put p.staged.identity seat e } }) h rfl ?_ rest
    have hw : identityOf? w = some (seat, e) :=
      identityOf_sent seat enabled role cal layers address baseX baseY hc hf fun hs => by
        obtain ⟨h1, h2, h3, h4, h5, h6, h7, h8, -⟩ := hroom hs
        exact ⟨h1, h2, h3, h4, h5, h6, h7, h8⟩
    have hfree : addressConflict p.staged seat e = false :=
      addressConflict_eq_false fun hs he j hj hne hje => by
        obtain ⟨-, -, -, -, -, -, -, -, hd⟩ := hroom hs
        rw [show e.address = some address from if_pos hs]
        exact hd he j hj hne hje
    show ownWriteIdentity w _ = _
    rw [ownWriteIdentity, if_neg hpend, hw]
    exact if_neg (by rw [Part.holdReply_staged, hfree]; exact Bool.false_ne_true)
  · intro page index r hr
    refine exec_answered (r := .writeRule _) (q := { p.holdReply true with
      staged := p.staged.setRule page index r }) h rfl ?_ rest
    show ownWriteRule _ _ = _
    rw [ownWriteRule, if_neg hpend, ruleOf_sent page index hr]
    rfl
  · intro page a
    refine exec_answered (r := .setDefaultAction _ _) (q := { p.holdReply true with
      staged := { p.staged with defaults := put p.staged.defaults page a } }) h rfl ?_ rest
    show ownSetDefaultAction _ _ _ = _
    rw [ownSetDefaultAction, if_neg hpend, finOf_byteOf_8, DefaultAction.of_code]
    rfl
  · intro page
    refine exec_answered (r := .selectPage _) (q := { p.holdReply true with
      staged := { p.staged with page := page } }) h rfl ?_ rest
    show ownSelectPage _ _ = _
    rw [ownSelectPage, if_neg hpend, finOf_byteOf_8]
    rfl

/-! ### The reads (R17, R30, R68, R70, R112, R131, R184) -/

/-- A read reports on the part and changes nothing but the reply queue. -/
theorem exec_read {c : Instr} {req : Requester} {r : Request} {p : Part} {body : ReplyBody}
    (h : p.takes) (hc : c.request? = some (req, r))
    (ho : ownerOf r (p.holdReply true) = taken body (p.holdReply true)) (rest : List Instr) :
    exec c ⟨p, rest⟩ = .next ⟨answered req r.code .ok body p, rest⟩ :=
  exec_answered (q := p.holdReply true) h hc ho rest

theorem atWatermark_iff (p : Part) (d : Dest) :
    p.atWatermark d = true ↔ (p.queue d).watermark ≤ (p.queue d).items.length :=
  decide_eq_true_iff

/-- A layer is congested when a queue of its destinations is at its watermark (R138). -/
theorem congested_iff (p : Part) (l : Fin 8) : p.congested l = true ↔
    ∃ d, (p.layer l).mode.dests.has d = true ∧ (p.queue d).watermark ≤ (p.queue d).items.length := by
  simp only [Part.congested, List.any_eq_true, DestSet.mem_toList, atWatermark_iff]

theorem layerReport_atWatermark (p : Part) (l : Fin 8) (d : Dest) :
    (p.layerReport l).atWatermark.has d = true ↔
      (p.layer l).mode.dests.has d = true ∧ (p.queue d).watermark ≤ (p.queue d).items.length := by
  rw [← atWatermark_iff, ← Bool.and_eq_true]
  cases d <;> rfl

/-- A report is of an occupied entry, and carries its index (R112). -/
theorem report_eq_some {i : Fin 48} {x : Entry} {r : StrokeReport} (h : x.report i = some r) :
    r.index = i ∧ ((∃ c a, x = .opened c a ∧ r = ⟨i, c, DestSet.empty, a.pending.length, none⟩) ∨
      ∃ c e, x = .ending c e ∧ r = ⟨i, c, e.delivered, 0, some (e.reason, e.endTick, e.waitsOn)⟩) := by
  cases x with
  | free => cases h
  | opened c a => cases h; exact ⟨rfl, .inl ⟨c, a, rfl, rfl⟩⟩
  | ending c e => cases h; exact ⟨rfl, .inr ⟨c, e, rfl, rfl⟩⟩

theorem index_filterMap_report (p : Part) (l : List (Fin 48)) :
    (l.filterMap fun i => (p.entry i).report i).map StrokeReport.index =
      l.filter fun i => (p.entry i).isOccupied := by
  induction l with
  | nil => rfl
  | cons i t ih =>
    rw [List.filterMap_cons, List.filter_cons]
    cases he : p.entry i <;> simpa [Entry.report, Entry.isOccupied, Entry.core?] using ih

/-- The indexes reported from a start on: the occupied entries, ascending (R112). -/
theorem index_reportsFrom (p : Part) (start : Nat) :
    (p.reportsFrom start).map StrokeReport.index =
      (indexes 48).filter fun i => decide (start ≤ i.val) && (p.entry i).isOccupied := by
  rw [Part.reportsFrom, index_filterMap_report, List.filter_filter]
  exact List.filter_congr fun i _ => Bool.and_comm _ _

/-- Settles O41: each read is its owner's report on the part as it stands. -/
theorem readsReportTheState : Obligations.ReadsReportTheState := by
  intro req p rest h
  refine ⟨?_, ?_, ?_, ?_, ?_, ?_, ?_⟩
  · intro seat copy
    refine exec_read (r := .readIdentity _ _) h rfl ?_ rest
    show ownReadIdentity _ _ _ = _
    rw [ownReadIdentity, finOf_byteOf_72]
    cases copy <;> rfl
  · intro page index copy
    refine exec_read (r := .readRule _ _ _) h rfl ?_ rest
    show ownReadRule _ _ _ _ = _
    rw [ownReadRule, finOf_byteOf_8, finOf_byteOf_16]
    cases copy <;> rfl
  · intro i
    refine exec_read (r := .readCalibration _) h rfl ?_ rest
    show ownReadCalibration _ _ = _
    rw [ownReadCalibration, finOf_byteOf_16]
    rfl
  · intro t
    refine exec_read (r := .readWidthTable _) h rfl ?_ rest
    show ownReadWidthTable _ _ = _
    rw [ownReadWidthTable, toolTable?, Tool.of_code]
    rfl
  · refine ⟨Vector.ofFn p.layerReport, exec_read (r := .readLayers) h rfl rfl rest, fun l => ?_⟩
    rw [look_ofFn]
    exact ⟨rfl, rfl, rfl, rfl, congested_iff p l, layerReport_atWatermark p l⟩
  · intro start hs
    refine ⟨p.strokesReport start.toNat, exec_read (r := .readStrokes _) h rfl (if_pos hs) rest, rfl, rfl,
      rfl, ?_, ?_, ?_⟩
    · rw [← index_reportsFrom, ← List.map_take]
      rfl
    · rw [← index_reportsFrom, ← List.map_drop, List.head?_map]
      rfl
    · intro x hx
      obtain ⟨i, -, hi⟩ := List.mem_filterMap.1 (List.mem_of_mem_take hx)
      obtain ⟨rfl, hr⟩ := report_eq_some hi
      exact hr
  · exact exec_read (r := .readErrors) h rfl rfl rest

end Sys2Proof.Machine
end

section
/-! SUPPORT. The tick of an empty queue (R10, R33, R38), the reset values of every block (R187), and the soft reset
(R170). -/

namespace Sys2Proof.Machine

/-! ### One tick (R33) -/

theorem takenOrder_perm (draw : Nat) (due : List Instr) : (takenOrder draw due).Perm due := by
  unfold takenOrder
  split
  · next h => exact List.isPerm_iff.1 h
  · exact .refl _

theorem quietDue_iff (p : Part) (seat : Fin 72) : p.quietDue seat = true ↔
    ∃ interval, (p.seat seat).quiet = some interval ∧
      interval ≤ (p.tick - (p.seat seat).lastTick).toNat := by
  unfold Part.quietDue
  split
  · next i hi => simp only [reached, decide_eq_true_eq, hi, Option.some.injEq, exists_eq_left']
  · next hi => simp [hi]

theorem frameDue_iff (p : Part) : p.frameDue = true ↔
    ∃ d, p.monitor.deadline = some d ∧ d.interval ≤ (p.tick - d.armed).toNat := by
  unfold Part.frameDue
  split
  · next d hd => simp only [reached, decide_eq_true_eq, hd, Option.some.injEq, exists_eq_left']
  · next hd => simp [hd]

theorem mem_dueExpiries {p : Part} {c : Instr} : c ∈ p.dueExpiries ↔
    (∃ seat, p.quietDue seat = true ∧ c = .quietExpiry seat) ∨
      p.frameDue = true ∧ c = .substituteMark := by
  simp only [Part.dueExpiries, List.mem_append, List.mem_map, List.mem_filter, mem_indexes, true_and,
    List.mem_ite_nil_right, List.mem_singleton]
  exact or_congr_left ⟨fun ⟨s, h, e⟩ => ⟨s, h, e.symm⟩, fun ⟨s, h, e⟩ => ⟨s, h, e.symm⟩⟩

theorem quietExpiry_mem_dueExpiries {p : Part} {seat : Fin 72} :
    Instr.quietExpiry seat ∈ p.dueExpiries ↔ p.quietDue seat = true := by
  simp [mem_dueExpiries]

theorem substituteMark_mem_dueExpiries {p : Part} :
    Instr.substituteMark ∈ p.dueExpiries ↔ p.frameDue = true := by
  simp [mem_dueExpiries]

/-- No deadline waits twice: each seat has one, and the mark's is of no seat. -/
theorem dueExpiries_nodup (p : Part) : p.dueExpiries.Nodup := by
  refine List.Nodup.append (List.Nodup.map (fun _ _ h => by cases h; rfl)
    ((indexes_nodup 72).filter _)) (by split <;> simp) ?_
  intro c h1 h2
  obtain ⟨s, -, rfl⟩ := List.mem_map.1 h1
  simp at h2

/-- Settles O2: what waits after a tick is a rearrangement of the deadlines due at the new count. -/
theorem emptyQueueLetsATickPass : Obligations.EmptyQueueLetsATickPass := by
  intro p
  refine ⟨fun h => congrArg Host.Outcome.next (if_pos h), fun h => ?_⟩
  obtain ⟨due, draws, hstep, hperm⟩ : ∃ due draws,
      idleTick ⟨p, []⟩ = ⟨{ p with tick := p.tick + 1, freeDraws := draws }, due⟩ ∧
        due.Perm p.advance.dueExpiries := by
    unfold idleTick
    rw [if_neg (by simp [h])]
    simp only [drawOrder]
    split
    · exact ⟨_, p.freeDraws, rfl, .refl _⟩
    · exact ⟨_, p.freeDraws + 1, rfl, takenOrder_perm _ _⟩
  refine ⟨due, draws, congrArg Host.Outcome.next hstep, hperm.nodup_iff.2 (dueExpiries_nodup _), ?_, ?_, ?_⟩
  · intro c hc
    rcases mem_dueExpiries.1 (hperm.mem_iff.1 hc) with ⟨s, -, rfl⟩ | ⟨-, rfl⟩
    · exact .inr ⟨s, rfl⟩
    · exact .inl rfl
  · intro seat
    rw [hperm.mem_iff, quietExpiry_mem_dueExpiries, quietDue_iff]
    rfl
  · rw [hperm.mem_iff, substituteMark_mem_dueExpiries, frameDue_iff]
    rfl

/-! ### The reset values, block by block (R187) -/

@[simp] theorem resetPart_entry (i : Fin 48) : resetPart.entry i = .free := look_fill ..

@[simp] theorem resetPart_seat (seat : Fin 72) : resetPart.seat seat = ⟨none, 0, none, 0, 0, none, none⟩ :=
  look_fill ..

@[simp] theorem resetPart_layer (l : Fin 8) :
    resetPart.layer l = ⟨.closed, ⟨1, 0, 8, .sequential, ⟨true, true, true⟩⟩, 0⟩ := look_fill ..

@[simp] theorem resetPart_queue (d : Dest) : resetPart.queue d = resetQueue d := by cases d <;> rfl

theorem resetTables_identity (seat : Fin 72) : look resetTables.identity seat = resetIdentity seat :=
  look_ofFn ..

theorem resetTables_rule (page : Fin 8) (i : Fin 16) :
    look (look resetTables.pages page) i = resetRule := by
  rw [resetTables, look_fill, look_fill]

theorem resetTables_default (page : Fin 8) : look resetTables.defaults page = .deny := look_fill ..

theorem reset_calibration (c : Conditioning) (i : Fin 16) :
    look c.reset.sets i = ⟨(look c.sets i).stored, none, 0, 0⟩ := by
  simp only [Conditioning.reset, Conditioning.load, Conditioning.image, look_map, freshSet]

theorem keep_item (e : Errors) (k : Fin 13) : look e.keep.items k = { look e.items k with counter := 0 } := by
  simp only [Errors.keep, look_map]

/-- A part whose blocks were all reset has the reset values, whatever its phase, monitor, reply queue and
offer (R187). -/
theorem blocksReset_of {p q : Part} {phase : Phase} {o : Offer} {a : Agent} {m : Monitor}
    (h : q = { resetBlocks phase p with
      agent := a, monitor := m, egress := { (resetBlocks phase p).egress with offer := o } }) :
    BlocksReset p q := by
  subst h
  exact {
    tick := rfl
    seats := resetPart_seat
    identity := fun copy => by cases copy <;> exact resetTables_identity
    rules := fun copy => by cases copy <;> exact resetTables_rule
    defaults := fun copy => by cases copy <;> exact resetTables_default
    page := fun copy => by cases copy <;> rfl
    staging := rfl
    timing := rfl
    canvas := ⟨rfl, rfl⟩
    estimators := fun i => by
      show (look p.conditioning.reset.sets i).estimate = none ∧
        (look p.conditioning.reset.sets i).sum = 0 ∧ (look p.conditioning.reset.sets i).count = 0
      rw [reset_calibration]
      exact ⟨rfl, rfl, rfl⟩
    entries := resetPart_entry
    ids := ⟨rfl, rfl⟩
    strokes := rfl
    refusals := rfl
    receivers := rfl
    layers := resetPart_layer
    display := rfl
    fanout := rfl
    record := rfl
    held := rfl
    egress := rfl
    history := rfl
    items := keep_item p.errors
    log := rfl
    alert := rfl
    store := ⟨rfl, rfl⟩
    sent := rfl }

/-! ### The end of a hard reset (R187) -/

/-- With nothing queued, a part has nothing to send. -/
theorem settled_of_empty {p : Part} (hd : p.queues.display.items = []) (hr : p.queues.record.items = [])
    (hf : p.queues.fanout.items = []) (ha : p.agent.replies = []) : p.Settled where
  display _ h := absurd hd h
  record _ h := absurd hr h
  room _ _ h := absurd h (by simp [hf, ha])

/-- Settles O5: the reset blocks are left as they are, because nothing is queued. -/
theorem resetEndGivesTheResetValues : Obligations.ResetEndGivesTheResetValues := by
  intro p rest cause h
  have hs : settle (resetEnds p) = resetBlocks (.loading cause) p := by
    rw [resetEnds, h]
    exact settle_self (settled_of_empty rfl rfl rfl rfl)
  refine ⟨resetBlocks (.loading cause) p, ?_, rfl, blocksReset_of rfl, rfl, rfl, rfl⟩
  rw [← hs]
  rfl

/-! ### The soft reset (R170) -/

/-- The part right after a soft reset's blocks are reset, with its frame deadline armed. -/
def softBlocks (p : Part) : Part :=
  { resetBlocks .ready p with monitor := ⟨.noMarks, 0, none, 0, 0, 0, 0, 0, some ⟨0, 500⟩⟩ }

/-- All that a soft reset does: RESTARTED alone stands in the reply queue, under offer when the bridge is
ready. -/
theorem softReset_eq (p : Part) : softReset p =
    { softBlocks p with
      agent := ⟨[⟨.notice (.restarted .soft .notLoaded), 0, 0⟩], 1, false, 0⟩
      egress := { (softBlocks p).egress with
        offer := if p.egress.bridgeReady = true then .reply else .none } } := by
  have h : softReset p = joinReply (.notice (.restarted .soft .notLoaded)) (softBlocks p) := rfl
  rw [h, joinReply, roomChoose_eq]
  by_cases hb : p.egress.bridgeReady = true
  · rw [if_pos ⟨rfl, hb⟩, if_pos hb]
    rfl
  · rw [if_neg fun h => hb h.2, if_neg hb]
    rfl

/-- Settles O7: a soft reset resets the blocks, and the RESTARTED it builds is all that may be offered. -/
theorem resetPartIsASoftReset : Obligations.ResetPartIsASoftReset := by
  intro req p rest h
  have hq : exec (.resetPart req) ⟨p, rest⟩ = .next ⟨softReset p, rest⟩ := by
    show request req .resetPart ownResetPart ⟨p, rest⟩ = _
    rw [request, event_next rest (inReset_of_ready h.1), takeRequest_takes h]
    have hf : finish (headOf req Request.resetPart.code Request.resetPart.body)
        (ownResetPart (p.holdReply true)) = softReset p := by
      show (softReset (p.holdReply true)).holdReply false = _
      rw [softReset_eq, softReset_eq]
      rfl
    rw [hf, settle_self]
    rw [softReset_eq]
    exact ⟨fun _ h => absurd rfl h, fun _ h => absurd rfl h,
      fun _ hb _ => by rw [show p.egress.bridgeReady = true from hb]; simp⟩
  refine ⟨softReset p, hq, ?_⟩
  rw [softReset_eq]
  exact ⟨rfl, blocksReset_of rfl, rfl, rfl, reset_calibration p.conditioning, rfl, rfl, rfl, rfl⟩

/-! ### The laws of a safe state after reset -/

/-- Among FREE entries none satisfies a test that no FREE entry does. -/
theorem countEntries_resetPart {f : Entry → Bool} (h : f .free = false) : resetPart.countEntries f = 0 := by
  rw [Part.countEntries, toList_eq_map, List.countP_eq_zero]
  intro e he
  obtain ⟨i, -, rfl⟩ := List.mem_map.1 he
  rw [show look resetPart.assembler.entries i = .free from resetPart_entry i, h]
  exact Bool.false_ne_true

theorem resetPart_items (d : Dest) : (resetPart.queue d).items = [] := by cases d <;> rfl

theorem resetPart_bounded : resetPart.Bounded where
  ink d := by
    show (resetPart.queue d).items.length ≤ _
    rw [resetPart_items]
    exact Nat.zero_le _
  replies := Nat.zero_le _
  credit := Nat.zero_le _
  history := Nat.zero_le _
  unread := le_refl _

theorem resetPart_offerStands : resetPart.OfferStands where
  reply h := by cases h
  fanout h := by cases h
  ready h := absurd rfl h

theorem resetPart_logAgrees : resetPart.LogAgrees := by
  intro l h
  cases h

theorem resetPart_seatsAgree : resetPart.SeatsAgree where
  reference seat i := by simp
  exclusive seat := by simp

theorem resetPart_layersAgree : resetPart.LayersAgree where
  count l := by rw [resetPart_layer, countEntries_resetPart rfl]
  closed l _ := by rw [resetPart_layer]
  draining l h := by rw [resetPart_layer] at h; cases h

theorem resetPart_heldIds : resetPart.heldIds = [] := by
  have h : resetPart.assembler.entries.toList.filterMap Entry.core? = [] := by
    rw [List.filterMap_eq_nil_iff, toList_eq_map, List.forall_mem_map]
    exact fun i _ => congrArg Entry.core? (resetPart_entry i)
  rw [Part.heldIds, h]
  rfl

theorem resetPart_idsUnique : resetPart.IdsUnique where
  nodup := by rw [resetPart_heldIds]; exact .nil
  range v h := by rw [resetPart_heldIds] at h; cases h
  next := ⟨le_refl _, by decide⟩
  history := Nat.zero_le _

theorem resetPart_waitingAgrees : resetPart.WaitingAgrees where
  free := rfl
  ink := resetPart_bounded.ink
  once d := by rw [resetPart_queue]; exact .nil
  names d i := by simp [resetQueue, Entry.waitsFor]
  waits i c e h := by rw [resetPart_entry] at h; cases h
  apart i c e d h := by rw [resetPart_entry] at h; cases h
  full d h := by rw [resetPart_queue] at h; exact absurd rfl h

theorem resetPart_recordsOrdered : resetPart.RecordsOrdered where
  pairs d := by rw [resetPart_items]; exact .nil
  distinct i j ci cj h := by rw [resetPart_entry] at h; cases h
  entriesOlder i c h := by rw [resetPart_entry] at h; cases h
  itemsOlder d x n h := by rw [resetPart_items] at h; cases h
  ended d x i c h := by rw [resetPart_items] at h; cases h
  endRecord i c e h := by rw [resetPart_entry] at h; cases h

theorem resetPart_strokesSound : resetPart.StrokesSound where
  strokes i c a h := by rw [resetPart_entry] at h; cases h
  inside i c a h := by rw [resetPart_entry] at h; cases h
  canvas := by decide
  chop l := by rw [resetPart_layer]; decide

/-- No kind's status is set after a power-on reset (R180). -/
theorem powerOnErrors_status (k : Fin 13) : (look powerOnErrors.items k).status = false := by
  rw [powerOnErrors, look_map]

/-- Settles O59: each law by the reset values of the blocks it speaks of. -/
theorem resetStateIsSafe : Obligations.ResetStateIsSafe := by
  have hshare : resetPart.RoomShare := by
    rw [Part.RoomShare, countEntries_resetPart rfl]
    exact Nat.zero_le _
  have hstatus : ¬ ∃ k : Fin 13, (look resetPart.errors.items k).status = true ∧
      (look resetPart.errors.items k).mask = false ∧
      (look resetPart.errors.items k).severity = .alert := fun ⟨k, h, _⟩ =>
    Bool.noConfusion ((powerOnErrors_status k).symm.trans h)
  exact ⟨resetPart_bounded, settled_of_empty rfl rfl rfl rfl, resetPart_offerStands, ⟨rfl, rfl⟩,
    resetPart_seatsAgree, hshare, resetPart_layersAgree, resetPart_idsUnique, resetPart_waitingAgrees,
    resetPart_recordsOrdered, TableStep.sound_of_reset rfl rfl, iff_of_false Bool.false_ne_true hstatus,
    resetPart_logAgrees, resetPart_strokesSound⟩

end Sys2Proof.Machine
end

section
/-! SUPPORT. What the receivers make of a frame, by its form (R1 to R6, R165), and the frames that leave no trace in
LOADING (R4, R36, R145, R147). -/

namespace Sys2Proof.Machine

/-! ### The receivers, by the form of the frame (R1 to R6) -/

theorem formOf_eq_management {frame : List Byte} (h : formOf frame = .management) :
    10 ≤ frame.length ∧ byteAt frame 0 = 0x02 := by
  simp only [formOf] at h
  split_ifs at h with hlen hink hcount hkind
  · split at h <;> cases h
  · exact ⟨by omega, hkind⟩

section
variable {port : Port} {frame : List Byte} {p : Part}

theorem receive_failing (hl : p.isLoading = false) (hc : codeMatches frame = false) :
    receive port frame p = raise .linkCheck (frameSource port frame)
      (p.countLink port fun c => { c with checkDrops := min 65535 (c.checkDrops + 1) }) := by
  simp only [receive, hc, hl, if_true, Bool.false_eq_true, if_false]
  rfl

theorem receive_malformed (hl : p.isLoading = false) (hc : codeMatches frame = true)
    (hf : formOf frame = .malformed) : receive port frame p = raise .malformedFrame (frameSource port frame)
      (p.countLink port fun c => { c with malformedDrops := min 65535 (c.malformedDrops + 1) }) := by
  simp only [receive, hc, hl, hf, Bool.true_eq_false, Bool.false_eq_true, if_false]
  rfl

theorem receive_misplaced (hl : p.isLoading = false) (hc : codeMatches frame = true)
    (hf : formOf frame = .management) (ha : accepted port frame = false) :
    receive port frame p = raise .misplacedManagement (frameSource port frame) p := by
  simp only [receive, hc, hl, hf, ha, misplaced, Bool.true_eq_false, Bool.false_eq_true, if_false]

theorem receive_ink {seq : Byte} {samples : List Sample} (hl : p.isLoading = false)
    (hc : codeMatches frame = true) (hf : formOf frame = .ink seq samples) :
    receive port frame p = takeInkFrame port frame seq samples p := by
  simp only [receive, hc, hl, hf, Bool.true_eq_false, Bool.false_eq_true, if_false]

/-- In LOADING a frame that is no management frame for the agent is dropped in silence (R4, R165). -/
theorem receive_loading (hl : p.isLoading = true)
    (h : codeMatches frame = true → formOf frame = .management → accepted port frame = false) :
    receive port frame p = p := by
  unfold receive
  simp only [hl, if_true]
  split
  · rfl
  · next hc =>
    split
    · rfl
    · next hf => rw [h (by simpa using hc) hf, if_neg Bool.false_ne_true, misplaced, if_pos hl]
    · rfl

end

theorem be16_inj {a b : Half} : be16 a = be16 b ↔ a = b := by
  refine ⟨fun h => ?_, fun h => h ▸ rfl⟩
  obtain ⟨h1, h0⟩ : a.extractLsb' 8 8 = b.extractLsb' 8 8 ∧ a.extractLsb' 0 8 = b.extractLsb' 0 8 := by
    simpa [be16] using h
  rw [← read16_be16 a, ← read16_be16 b, h1, h0]

/-- Bytes closed by two more pass exactly when those are their code (R1). -/
theorem codeMatches_append_be16 {bytes : List Byte} {code : Half} :
    codeMatches (bytes ++ be16 code) = true ↔ code = crc bytes := by
  simp [codeMatches, length_be16, be16_inj]

/-! ### LOADING (R4, R36, R145, R147, R165) -/

/-- An event that leaves a settled part as it is leaves no trace. -/
theorem event_silent {f : Part → Part} {p : Part} (h : p.Settled) (hf : f p = p) (rest : List Instr) :
    event f ⟨p, rest⟩ = .next ⟨p, rest⟩ := by
  simp only [event, hf, settle_self h, ite_self]

/-- In LOADING only a grant acts on the display link (R36, R145, R147). -/
theorem takeDisplayFrame_loading {frame : List Byte} {p : Part} (hl : p.isLoading = true)
    (h : codeMatches frame = true → ∀ count, displayForm frame ≠ .grant count) :
    takeDisplayFrame frame p = p := by
  unfold takeDisplayFrame
  simp only [hl, if_true]
  split
  · next hc =>
    split
    · rfl
    · next count hd => exact absurd hd (h hc count)
    · rfl
  · rfl

/-- Settles O8, link by link. -/
theorem loadingDiscardsInSilence : Obligations.LoadingDiscardsInSilence := by
  intro p rest hl hs
  refine ⟨?_, ?_, ?_, ?_, ?_⟩
  · exact fun frame => event_silent hs (receive_loading hl fun _ _ => rfl) rest
  · intro frame h
    refine event_silent hs (receive_loading hl fun hc hf => ?_) rest
    obtain ⟨hlen, hkind⟩ := formOf_eq_management hf
    rcases h with h | h | h | h
    · exact absurd (hc.symm.trans h) (by decide)
    · omega
    · exact absurd hkind h
    · simp [accepted, h]
  · exact fun number code => event_silent hs
      (takeDisplayFrame_loading hl fun _ _ h => DisplayForm.noConfusion h) rest
  · intro count code hne
    refine event_silent hs (takeDisplayFrame_loading hl fun hc => ?_) rest
    exact absurd (codeMatches_append_be16.1 hc) hne
  · intro frame hw
    refine event_silent hs (takeDisplayFrame_loading hl fun _ count => ?_) rest
    rw [displayForm_other (by simpa [Instr.wellFormed] using hw)]
    nofun

/-! ### Frames dropped in READY (R1, R2, R5, R6, R165) -/

theorem exec_arrival {port : Port} (hp : port = .room ∨ port = .board) (frame : List Byte) {p : Part}
    (h : p.phase = .ready) (rest : List Instr) :
    exec (arrival port frame) ⟨p, rest⟩ = .next ⟨settle (receive port frame p), rest⟩ := by
  rcases hp with rfl | rfl <;> exact event_next rest (inReset_of_ready h)

theorem roomSeatOf_eq_none {t : Tables} {source : Half} (h : ∀ seat : Fin 72, seat.val < 64 →
    (look t.identity seat).enabled = true → (look t.identity seat).address ≠ some source) :
    roomSeatOf t source = none := by
  rw [roomSeatOf, List.find?_eq_none]
  intro seat _ hs
  simp only [Bool.and_eq_true, decide_eq_true_eq, isRoomSeat] at hs
  obtain ⟨⟨hr, he⟩, ha⟩ := hs
  exact h seat hr he ha

theorem boardSeatOf_eq_none {t : Tables} {slot : Half} (h : ∀ seat : Fin 72, seat.val = 64 + slot.toNat →
    (look t.identity seat).enabled = false) : boardSeatOf t slot = none := by
  unfold boardSeatOf
  split
  · exact if_neg (by rw [h _ rfl]; exact Bool.false_ne_true)
  · rfl

/-- What the receivers supply to the log for an ink frame (R5, R8). -/
theorem frameSource_inkFrame (port : Port) (channel : Byte) (source : Half) (seq : Byte)
    (samples : List Sample) : frameSource port (inkFrame channel source seq samples) =
      ⟨some port, some (channel.toNat % 16), some source, none,
        (inkFrame channel source seq samples).take 8⟩ := by
  rw [frameSource, if_pos (by rw [length_inkFrame]; omega), if_pos (by rw [length_inkFrame]; omega),
    channelOf_inkFrame, addressOf_inkFrame]
  rfl

/-- Settles O17, by the form of the frame. -/
theorem droppedFramesAreCountedAndRaised : Obligations.DroppedFramesAreCountedAndRaised := by
  refine ⟨fun port frame p rest hp h => ⟨fun hc => ?_, fun hc hf => ?_, fun hc hf hm => ?_⟩,
    fun port channel source seq samples p rest h1 h8 hfit h hs => ?_⟩
  · rw [exec_arrival hp frame h, receive_failing (isLoading_of_ready h) hc]
    rfl
  · rw [exec_arrival hp frame h, receive_malformed (isLoading_of_ready h) hc hf]
    rfl
  · have ha : accepted port frame = false := by
      rcases hm with rfl | hm
      · rfl
      · simp only [accepted, channelOf, hm, decide_false, Bool.and_false]
    rw [exec_arrival hp frame h, receive_misplaced (isLoading_of_ready h) hc hf ha]
    rfl
  · have hp : port = .room ∨ port = .board := hs.imp And.left And.left
    rw [exec_arrival hp _ h, receive_ink (isLoading_of_ready h) (codeMatches_inkFrame ..)
      (formOf_inkFrame _ _ _ _ h1 h8 hfit), takeInkFrame]
    rcases hs with ⟨rfl, hs⟩ | ⟨rfl, hs⟩
    · have hn : lookupSeat .room (inkFrame channel source seq samples) p.active = none := by
        rw [lookupSeat, addressOf_inkFrame, roomSeatOf_eq_none hs]
        nofun
      rw [hn]
      simp only [unknownSource, unknownSourceOf, frameSource_inkFrame, if_true]
      rfl
    · have hn : lookupSeat .board (inkFrame channel source seq samples) p.active = none := by
        rw [lookupSeat, addressOf_inkFrame, boardSeatOf_eq_none hs]
      rw [hn]
      simp only [unknownSource, unknownSourceOf, boardUnknownSource, frameSource_inkFrame]
      rfl

end Sys2Proof.Machine
end

section
/-! SUPPORT. The operations that raise errors and end strokes neither read nor change the receivers' counters and the
frame monitor, nor the seats but for the open stroke reference: so they commute with changes of those three blocks. -/

namespace Sys2Proof.Machine

/-- The part with its receivers, seats and frame monitor changed. -/
def Part.aside (p : Part) (f : Receivers → Receivers) (g : Vector Seat 72 → Vector Seat 72)
    (h : Monitor → Monitor) : Part :=
  { p with receivers := f p.receivers, seats := g p.seats, monitor := h p.monitor }

/-- An operation neither reads nor changes receivers, seats and frame monitor. -/
def Blind (F : Part → Part) : Prop := ∀ p f g h, (F p).aside f g h = F (p.aside f g h)

theorem Blind.comp {F G : Part → Part} (hG : Blind G) (hF : Blind F) : Blind fun p => G (F p) :=
  fun p f g h => (hG (F p) f g h).trans (congrArg G (hF p f g h))

theorem Blind.when {F : Part → Part} (hF : Blind F) (b : Bool) : Blind fun p => if b then F p else p := by
  cases b
  · exact fun _ _ _ _ => rfl
  · exact hF

theorem Blind.foldl {α : Type} {F : Part → α → Part} (hF : ∀ x, Blind fun p => F p x) (l : List α) :
    Blind fun p => l.foldl F p := by
  induction l with
  | nil => exact fun _ _ _ _ => rfl
  | cons x t ih => exact ih.comp (hF x)

section
variable (f : Receivers → Receivers) (g : Vector Seat 72 → Vector Seat 72) (h : Monitor → Monitor)

@[simp] theorem Part.aside_entry (p : Part) (i : Fin 48) : (p.aside f g h).entry i = p.entry i := rfl

end

/-! ### The reply queue and the error monitor (R150, R171, R181) -/

theorem roomChoose_blind : Blind roomChoose := fun p f g h =>
  apply_ite (fun q : Part => q.aside f g h) (p.egress.offer = .none ∧ p.egress.bridgeReady = true)
    (p.setOffer p.choice) p

theorem joinReply_blind (r : ReplyFrame) : Blind (joinReply r) := fun _ f g h => roomChoose_blind _ f g h

theorem notice_blind (n : Notice) : Blind (notice n) := by
  intro p f g h
  by_cases hc : p.agent.replies.length < p.noticeLimit
  · have hc' : (p.aside f g h).agent.replies.length < (p.aside f g h).noticeLimit := hc
    rw [notice, if_pos hc, notice, if_pos hc']
    exact joinReply_blind _ p f g h
  · have hc' : ¬ (p.aside f g h).agent.replies.length < (p.aside f g h).noticeLimit := hc
    rw [notice, if_neg hc, notice, if_neg hc']
    rfl

theorem logFirst_blind (k : ErrorKind) (src : ErrorSource) : Blind fun p => p.logFirst k src :=
  fun p f g h => apply_ite (fun q : Part => q.aside f g h) (p.errors.log = none)
    { p with errors := { p.errors with log := some ⟨k, src, p.tick⟩ } } p

theorem raise_blind (k : ErrorKind) (src : ErrorSource) : Blind (raise k src) := by
  intro p f g h
  have hset : Blind fun q => q.setErrorItems (put q.errors.items k.index
      { look p.errors.items k.index with
        status := true
        counter := bump (look p.errors.items k.index).counter }) := fun _ _ _ _ => rfl
  have hnotice := (notice_blind (.errorNotice k p.tick)).when
    ((!(look p.errors.items k.index).mask && !(look p.errors.items k.index).status) &&
      decide ((look p.errors.items k.index).severity = .alert))
  have hlog := (logFirst_blind k src).when
    (!(look p.errors.items k.index).mask && !(look p.errors.items k.index).status)
  exact (hset.comp (hnotice.comp hlog)) p f g h

/-! ### The ink queues (R135 to R139) -/

theorem joinInk_blind (d : Dest) (r : InkRecord) (serial : Option Nat) : Blind (joinInk d r serial) := by
  intro p f g h
  cases d
  · rfl
  · exact roomChoose_blind _ f g h
  · rfl

theorem dropOldest_blind (d : Dest) (seat : Fin 72) (removed : QueueItem) (rest : List QueueItem) :
    Blind (dropOldest d seat removed rest) := fun _ f g h => raise_blind _ _ _ f g h

theorem handInk_aside (d : Dest) (r : InkRecord) (serial : Nat) (seat : Fin 72) (p : Part)
    (f : Receivers → Receivers) (g : Vector Seat 72 → Vector Seat 72) (h : Monitor → Monitor) :
    handInk d r serial seat (p.aside f g h) =
      ((handInk d r serial seat p).1, (handInk d r serial seat p).2.aside f g h) := by
  unfold handInk
  rw [show (p.aside f g h).hasRoom d = p.hasRoom d from rfl,
    show (p.aside f g h).queue d = p.queue d from rfl,
    show (p.aside f g h).takeEligible d = p.takeEligible d from rfl]
  cases p.hasRoom d
  · cases (p.queue d).policy
    · rfl
    · cases p.takeEligible d with
      | none => rfl
      | some x =>
        simp only [Bool.false_eq_true, if_false]
        rw [← dropOldest_blind, ← joinInk_blind]
  · simp only [if_true]
    rw [← joinInk_blind]

theorem handPoints_blind (i : Fin 48) (c : StrokeCore) (order : PointOrder) (pts : List Point) (d : Dest) :
    Blind fun p => handPoints i c order pts p d := by
  intro p f g h
  simp only [handPoints]
  rw [handInk_aside]
  cases handInk d (.points c.id (orderFor order d) pts) c.serial c.seat p with
  | mk taken q =>
    cases taken
    · exact raise_blind _ _ _ f g h
    · rfl

theorem emitPoints_blind (i : Fin 48) : Blind (emitPoints i) := by
  intro p f g h
  unfold emitPoints
  rw [Part.aside_entry]
  cases p.entry i with
  | free => rfl
  | ending c e => rfl
  | opened c a =>
    cases hp : a.pending with
    | nil => simp only [hp]
    | cons q t =>
      simp only [hp]
      exact Blind.foldl (fun d => handPoints_blind i c (p.layer c.layer).mode.order (q :: t) d) c.targets
        (p.setEntry i (.opened c { a with pending := [] })) f g h

/-! ### The end of a stroke (R101) -/

theorem updateEnding_blind (i : Fin 48) (u : Ending → Ending) : Blind fun p => p.updateEnding i u := by
  intro p f g h
  simp only [Part.updateEnding, Part.aside_entry]
  cases p.entry i <;> rfl

theorem complete_blind (i : Fin 48) : Blind (complete i) := by
  intro p f g h
  unfold complete
  rw [Part.aside_entry]
  cases p.entry i <;> rfl

theorem handEnd_blind (i : Fin 48) (c : StrokeCore) (r : InkRecord) (d : Dest) :
    Blind fun p => handEnd i c r p d := by
  intro p f g h
  simp only [handEnd]
  rw [handInk_aside]
  cases handInk d r c.serial c.seat p with
  | mk taken q =>
    cases taken
    · simp only [← updateEnding_blind i _ q f g h]
      exact raise_blind _ _ _ f g h
    · exact updateEnding_blind i _ q f g h

theorem deliverEnd_blind (i : Fin 48) (c : StrokeCore) (r : InkRecord) : Blind (deliverEnd i c r) := by
  intro p f g h
  have hf : (c.targets.foldl (handEnd i c r) p).aside f g h =
      c.targets.foldl (handEnd i c r) (p.aside f g h) :=
    Blind.foldl (fun d => handEnd_blind i c r d) c.targets p f g h
  unfold deliverEnd
  simp only [← hf, Part.aside_entry]
  set q := c.targets.foldl (handEnd i c r) p
  cases q.entry i with
  | free => rfl
  | opened c a => rfl
  | ending c e =>
    by_cases he : e.waitsOn.isEmpty
    · simp only [he, if_true]
      exact complete_blind i q f g h
    · simp only [he]
      rfl

theorem closeStroke_blind (i : Fin 48) (reason : EndReason) (c : StrokeCore) (a : Assembly) :
    Blind (closeStroke i reason c a) := fun _ f g h =>
  congrArg (fun q : Part => q.countStrokes fun k => k.countEnd reason) (deliverEnd_blind i _ _ _ f g h)

/-- An end with the seats changed beside it: but for the reference it clears it does what it would have done. -/
theorem endStroke_withSeats (reason : EndReason) {p : Part} {i : Fin 48} {c : StrokeCore} {a : Assembly}
    (he : p.entry i = .opened c a) (seats : Vector Seat 72) :
    endStroke reason { p with seats := seats } i =
      { endStroke reason p i with
        seats := put seats c.seat { look seats c.seat with openEntry := none } } := by
  have hb := emitPoints_blind i (p.setSeat c.seat { p.seat c.seat with openEntry := none }) id
    (fun _ => put seats c.seat { look seats c.seat with openEntry := none }) id
  have he' : ({ p with seats := seats } : Part).entry i = .opened c a := he
  unfold endStroke
  simp only [he, he']
  have hs : ({ p with seats := seats } : Part).setSeat c.seat
      { ({ p with seats := seats } : Part).seat c.seat with openEntry := none } =
    (p.setSeat c.seat { p.seat c.seat with openEntry := none }).aside id
      (fun _ => put seats c.seat { look seats c.seat with openEntry := none }) id := rfl
  rw [hs, ← hb, Part.aside_entry]
  set q := emitPoints i (p.setSeat c.seat { p.seat c.seat with openEntry := none })
  cases q.entry i with
  | free => rfl
  | ending c e => rfl
  | opened c2 a2 => exact (closeStroke_blind i reason c2 a2 q id _ id).symm

end Sys2Proof.Machine
end

section
/-! SUPPORT. A seat's quiet expiry (R10, R99), and an ink frame taken for a seat (R5 to R12, R62, R98). -/

namespace Sys2Proof.Machine

theorem put_put {α : Type} {n : Nat} (v : Vector α n) (i : Fin n) (a b : α) :
    put (put v i a) i b = put v i b := by
  apply table_ext
  intro j
  simp only [look_put]
  split <;> rfl

/-! ### The quiet expiry (R10, R99) -/

/-- A seat after its quiet expiry. -/
def Seat.quieted (v : Seat) : Seat :=
  { v with expected := none, quiet := none, lockout := none, openEntry := none }

/-- A seat without an OPEN stroke expires alone. -/
theorem quietExpire_idle {seat : Fin 72} {p : Part} (h : (p.seat seat).openEntry = none) :
    quietExpire seat p = { p with seats := put p.seats seat (p.seat seat).quieted } := by
  simp only [quietExpire, endSeatStroke, Part.seat_setSeat_same, h]
  simp only [clearLockout, Part.setSeat, Part.seat, look_put_same, put_put, Seat.quieted]

/-- A seat's OPEN stroke ends beside the seat's expiry. -/
theorem quietExpire_opened {seat : Fin 72} {p : Part} {i : Fin 48} {c : StrokeCore} {a : Assembly}
    (h : (p.seat seat).openEntry = some i) (he : p.entry i = .opened c a) (hc : c.seat = seat) :
    quietExpire seat p =
      { endStroke .abandoned p i with seats := put p.seats seat (p.seat seat).quieted } := by
  have h1 : ((p.setSeat seat { p.seat seat with expected := none, quiet := none }).seat seat).openEntry =
      some i := by rw [Part.seat_setSeat_same]; exact h
  subst hc
  have hend := endStroke_withSeats .abandoned he
    (put p.seats c.seat { p.seat c.seat with expected := none, quiet := none })
  simp only [quietExpire, endSeatStroke, h1, clearLockout]
  rw [show p.setSeat c.seat { p.seat c.seat with expected := none, quiet := none } =
    { p with seats := put p.seats c.seat { p.seat c.seat with expected := none, quiet := none } } from rfl,
    hend]
  simp only [Part.setSeat, Part.seat, look_put_same, put_put, Seat.quieted]

theorem Entry.Served.free {y : Entry} (h : Entry.free.Served y) : y = .free := by
  rcases h with rfl | ⟨c, e, h, -⟩
  · rfl
  · cases h

theorem Entry.Served.ending {c : StrokeCore} {e : Ending} {y : Entry} (h : (Entry.ending c e).Served y) :
    y = .free ∨ ∃ w d, y = .ending c { e with waitsOn := w, delivered := d } := by
  rcases h with rfl | ⟨c', e', h, hy⟩
  · exact .inr ⟨e.waitsOn, e.delivered, rfl⟩
  · cases h
    exact hy

/-- An ended stroke's entry, once what follows the end is done, is FREE or ENDING for the reason (R101). -/
theorem StrokeEnded.settled {reason : EndReason} {i : Fin 48} {c : StrokeCore} {p q : Part} {y : Entry}
    (h : StrokeEnded reason i c p q) (hy : (q.entry i).Served y) :
    y = .free ∨ ∃ c' e, y = .ending c' e ∧ c'.id = c.id ∧ c'.seat = c.seat ∧ e.reason = reason ∧
      e.endTick = p.tick := by
  rcases h.entry with he | ⟨c', e, he, hid, hseat, hr, ht⟩
  · rw [he] at hy
    exact .inl hy.free
  · rw [he] at hy
    rcases hy.ending with hy | ⟨w, d, hy⟩
    · exact .inl hy
    · exact .inr ⟨c', _, hy, hid, hseat, hr, ht⟩

/-- Settles O38, by whether the seat has an OPEN stroke. -/
theorem quietExpiryAbandonsTheStroke : Obligations.QuietExpiryAbandonsTheStroke := by
  intro p rest seat interval hr hagree hq hdue
  have hexec : exec (.quietExpiry seat) ⟨p, rest⟩ = .next ⟨settle (quietExpire seat p), rest⟩ := by
    show event _ _ = _
    rw [event_next rest hr, if_pos ((quietDue_iff p seat).2 ⟨interval, hq, hdue⟩)]
  have hstep := settle_settleStep (quietExpire seat p)
  have hseats : ∀ x : Part, quietExpire seat p =
      { x with seats := put p.seats seat (p.seat seat).quieted } → ∀ other,
      (settle (quietExpire seat p)).seat other =
        if other = seat then (p.seat seat).quieted else p.seat other := by
    intro x hx other
    rw [Part.seat, hstep.seats, hx]
    exact look_put ..
  cases ho : (p.seat seat).openEntry with
  | none =>
    have hx := quietExpire_idle ho
    have hs := hseats p hx
    have hf := hstep.strokeStep
    refine ⟨_, hexec, (hs seat).trans (if_pos rfl), fun other hne => (hs other).trans (if_neg hne), nofun,
      ?_, ?_, ?_, ?_, ?_, ?_, nofun, fun _ => ⟨congrArg settle hx, fun hp => ?_⟩⟩
    · rw [hstep.counters, hx]
      rfl
    · rw [hf.active, hx]
    · rw [hf.staged, hx]
    · rw [hf.staging, hx]
    · rw [hf.monitor, hx]
    · rw [hf.tick, hx]
    · rw [hx]
      exact settle_self ⟨hp.display, hp.record, hp.room⟩
  | some i =>
    obtain ⟨c, a, he, hc⟩ := (hagree.reference seat i).1 ho
    have hx := quietExpire_opened ho he hc
    have hend := endStroke_ended .abandoned he
    have hs := hseats _ hx
    have hf := hend.strokeStep
    have hg := hstep.strokeStep
    refine ⟨_, hexec, (hs seat).trans (if_pos rfl), fun other hne => (hs other).trans (if_neg hne), ?_,
      ?_, ?_, ?_, ?_, ?_, ?_, ?_, nofun⟩
    · rintro j hj
      obtain rfl : i = j := Option.some.inj hj
      have hy := hstep.entries i
      rw [hx] at hy
      rcases hend.settled hy with h | ⟨c', e, h, -, hseat, hr, ht⟩
      · rw [hx]; exact .inl h
      · rw [hx]; exact .inr ⟨c', e, h, hseat.trans hc, hr, ht⟩
    · obtain ⟨n, hn⟩ := hend.counters
      rw [hstep.counters, hx]
      show (endStroke .abandoned p i).assembler.counters.abandoned = _
      rw [hn]
      rfl
    · rw [hg.active, hx]; exact hf.active
    · rw [hg.staged, hx]; exact hf.staged
    · rw [hg.staging, hx]; exact hf.staging
    · rw [hg.monitor, hx]; exact hf.monitor
    · rw [hg.tick, hx]; exact hf.tick
    · rintro j hj
      obtain rfl : i = j := Option.some.inj hj
      exact congrArg settle hx

end Sys2Proof.Machine
end

section
/-! SUPPORT. An ink frame taken for a seat: its seat, the counters and the sequence check, and a lift (R5 to R12,
R62, R98). -/

namespace Sys2Proof.Machine

/-! ### The seat of an ink frame (R5, R6) -/

theorem roomSeatOf_eq_some {t : Tables} {source : Half} {seat : Fin 72} (hd : t.AddressesDistinct)
    (hs : seat.val < 64) (he : (look t.identity seat).enabled = true)
    (ha : (look t.identity seat).address = some source) : roomSeatOf t source = some seat := by
  have hroom : isRoomSeat seat = true := by simpa [isRoomSeat] using hs
  cases hf : roomSeatOf t source with
  | none =>
    have := List.find?_eq_none.1 hf seat (mem_indexes seat)
    simp [hroom, he, ha] at this
  | some other =>
    have ho := List.find?_some hf
    simp only [Bool.and_eq_true, decide_eq_true_eq] at ho
    obtain ⟨⟨hr, he'⟩, ha'⟩ := ho
    rw [hd other seat hr hroom he' he (ha'.trans ha.symm)]

theorem boardSeatOf_eq_some {t : Tables} {slot : Half} {seat : Fin 72} (hs : seat.val = 64 + slot.toNat)
    (he : (look t.identity seat).enabled = true) : boardSeatOf t slot = some seat := by
  have hlt : slot.toNat < 8 := by have := seat.isLt; omega
  have hseat : (⟨64 + slot.toNat, by omega⟩ : Fin 72) = seat := Fin.ext hs.symm
  rw [boardSeatOf, dif_pos hlt]
  simp only [hseat, he, if_true]

/-! ### The counters and the sequence check (R8, R10, R12) -/

/-- How far a frame's sequence lies from the expected one (R8). -/
def Seat.gap (v : Seat) (seq : Byte) : Nat :=
  match v.expected with
  | none => 0
  | some e => (seq - e).toNat

theorem Seat.gap_none {v : Seat} (seq : Byte) (h : v.expected = none) : v.gap seq = 0 := by
  rw [gap, h]

theorem Seat.gap_some {v : Seat} {e : Byte} (seq : Byte) (h : v.expected = some e) :
    v.gap seq = (seq - e).toNat := by rw [gap, h]

/-- A seat that has taken a frame (R8, R10, R12). -/
def Seat.taken (v : Seat) (seq : Byte) (now : Tick) (idle : Nat) : Seat :=
  { v with
    expected := some (seq + 1)
    lastTick := now
    quiet := some idle
    accepted := min 65535 (v.accepted + 1)
    missing := if v.gap seq = 0 then v.missing else min 65535 (v.missing + v.gap seq) }

/-- A link's receivers with one more ink frame taken (R12). -/
def countInk (port : Port) (r : Receivers) : Receivers :=
  if port = .room then { r with room := { r.room with inkTaken := min 65535 (r.room.inkTaken + 1) } }
  else { r with board := { r.board with inkTaken := min 65535 (r.board.inkTaken + 1) } }

/-- A gap raised for a seat and flagged on its OPEN stroke (R8). -/
def gapped (seat : Fin 72) (seq : Byte) (src : ErrorSource) (p : Part) : Part :=
  if (p.seat seat).gap seq = 0 then p
  else gapStroke seat (raise .sequenceGap { src with seat := some seat } p)

/-- The part once a frame is taken for a seat, before its samples are handed on. -/
def inkTaken (port : Port) (seat : Fin 72) (seq : Byte) (src : ErrorSource) (p : Part) : Part :=
  (gapped seat seq src p).aside (countInk port)
    (fun s => put s seat ((p.seat seat).taken seq p.tick p.timing.idleTimeout)) id

theorem gapStroke_aside {seat : Fin 72} {p : Part} {f : Receivers → Receivers}
    {g : Vector Seat 72 → Vector Seat 72} {h : Monitor → Monitor}
    (hg : (look (g p.seats) seat).openEntry = (p.seat seat).openEntry) :
    gapStroke seat (p.aside f g h) = (gapStroke seat p).aside f g h := by
  unfold gapStroke
  rw [show ((p.aside f g h).seat seat).openEntry = (p.seat seat).openEntry from hg]
  cases (p.seat seat).openEntry with
  | none => rfl
  | some i =>
    simp only [Part.aside_entry]
    cases p.entry i <;> rfl

theorem gapStroke_opened {seat : Fin 72} {p : Part} {i : Fin 48} {c : StrokeCore} {a : Assembly}
    (ho : (p.seat seat).openEntry = some i) (he : p.entry i = .opened c a) :
    gapStroke seat p = p.setEntry i (.opened c.markGap a) := by
  simp only [gapStroke, ho, he]

/-- A gap flags at most the entry of the seat's OPEN stroke. -/
theorem gapStroke_frame (seat : Fin 72) (p : Part) : ∃ entries,
    gapStroke seat p = { p with assembler := { p.assembler with entries := entries } } ∧
      ∀ i, (p.seat seat).openEntry ≠ some i → look entries i = p.entry i := by
  unfold gapStroke
  split
  · next i ho =>
    split
    · exact ⟨_, rfl, fun j hj => look_put_other _ _ fun h => hj (by rw [h, ho])⟩
    · exact ⟨p.assembler.entries, rfl, fun _ _ => rfl⟩
  · exact ⟨p.assembler.entries, rfl, fun _ _ => rfl⟩

theorem gapped_none {seat : Fin 72} {seq : Byte} {p : Part} (src : ErrorSource)
    (h : (p.seat seat).gap seq = 0) : gapped seat seq src p = p := if_pos h

theorem gapped_some {seat : Fin 72} {seq : Byte} {p : Part} (src : ErrorSource)
    (h : (p.seat seat).gap seq ≠ 0) : gapped seat seq src p =
      gapStroke seat (raise .sequenceGap { src with seat := some seat } p) := if_neg h

/-- All that a gap may change: the entry of the seat's OPEN stroke, the errors, the reply queue and the offer. -/
theorem gapped_frame (seat : Fin 72) (seq : Byte) (src : ErrorSource) (p : Part) :
    gapped seat seq src p =
      { p with
        assembler := { p.assembler with entries := (gapped seat seq src p).assembler.entries }
        egress := (gapped seat seq src p).egress
        agent := (gapped seat seq src p).agent
        errors := (gapped seat seq src p).errors } := by
  by_cases h : (p.seat seat).gap seq = 0
  · rw [gapped_none src h]
  · rw [gapped_some src h]
    obtain ⟨entries, hg, -⟩ := gapStroke_frame seat (raise .sequenceGap { src with seat := some seat } p)
    obtain ⟨a, o, e, hr, -⟩ := raise_frame .sequenceGap { src with seat := some seat } p
    rw [hg, hr]

theorem setSeat_aside (p : Part) (f : Receivers → Receivers) (seat : Fin 72) (v w : Seat) :
    (p.aside f (fun s => put s seat v) id).setSeat seat w = p.aside f (fun s => put s seat w) id := by
  simp only [Part.setSeat, Part.aside, put_put]

theorem seat_aside (p : Part) (f : Receivers → Receivers) (seat : Fin 72) (v : Seat) :
    (p.aside f (fun s => put s seat v) id).seat seat = v := look_put_same ..

/-- The frame is counted, sequence-checked and its deadline armed before its samples are handed on. -/
theorem takeInk_eq {port : Port} (hp : port = .room ∨ port = .board) (seat : Fin 72) (seq : Byte)
    (samples : List Sample) (src : ErrorSource) (p : Part) :
    takeInk port seat seq samples src p =
      samples.foldl (handleSample seat src) (inkTaken port seat seq src p) := by
  set v := { p.seat seat with accepted := min 65535 ((p.seat seat).accepted + 1) } with hv
  have hcount : (p.countLink port fun c => { c with inkTaken := bump c.inkTaken }).setSeat seat
      { (p.countLink port fun c => { c with inkTaken := bump c.inkTaken }).seat seat with
        accepted := bump
          ((p.countLink port fun c => { c with inkTaken := bump c.inkTaken }).seat seat).accepted } =
      p.aside (countInk port) (fun s => put s seat v) id := by
    rcases hp with rfl | rfl <;> rfl
  have harm : ∀ (q : Part) (w : Seat),
      armQuiet seat (q.aside (countInk port) (fun s => put s seat w) id) =
        q.aside (countInk port) (fun s => put s seat
          { w with lastTick := q.tick, quiet := some q.timing.idleTimeout }) id := by
    intro q w
    rw [armQuiet, seat_aside, setSeat_aside]
    rfl
  unfold takeInk
  simp only [hcount]
  congr 1
  rw [inkTaken, checkSequence, seat_aside]
  cases he : (p.seat seat).expected with
  | none =>
    have hgap := Seat.gap_none seq he
    rw [gapped_none src hgap]
    simp only [hv, he, setSeat_aside, harm, Seat.taken, hgap, if_true]
  | some e =>
    have hgap := Seat.gap_some seq he
    simp only [hv, he]
    by_cases hseq : seq = e
    · have hgap0 : (p.seat seat).gap seq = 0 := by rw [hgap, hseq, BitVec.sub_self]; rfl
      rw [gapped_none src hgap0]
      simp only [if_pos hseq, setSeat_aside, harm, Seat.taken, hgap0, if_true]
    · have hgap1 : (p.seat seat).gap seq ≠ 0 := by
        rw [hgap]
        intro h0
        exact hseq (by bv_omega)
      rw [gapped_some src hgap1]
      simp only [if_neg hseq, setSeat_aside]
      have hseats := (raise_inkStep .sequenceGap { src with seat := some seat } p).seats
      have htick : (gapped seat seq src p).tick = p.tick := by rw [gapped_frame]
      have hidle : (gapped seat seq src p).timing = p.timing := by rw [gapped_frame]
      rw [← raise_blind, gapStroke_aside, ← gapped_some src hgap1, harm, htick, hidle]
      · have hmissing : ¬ (seq - e).toNat = 0 := hgap ▸ hgap1
        simp only [Seat.taken, hgap, if_neg hmissing]
        rfl
      · simp only [Part.seat, hseats, look_put_same]

/-- All that the taking of a frame may change before its samples are handed on. -/
theorem inkTaken_frame (port : Port) (seat : Fin 72) (seq : Byte) (src : ErrorSource) (p : Part) :
    inkTaken port seat seq src p =
      { p with
        receivers := (inkTaken port seat seq src p).receivers
        seats := (inkTaken port seat seq src p).seats
        assembler := { p.assembler with entries := (inkTaken port seat seq src p).assembler.entries }
        egress := (inkTaken port seat seq src p).egress
        agent := (inkTaken port seat seq src p).agent
        errors := (inkTaken port seat seq src p).errors } := by
  rw [inkTaken, gapped_frame]
  rfl

/-- A gap leaves every entry but that of the seat's OPEN stroke. -/
theorem gapped_entry_other {seat : Fin 72} {seq : Byte} {p : Part} (src : ErrorSource) {i : Fin 48}
    (h : (p.seat seat).gap seq = 0 ∨ (p.seat seat).openEntry ≠ some i) :
    (gapped seat seq src p).entry i = p.entry i := by
  by_cases hg : (p.seat seat).gap seq = 0
  · rw [gapped_none src hg]
  · obtain ⟨a, o, e, hr, -⟩ := raise_frame .sequenceGap { src with seat := some seat } p
    obtain ⟨entries, hf, he⟩ := gapStroke_frame seat (raise .sequenceGap { src with seat := some seat } p)
    rw [gapped_some src hg, hf]
    refine (he i ?_).trans ?_
    · rw [hr]
      exact h.resolve_left hg
    · rw [hr]
      rfl

/-- A gap is flagged on the seat's OPEN stroke. -/
theorem gapped_entry_opened {seat : Fin 72} {seq : Byte} {p : Part} (src : ErrorSource) {i : Fin 48}
    {c : StrokeCore} {a : Assembly} (hg : (p.seat seat).gap seq ≠ 0)
    (ho : (p.seat seat).openEntry = some i) (he : p.entry i = .opened c a) :
    (gapped seat seq src p).entry i = .opened c.markGap a := by
  obtain ⟨_, _, _, hr, -⟩ := raise_frame .sequenceGap { src with seat := some seat } p
  have ho' : ((raise .sequenceGap { src with seat := some seat } p).seat seat).openEntry = some i := by
    rw [hr]; exact ho
  have he' : (raise .sequenceGap { src with seat := some seat } p).entry i = .opened c a := by
    rw [hr]; exact he
  rw [gapped_some src hg, gapStroke_opened ho' he', Part.entry_setEntry_same]

/-- A flag on an entry leaves what the raise has made of errors, reply queue and offer. -/
theorem gapped_raised {seat : Fin 72} {seq : Byte} (src : ErrorSource) {p : Part} {α : Type}
    (block : Part → α)
    (hb : ∀ (q : Part) entries,
      block { q with assembler := { q.assembler with entries := entries } } = block q) :
    block (gapped seat seq src p) = if (p.seat seat).gap seq = 0 then block p
      else block (raise .sequenceGap { src with seat := some seat } p) := by
  split
  · next hg => rw [gapped_none src hg]
  · next hg =>
    obtain ⟨entries, hf, -⟩ := gapStroke_frame seat (raise .sequenceGap { src with seat := some seat } p)
    rw [gapped_some src hg, hf, hb]

/-! ### A non-contact sample (R62, R98) -/

theorem handleSample_contact {seat : Fin 72} {src : ErrorSource} {p : Part} {x : Sample}
    (h : x.contact = true) : handleSample seat src p x = contactSample seat x src p := if_pos h

theorem handleSample_lift {seat : Fin 72} {src : ErrorSource} {p : Part} {x : Sample}
    (h : x.contact = false) : handleSample seat src p x = liftSample seat x p :=
  if_neg (by rw [h]; exact Bool.false_ne_true)

/-- What a lift makes of a part whose seat has no OPEN stroke left: the lockout is cleared, and a hover sample is
counted by the estimator of the seat's set. -/
theorem lift_eq {seat : Fin 72} {x : Sample} {p e : Part} (hp : endSeatStroke seat .lifted p = e)
    (ha : e.active = p.active) (hc : e.conditioning = p.conditioning)
    (hs : put e.seats seat { e.seat seat with lockout := none } =
      put p.seats seat { p.seat seat with lockout := none, openEntry := none }) :
    liftSample seat x p = { e with
      seats := put p.seats seat { p.seat seat with lockout := none, openEntry := none }
      conditioning :=
        if x.hover = true then
          { p.conditioning with
            sets := put p.conditioning.sets (look p.active.identity seat).calibrationSet
              ((p.calibrationSet (look p.active.identity seat).calibrationSet).hover x.pressure) }
        else p.conditioning } := by
  simp only [liftSample, hp, clearLockout, Part.setSeat, hs]
  split
  · simp only [countHover, Part.setCalibrationSet, Part.identity, Part.calibrationSet, ha, hc]
  · rw [← hc]

/-- Settles O16: `takeInk_eq` for the frame, `lift_eq` for a lift. -/
theorem inkFrameIsTakenForItsSeat : Obligations.InkFrameIsTakenForItsSeat := by
  refine ⟨?_, fun p seat src x h => handleSample_contact h, ?_⟩
  · intro channel source seq samples seat port p rest h1 h8 hfit hready hdist hen hwhere header src gap
      gapRaised
    have hport : port = .room ∨ port = .board := hwhere.imp And.left And.left
    have hseat : lookupSeat port (inkFrame channel source seq samples) p.active = some seat := by
      rcases hwhere with ⟨rfl, hs, ha⟩ | ⟨rfl, hs⟩
      · rw [lookupSeat, addressOf_inkFrame, roomSeatOf_eq_some hdist hs hen ha]
        nofun
      · rw [lookupSeat, addressOf_inkFrame, boardSeatOf_eq_some hs hen]
    have hexec : exec (arrival port (inkFrame channel source seq samples)) ⟨p, rest⟩ = .next
        ⟨settle (samples.foldl (handleSample seat src) (inkTaken port seat seq src p)), rest⟩ := by
      rw [exec_arrival hport _ hready, receive_ink (isLoading_of_ready hready) (codeMatches_inkFrame ..)
        (formOf_inkFrame _ _ _ _ h1 h8 hfit), takeInkFrame]
      simp only [hseat, frameSource_inkFrame]
      rw [takeInk_eq hport]
    have hgap : gap = (p.seat seat).gap seq := rfl
    have hbase := gapped_frame seat seq src p
    have hframe := inkTaken_frame port seat seq src p
    have hstep := (StrokeStep.foldl (handleSample_strokeStep seat src) samples
      (inkTaken port seat seq src p)).trans (settle_strokeStep _)
    have htaken : (inkTaken port seat seq src p).seat seat =
        (p.seat seat).taken seq p.tick p.timing.idleTimeout := look_put_same ..
    have hq := hstep.seats seat
    rw [htaken] at hq
    refine ⟨_, inkTaken port seat seq src p, hexec, rfl, ?_, htaken, ?_, ?_, ?_, ?_, ?_, ?_, ?_,
      hstep.receivers, ?_, ?_, ?_, ?_, ?_, ?_, ?_, ?_, ?_, ?_, ?_, ?_, ?_, ?_⟩
    · show countInk port (gapped seat seq src p).receivers = _
      rw [hbase]
      rfl
    · intro other hne
      show look (put (gapped seat seq src p).seats seat _) other = _
      rw [look_put_other _ _ hne, hbase]
      rfl
    · exact gapped_raised src Part.errors fun _ _ => rfl
    · exact gapped_raised src Part.agent fun _ _ => rfl
    · exact gapped_raised src Part.egress fun _ _ => rfl
    · exact fun i c a hg ho he => gapped_entry_opened src hg ho he
    · exact fun i h => gapped_entry_other src h
    · exact hframe
    · rw [hq, htaken]
    · rw [hq, htaken]
    · rw [hq]; rfl
    · rw [hq]; rfl
    · rw [hq]; rfl
    · rw [hstep.active, hframe]
    · rw [hstep.staged, hframe]
    · rw [hstep.staging, hframe]
    · rw [hstep.timing, hframe]
    · rw [hstep.monitor, hframe]
    · rw [hstep.store, hframe]
    · rw [hstep.save, hframe]
    · rw [hstep.tick, hframe]
    · rw [hstep.phase, hframe, hready]
  · intro p seat src x h q set lifts
    refine ⟨fun ho => ?_, fun i c a ho he hc => ?_⟩
    · show handleSample seat src p x = _
      rw [handleSample_lift h]
      refine lift_eq (e := p) ?_ rfl rfl ?_
      · simp only [endSeatStroke, ho]
      · rw [← ho]
    · show handleSample seat src p x = _
      rw [handleSample_lift h]
      subst hc
      have hend := endStroke_ended .lifted he
      refine lift_eq ?_ hend.strokeStep.active ?_ ?_
      · simp only [endSeatStroke, ho]
      · obtain ⟨_, _, _, _, _, _, _, _, hb⟩ := hend.blocks
        rw [hb]
        rfl
      · obtain ⟨_, _, _, _, _, _, _, _, hb⟩ := hend.blocks
        rw [hb]
        simp only [Part.setSeat, Part.seat, put_put, look_put_same]

end Sys2Proof.Machine
end

section
/-! SUPPORT. The reply queue only grows, and no error's status is cleared, while records are handed to the queues,
errors are raised and strokes end (R101, R171, R181). -/

namespace Sys2Proof.Machine

/-- Frames in the reply queue stay, and statuses set stay set. -/
structure Grows (p q : Part) : Prop where
  replies : p.agent.replies <+: q.agent.replies
  status : ∀ k, (look p.errors.items k).status = true → (look q.errors.items k).status = true

namespace Grows

theorem refl (p : Part) : Grows p p := ⟨List.prefix_rfl, fun _ h => h⟩

theorem trans {p q r : Part} (h1 : Grows p q) (h2 : Grows q r) : Grows p r :=
  ⟨h1.replies.trans h2.replies, fun k h => h2.status k (h1.status k h)⟩

/-- An operation that leaves the reply queue and the error monitor as they are. -/
theorem of_eq {p q : Part} (ha : q.agent.replies = p.agent.replies) (he : q.errors = p.errors) :
    Grows p q := ⟨ha ▸ List.prefix_rfl, fun _ h => he ▸ h⟩

/-- The blocks read first are those of an earlier part. -/
theorem after {p q r : Part} (h : Grows q r) (ha : q.agent.replies = p.agent.replies)
    (he : q.errors = p.errors) : Grows p r := (of_eq ha he).trans h

theorem foldl {α : Type} {f : Part → α → Part} (h : ∀ p x, Grows p (f p x)) (l : List α) (p : Part) :
    Grows p (l.foldl f p) := by
  induction l generalizing p with
  | nil => exact .refl p
  | cons x t ih => exact (h p x).trans (ih (f p x))

end Grows

theorem joinReply_grows (r : ReplyFrame) (p : Part) : Grows p (joinReply r p) := by
  obtain ⟨o, h⟩ := joinReply_eq r p
  rw [h]
  exact ⟨List.prefix_append .., fun _ h => h⟩

theorem notice_grows (n : Notice) (p : Part) : Grows p (notice n p) := by
  rw [notice_eq]
  split
  · exact joinReply_grows _ p
  · exact .of_eq rfl rfl

theorem logFirst_grows (k : ErrorKind) (src : ErrorSource) (p : Part) : Grows p (p.logFirst k src) := by
  unfold Part.logFirst
  split
  · exact ⟨List.prefix_rfl, fun _ h => h⟩
  · exact .refl p

theorem Grows.ite {p q : Part} {c : Prop} [Decidable c] (h : Grows p q) : Grows p (if c then q else p) := by
  split
  · exact h
  · exact .refl p

theorem raise_grows (k : ErrorKind) (src : ErrorSource) (p : Part) : Grows p (raise k src p) := by
  unfold raise
  refine (((logFirst_grows k src p).ite).trans ((notice_grows _ _).ite)).trans ⟨List.prefix_rfl, ?_⟩
  intro j h
  simp only [Part.setErrorItems, look_put]
  split
  · rfl
  · exact h

/-- A raise sets its kind's status (R181). -/
theorem raise_status (k : ErrorKind) (src : ErrorSource) (p : Part) :
    (look (raise k src p).errors.items k.index).status = true := by
  obtain ⟨a, o, h, -⟩ := raise_eq k src p
  rw [h, look_put_same]

theorem raiseOverflow_grows (d : Dest) (seat : Fin 72) (p : Part) : Grows p (raiseOverflow d seat p) :=
  raise_grows _ _ p

theorem joinInk_grows (d : Dest) (r : InkRecord) (serial : Option Nat) (p : Part) :
    Grows p (joinInk d r serial p) := by
  obtain ⟨o, h⟩ := joinInk_eq d r serial p
  rw [h]
  exact .of_eq rfl rfl

theorem dropOldest_grows (d : Dest) (seat : Fin 72) (removed : QueueItem) (rest : List QueueItem)
    (p : Part) : Grows p (dropOldest d seat removed rest p) :=
  (raiseOverflow_grows d seat _).after rfl rfl

theorem handInk_grows (d : Dest) (r : InkRecord) (serial : Nat) (seat : Fin 72) (p : Part) :
    Grows p (handInk d r serial seat p).2 := by
  rcases handInk_cases d r serial seat p with ⟨-, h⟩ | ⟨-, -, removed, rest, -, h⟩ | ⟨-, -, h⟩
  · rw [h]; exact joinInk_grows ..
  · rw [h]; exact (dropOldest_grows ..).trans (joinInk_grows ..)
  · rw [h]; exact .refl p

theorem handPoints_grows (i : Fin 48) (c : StrokeCore) (order : PointOrder) (pts : List Point) (p : Part)
    (d : Dest) : Grows p (handPoints i c order pts p d) := by
  have h := handInk_grows d (.points c.id (orderFor order d) pts) c.serial c.seat p
  unfold handPoints
  revert h
  cases handInk d (.points c.id (orderFor order d) pts) c.serial c.seat p with
  | mk taken q =>
    intro h
    cases taken
    · exact h.trans ((raiseOverflow_grows d c.seat _).after rfl rfl)
    · exact h

theorem emitPoints_grows (i : Fin 48) (p : Part) : Grows p (emitPoints i p) := by
  unfold emitPoints
  split
  · split
    · exact .refl p
    · exact (Grows.foldl (handPoints_grows i _ _ _) _ _).after rfl rfl
  · exact .refl p

theorem flushPoints_grows (p : Part) : Grows p (flushPoints p) := by
  have step : ∀ acc i, Grows acc.1 (flushEntry acc i).1 := by
    intro acc i
    unfold flushEntry
    split
    · split
      · exact .refl _
      · simp only
        split
        · exact .refl _
        · exact emitPoints_grows i acc.1
    · exact .refl _
  have fold : ∀ (l : List (Fin 48)) acc, Grows acc.1 (l.foldl flushEntry acc).1 := by
    intro l
    induction l with
    | nil => exact fun acc => .refl _
    | cons i t ih => exact fun acc => (step acc i).trans (ih _)
  exact fold (indexes 48) (p, fill 8 none)

theorem updateEnding_grows (i : Fin 48) (u : Ending → Ending) (p : Part) : Grows p (p.updateEnding i u) := by
  unfold Part.updateEnding
  split
  · exact .of_eq rfl rfl
  · exact .refl p

theorem handEnd_grows (i : Fin 48) (c : StrokeCore) (r : InkRecord) (p : Part) (d : Dest) :
    Grows p (handEnd i c r p d) := by
  have h := handInk_grows d r c.serial c.seat p
  unfold handEnd
  revert h
  cases handInk d r c.serial c.seat p with
  | mk taken q =>
    intro h
    cases taken
    · exact (h.trans (updateEnding_grows i _ q)).trans ((raiseOverflow_grows d c.seat _).after rfl rfl)
    · exact h.trans (updateEnding_grows i _ q)

theorem complete_grows (i : Fin 48) (p : Part) : Grows p (complete i p) := by
  unfold complete
  split
  · exact .of_eq rfl rfl
  · exact .refl p

theorem countStrokes_grows (u : StrokeCounters → StrokeCounters) (p : Part) :
    Grows p (p.countStrokes u) := .of_eq rfl rfl

theorem deliverEnd_grows (i : Fin 48) (c : StrokeCore) (r : InkRecord) (p : Part) :
    Grows p (deliverEnd i c r p) := by
  have h := Grows.foldl (handEnd_grows i c r) c.targets p
  unfold deliverEnd
  simp only
  split
  · split
    · exact h.trans (complete_grows i _)
    · exact h.trans (.of_eq rfl rfl)
  · exact h

theorem closeStroke_grows (i : Fin 48) (reason : EndReason) (c : StrokeCore) (a : Assembly) (p : Part) :
    Grows p (closeStroke i reason c a p) := by
  simp only [closeStroke]
  refine Grows.trans ?_ (countStrokes_grows _ _)
  exact (deliverEnd_grows i _ _ _).after rfl rfl

theorem endStroke_grows (reason : EndReason) (p : Part) (i : Fin 48) : Grows p (endStroke reason p i) := by
  unfold endStroke
  split
  · next c a he =>
    have h : Grows p (emitPoints i (p.setSeat c.seat { p.seat c.seat with openEntry := none })) :=
      (emitPoints_grows i _).after rfl rfl
    simp only
    split
    · exact h.trans (closeStroke_grows i reason _ _ _)
    · exact h
  · exact .refl p

theorem SettleStep.grows {p q : Part} (h : SettleStep p q) : Grows p q :=
  .of_eq (by rw [h.agent]) (by rw [h.fixed])

end Sys2Proof.Machine
end

section
/-! SUPPORT. Frame marks: the strokes a commit revokes (R43, R110, R111), what goes on around the commit step (R39,
R82), and the marks themselves (R37, R38). -/

namespace Sys2Proof.Machine

/-! ### The ends of several strokes, one after the other (R110) -/

/-- The OPEN strokes of some entries have ended for a reason, and of the other entries nothing has changed but
what handing records to the queues may change. -/
structure StrokesEnded (reason : EndReason) (l : List (Fin 48)) (p q : Part) : Prop where
  blocks : ∃ seats entries counters layers queues agent offer history errors,
    q = { p with
      seats := seats
      assembler := { p.assembler with entries := entries, counters := counters }
      layers := layers
      queues := queues
      agent := agent
      egress := { p.egress with offer := offer }
      history := history
      errors := errors }
  ended : ∀ i ∈ l, ∀ c a, p.entry i = .opened c a → q.entry i = .free ∨
    ∃ c' e, q.entry i = .ending c' e ∧ c'.id = c.id ∧ e.reason = reason ∧ e.endTick = p.tick
  others : ∀ i, i ∉ l → (p.entry i).Like (q.entry i)
  cleared : ∀ i ∈ l, ∀ c a, p.entry i = .opened c a → (q.seat c.seat).openEntry = none
  kept : ∀ s, (∀ i ∈ l, ∀ c a, p.entry i = .opened c a → c.seat ≠ s) → q.seat s = p.seat s
  seats : ∀ s, q.seat s = { p.seat s with openEntry := (q.seat s).openEntry }
  stays : ∀ s, (p.seat s).openEntry = none → (q.seat s).openEntry = none
  counted : q.assembler.counters.ended reason =
    if l = [] then p.assembler.counters.ended reason
    else min 65535 (p.assembler.counters.ended reason + l.length)
  replyHeld : q.agent.replyHeld = p.agent.replyHeld

theorem StrokeEnded.seat {reason : EndReason} {i : Fin 48} {c : StrokeCore} {p q : Part}
    (h : StrokeEnded reason i c p q) (s : Fin 72) :
    q.seat s = if s = c.seat then { p.seat s with openEntry := none } else p.seat s := by
  obtain ⟨_, _, _, _, _, _, _, _, hq⟩ := h.blocks
  rw [hq]
  show (p.setSeat c.seat { p.seat c.seat with openEntry := none }).seat s = _
  rw [Part.seat_setSeat]
  split
  · next hs => rw [hs]
  · rfl

theorem StrokeEnded.counted {reason : EndReason} {i : Fin 48} {c : StrokeCore} {p q : Part}
    (h : StrokeEnded reason i c p q) : q.assembler.counters.ended reason =
      min 65535 (p.assembler.counters.ended reason + 1) := by
  obtain ⟨n, hn⟩ := h.counters
  rw [hn]
  cases reason <;> rfl

/-- An ended stroke stays so while others end. -/
theorem ended_of_like {reason : EndReason} {id : Nat} {tick : Tick} {x y : Entry} (h : x.Like y)
    (hx : x = .free ∨ ∃ c e, x = .ending c e ∧ c.id = id ∧ e.reason = reason ∧ e.endTick = tick) :
    y = .free ∨ ∃ c e, y = .ending c e ∧ c.id = id ∧ e.reason = reason ∧ e.endTick = tick := by
  rcases hx with rfl | ⟨c, e, rfl, hid, hr, ht⟩
  · cases h
    exact .inl rfl
  · cases h with
    | ending hc => exact .inr ⟨_, e, rfl, hc.id.trans hid, hr, ht⟩

theorem endStrokes_ended (reason : EndReason) (l : List (Fin 48)) (hl : l.Nodup) (p : Part)
    (hp : ∀ i ∈ l, ∃ c a, p.entry i = .opened c a) :
    StrokesEnded reason l p (l.foldl (endStroke reason) p) := by
  induction l generalizing p with
  | nil =>
    exact ⟨⟨_, _, _, _, _, _, _, _, _, rfl⟩, nofun, fun _ _ => .refl _, nofun, fun _ _ => rfl,
      fun _ => rfl, fun _ h => h, (if_pos rfl).symm, rfl⟩
  | cons i t ih =>
    obtain ⟨hit, ht⟩ := List.nodup_cons.1 hl
    obtain ⟨c, a, hi⟩ := hp i List.mem_cons_self
    have h1 := endStroke_ended reason hi
    have hopen : ∀ j ∈ t, ∀ c a, p.entry j = .opened c a →
        ∃ c' a', (endStroke reason p i).entry j = .opened c' a' ∧ c.Like c' := by
      intro j hj c a hje
      have := h1.others j (fun h => hit (h ▸ hj))
      rw [hje] at this
      exact this.opened_left
    have h2 := ih ht (endStroke reason p i) fun j hj => by
      obtain ⟨c, a, hje⟩ := hp j (List.mem_cons_of_mem i hj)
      obtain ⟨c', a', he, -⟩ := hopen j hj c a hje
      exact ⟨c', a', he⟩
    set q1 := endStroke reason p i
    set q := t.foldl (endStroke reason) q1
    have htick : q1.tick = p.tick := h1.strokeStep.tick
    show StrokesEnded reason (i :: t) p q
    refine ⟨?_, ?_, ?_, ?_, ?_, ?_, ?_, ?_, ?_⟩
    · obtain ⟨_, _, _, _, _, _, _, _, hb1⟩ := h1.blocks
      obtain ⟨_, _, _, _, _, _, _, _, _, hb2⟩ := h2.blocks
      rw [hb2, hb1]
      exact ⟨_, _, _, _, _, _, _, _, _, rfl⟩
    · intro j hj c' a' hje
      rcases List.mem_cons.1 hj with rfl | hj
      · rw [hi] at hje
        cases hje
        refine ended_of_like (h2.others j hit) (h1.entry.imp_right ?_)
        rintro ⟨c1, e, he, hid, -, hr, ht⟩
        exact ⟨c1, e, he, hid, hr, ht⟩
      · obtain ⟨c1, a1, he, hlike⟩ := hopen j hj c' a' hje
        have := h2.ended j hj c1 a1 he
        rwa [hlike.id, htick] at this
    · intro j hj
      obtain ⟨hji, hjt⟩ := not_or.1 (fun h => hj (List.mem_cons.2 h))
      exact (h1.others j hji).trans (h2.others j hjt)
    · intro j hj c' a' hje
      rcases List.mem_cons.1 hj with rfl | hj
      · rw [hi] at hje
        cases hje
        exact h2.stays _ (by rw [h1.seat, if_pos rfl])
      · obtain ⟨c1, a1, he, hlike⟩ := hopen j hj c' a' hje
        rw [← hlike.seat]
        exact h2.cleared j hj c1 a1 he
    · intro s hs
      rw [h2.kept s, h1.seat, if_neg fun h => hs i List.mem_cons_self c a hi h.symm]
      intro j hj c1 a1 he
      obtain ⟨c', a', hje⟩ := hp j (List.mem_cons_of_mem i hj)
      obtain ⟨c2, a2, he2, hlike⟩ := hopen j hj c' a' hje
      rw [he2] at he
      cases he
      rw [hlike.seat]
      exact hs j (List.mem_cons_of_mem i hj) c' a' hje
    · intro s
      rw [h2.seats s, h1.seat]
      split <;> rfl
    · intro s hs
      refine h2.stays s ?_
      rw [h1.seat]
      split
      · rfl
      · exact hs
    · rw [h2.counted, h1.counted, if_neg (List.cons_ne_nil i t), List.length_cons]
      split
      · next ht => rw [ht]; rfl
      · omega
    · exact h2.replyHeld.trans h1.replyHeld

/-! ### A commit (R11, R43, R44) -/

/-- The part right after a commit has changed the tables, before any stroke ends. -/
def Part.committed (p : Part) : Part := { p with active := p.staged, staging := ⟨false, 0⟩ }

/-- The entries of the OPEN strokes that the pending commit revokes (R43). -/
def Part.revokedEntries (p : Part) : List (Fin 48) := p.openEntries fun c => p.revokedBy c.seat

theorem mem_openEntries {p : Part} {f : StrokeCore → Bool} {i : Fin 48} :
    i ∈ p.openEntries f ↔ ∃ c a, p.entry i = .opened c a ∧ f c = true := by
  rw [Part.openEntries, List.mem_filter]
  refine ⟨fun ⟨_, h⟩ => ?_, fun ⟨c, a, he, hf⟩ => ⟨mem_indexes i, by rw [he]; exact hf⟩⟩
  cases he : p.entry i with
  | free => rw [he] at h; cases h
  | ending c e => rw [he] at h; cases h
  | opened c a => rw [he] at h; exact ⟨c, a, rfl, h⟩

theorem openEntries_pairwise (p : Part) (f : StrokeCore → Bool) : (p.openEntries f).Pairwise (· < ·) :=
  (List.pairwise_lt_finRange 48).filter _

theorem revokedEntries_nodup (p : Part) : p.revokedEntries.Nodup :=
  (openEntries_pairwise p _).imp fun h => ne_of_lt h

/-- The strokes a commit revokes have ended. -/
def Part.revoked (p : Part) : Part := p.revokedEntries.foldl (endStroke .revoked) p.committed

theorem revoked_ended (p : Part) : StrokesEnded .revoked p.revokedEntries p.committed p.revoked :=
  endStrokes_ended .revoked _ (revokedEntries_nodup p) p.committed fun i hi => by
    obtain ⟨c, a, he, -⟩ := mem_openEntries.1 hi
    exact ⟨c, a, he⟩

theorem applyCommit_eq (mark : Byte) (substitute : Bool) (p : Part) :
    applyCommit mark substitute p = notice (.committed mark substitute)
      { p.revoked with seats := adjustSeats p.active p.revoked.active p.revoked.seats } := rfl

/-- A commit makes a seat's expected sequence absent when its room address differs or it becomes enabled (R11). -/
theorem resequences_iff (old new : Tables) (seat : Fin 72) : resequences old new seat = true ↔
    seat.val < 64 ∧ (look old.identity seat).address ≠ (look new.identity seat).address ∨
      (look old.identity seat).enabled = false ∧ (look new.identity seat).enabled = true := by
  simp [resequences, isRoomSeat]

theorem look_adjustSeats (old new : Tables) (seats : Vector Seat 72) (seat : Fin 72) :
    look (adjustSeats old new seats) seat =
      { look seats seat with
        expected :=
          if seat.val < 64 ∧ (look old.identity seat).address ≠ (look new.identity seat).address ∨
              (look old.identity seat).enabled = false ∧ (look new.identity seat).enabled = true then none
          else (look seats seat).expected } := by
  rw [adjustSeats, look_ofFn]
  by_cases h : resequences old new seat = true
  · rw [if_pos h, if_pos ((resequences_iff ..).1 h)]
  · rw [if_neg h, if_neg fun hc => h ((resequences_iff ..).2 hc)]

theorem revoked_active (p : Part) : p.revoked.active = p.staged := by
  obtain ⟨_, _, _, _, _, _, _, _, _, h⟩ := (revoked_ended p).blocks
  rw [h]
  rfl

theorem applyCommit_commitApplied (mark : Byte) (substitute : Bool) (p : Part) :
    CommitApplied mark substitute p (applyCommit mark substitute p) := by
  refine ⟨p.revokedEntries, adjustSeats p.active p.revoked.active p.revoked.seats,
    openEntries_pairwise p _, fun i => mem_openEntries, fun seat => ?_, rfl⟩
  rw [look_adjustSeats, revoked_active]
  rfl

/-! ### Around the commit step (R39, R82, R146 to R151) -/

/-- What flushes and departures make of an entry: a FREE one stays so, an OPEN stroke stays OPEN, an ENDING one may
complete. -/
def Entry.Goes (x y : Entry) : Prop :=
  match x with
  | .free => y = .free
  | .opened c _ => ∃ c' a', y = .opened c' a' ∧ c'.id = c.id ∧ c'.seat = c.seat
  | .ending c e => y = .free ∨ ∃ c' e', y = .ending c' e' ∧ c'.id = c.id ∧ e'.reason = e.reason ∧
      e'.endTick = e.endTick

theorem Entry.Like.goes {x y : Entry} (h : x.Like y) : x.Goes y := by
  cases h with
  | free => rfl
  | opened hc _ => exact ⟨_, _, rfl, hc.id, hc.seat⟩
  | ending hc => exact .inr ⟨_, _, rfl, hc.id, rfl, rfl⟩

theorem Entry.Served.goes {x y : Entry} (h : x.Served y) : x.Goes y := by
  cases x with
  | free => exact h.free
  | opened c a => exact ⟨c, a, h.opened, rfl, rfl⟩
  | ending c e =>
    refine h.ending.imp_right ?_
    rintro ⟨w, d, hy⟩
    exact ⟨c, _, hy, rfl, rfl, rfl⟩

theorem Entry.Goes.trans {x y z : Entry} (h1 : x.Goes y) (h2 : y.Goes z) : x.Goes z := by
  cases x with
  | free =>
    obtain rfl : y = .free := h1
    exact h2
  | opened c a =>
    obtain ⟨c1, a1, rfl, hid, hs⟩ := h1
    obtain ⟨c2, a2, rfl, hid2, hs2⟩ := h2
    exact ⟨c2, a2, rfl, hid2.trans hid, hs2.trans hs⟩
  | ending c e =>
    rcases h1 with rfl | ⟨c1, e1, rfl, hid, hr, ht⟩
    · exact .inl h2
    · rcases h2 with rfl | ⟨c2, e2, rfl, hid2, hr2, ht2⟩
      · exact .inl rfl
      · exact .inr ⟨c2, e2, rfl, hid2.trans hid, hr2.trans hr, ht2.trans ht⟩

/-- From one part to another nothing has changed but what a flush, a raise and the departures that follow an event
may change, and the count of free draws. -/
structure Around (p q : Part) : Prop where
  fixed : q = { p with
    assembler := { p.assembler with entries := q.assembler.entries }
    queues := q.queues
    egress := q.egress
    history := q.history
    agent := q.agent
    errors := q.errors
    sent := q.sent
    freeDraws := q.freeDraws }
  entries : ∀ i, (p.entry i).Goes (q.entry i)
  grows : Grows p q
  replyHeld : q.agent.replyHeld = p.agent.replyHeld

namespace Around

theorem refl (p : Part) : Around p p := ⟨rfl, fun _ => (Entry.Like.refl _).goes, .refl p, rfl⟩

theorem trans {p q r : Part} (h1 : Around p q) (h2 : Around q r) : Around p r where
  fixed := by rw [h2.fixed, h1.fixed]
  entries i := (h1.entries i).trans (h2.entries i)
  grows := h1.grows.trans h2.grows
  replyHeld := h2.replyHeld.trans h1.replyHeld

theorem draw (p : Part) (n : Nat) : Around p { p with freeDraws := n } :=
  ⟨rfl, fun _ => (Entry.Like.refl _).goes, .of_eq rfl rfl, rfl⟩

theorem of_inkStep {p q : Part} (h : InkStep p q) (hg : Grows p q) : Around p q :=
  ⟨by rw [h.fixed], fun i => (h.entries i).goes, hg, h.replyHeld⟩

theorem settle (p : Part) : Around p (settle p) where
  fixed := by rw [(settle_settleStep p).fixed]
  entries i := ((settle_settleStep p).entries i).goes
  grows := (settle_settleStep p).grows
  replyHeld := by rw [(settle_settleStep p).agent]

theorem flush (p : Part) : Around p (flushPoints p) := of_inkStep (flushPoints_inkStep p) (flushPoints_grows p)

theorem raise (k : ErrorKind) (src : ErrorSource) (p : Part) : Around p (raise k src p) :=
  of_inkStep (raise_inkStep k src p) (raise_grows k src p)

theorem seat {p q : Part} (h : Around p q) (s : Fin 72) : q.seat s = p.seat s := by
  rw [Part.seat, h.fixed]; rfl
theorem active {p q : Part} (h : Around p q) : q.active = p.active := by rw [h.fixed]
theorem staged {p q : Part} (h : Around p q) : q.staged = p.staged := by rw [h.fixed]
theorem staging {p q : Part} (h : Around p q) : q.staging = p.staging := by rw [h.fixed]
theorem monitor {p q : Part} (h : Around p q) : q.monitor = p.monitor := by rw [h.fixed]
theorem tick {p q : Part} (h : Around p q) : q.tick = p.tick := by rw [h.fixed]
theorem phase {p q : Part} (h : Around p q) : q.phase = p.phase := by rw [h.fixed]
theorem counters {p q : Part} (h : Around p q) : q.assembler.counters = p.assembler.counters := by
  rw [h.fixed]
theorem untouched {p q : Part} (h : Around p q) : q.tick = p.tick ∧ q.phase = p.phase ∧
    q.timing = p.timing ∧ q.conditioning = p.conditioning ∧ q.receivers = p.receivers ∧
    q.refusals = p.refusals ∧ q.store = p.store ∧ q.save = p.save := by
  rw [h.fixed]
  simp only [and_self]

/-- An entry is OPEN exactly when it was, with a stroke of the same seat. -/
theorem opened_iff {p q : Part} (h : Around p q) (f : StrokeCore → Bool)
    (hf : ∀ c d : StrokeCore, d.seat = c.seat → f d = f c) (i : Fin 48) :
    (∃ c a, q.entry i = .opened c a ∧ f c = true) ↔ ∃ c a, p.entry i = .opened c a ∧ f c = true := by
  have hi := h.entries i
  cases he : p.entry i with
  | free =>
    rw [he] at hi
    rw [show q.entry i = .free from hi]
  | opened c a =>
    rw [he] at hi
    obtain ⟨c', a', hq, -, hs⟩ := hi
    rw [hq]
    constructor
    · rintro ⟨_, _, h, hc⟩; cases h; exact ⟨c, a, rfl, (hf c c' hs).symm.trans hc⟩
    · rintro ⟨_, _, h, hc⟩; cases h; exact ⟨c', a', rfl, (hf c c' hs).trans hc⟩
  | ending c e =>
    rw [he] at hi
    rcases hi with hq | ⟨c', e', hq, -⟩
    · rw [hq]
      exact iff_of_false (by rintro ⟨_, _, h, -⟩; cases h) (by rintro ⟨_, _, h, -⟩; cases h)
    · rw [hq]
      exact iff_of_false (by rintro ⟨_, _, h, -⟩; cases h) (by rintro ⟨_, _, h, -⟩; cases h)

end Around

/-! ### A mark (R37 to R39, R42) -/

theorem stepCountdown_eq (p : Part) : stepCountdown p = { p with
    staging := if p.staging.pending then ⟨true, p.staging.countdown - 1⟩ else p.staging } := by
  unfold stepCountdown
  cases hp : p.staging.pending
  · rfl
  · simp only [if_true, ← hp]

/-- A mark that applies no commit steps the countdown. -/
theorem markTaken_waits (mark : Byte) (substitute : Bool) {p q : Part} (hp : ¬ p.applies)
    (h : Around (stepCountdown p) q) : MarkTaken mark substitute p q := by
  rw [stepCountdown_eq] at h
  exact {
    staged := h.staged
    active := h.active.trans (if_neg hp).symm
    staging := h.staging.trans (if_neg hp).symm
    committed := fun ha => absurd ha hp
    revoked := fun ha => absurd ha hp
    ends := fun ha => absurd ha hp
    counted := (congrArg StrokeCounters.revoked h.counters).trans (if_neg fun ha => hp ha.1).symm
    others := fun seat _ => congrArg Seat.openEntry (h.seat seat)
    expected := fun seat => (congrArg Seat.expected (h.seat seat)).trans (if_neg fun ha => hp ha.1).symm
    seats := fun seat => by rw [h.seat seat]; rfl
    untouched := h.untouched }

/-- The blocks that a commit leaves alone. -/
theorem applyCommit_blocks (mark : Byte) (substitute : Bool) (p : Part) :
    ∃ entries counters layers queues agent offer history errors,
      applyCommit mark substitute p = { p with
        active := p.staged
        staging := ⟨false, 0⟩
        seats := adjustSeats p.active p.staged p.revoked.seats
        assembler := { p.assembler with entries := entries, counters := counters }
        layers := layers
        queues := queues
        agent := agent
        egress := { p.egress with offer := offer }
        history := history
        errors := errors } := by
  obtain ⟨_, _, _, _, _, _, _, _, _, hb⟩ := (revoked_ended p).blocks
  obtain ⟨_, _, hn, -⟩ := notice_frame (.committed mark substitute)
    { p.revoked with seats := adjustSeats p.active p.revoked.active p.revoked.seats }
  rw [applyCommit_eq, hn, revoked_active]
  generalize p.revoked.seats = s
  rw [hb]
  exact ⟨_, _, _, _, _, _, _, _, rfl⟩

theorem applyCommit_assembler (mark : Byte) (substitute : Bool) (p : Part) :
    (applyCommit mark substitute p).assembler = p.revoked.assembler := by
  obtain ⟨_, _, hn, -⟩ := notice_frame (.committed mark substitute)
    { p.revoked with seats := adjustSeats p.active p.revoked.active p.revoked.seats }
  rw [applyCommit_eq, hn]

theorem applyCommit_seat (mark : Byte) (substitute : Bool) (p : Part) (seat : Fin 72) :
    (applyCommit mark substitute p).seat seat =
      { p.revoked.seat seat with
        expected :=
          if seat.val < 64 ∧ (look p.active.identity seat).address ≠ (look p.staged.identity seat).address ∨
              (look p.active.identity seat).enabled = false ∧
                (look p.staged.identity seat).enabled = true then none
          else (p.revoked.seat seat).expected } := by
  obtain ⟨_, _, _, _, _, _, _, _, hb⟩ := applyCommit_blocks mark substitute p
  rw [Part.seat, hb]
  exact look_adjustSeats ..

/-- COMMITTED joins the reply queue of a READY part, unless the queue is full (R44, R171). -/
theorem applyCommit_committed (mark : Byte) (substitute : Bool) {p : Part} (hr : p.phase = .ready)
    (hh : p.agent.replyHeld = false) :
    (∃ item ∈ (applyCommit mark substitute p).agent.replies, item.frame = .notice (.committed mark substitute)) ∨
      8 ≤ (applyCommit mark substitute p).agent.replies.length := by
  have hheld : p.revoked.agent.replyHeld = false := (revoked_ended p).replyHeld.trans hh
  have hphase : p.revoked.phase = .ready := by
    obtain ⟨_, _, _, _, _, _, _, _, _, hb⟩ := (revoked_ended p).blocks
    rw [hb]
    exact hr
  set q : Part := { p.revoked with seats := adjustSeats p.active p.revoked.active p.revoked.seats } with hq
  have hlimit : q.noticeLimit = 8 := by
    have hl : q.isLoading = false := isLoading_of_ready hphase
    simp [Part.noticeLimit, Part.gateLimit, hl, show q.agent.replyHeld = false from hheld]
    rfl
  rw [applyCommit_eq, ← hq, notice_eq, hlimit]
  split
  · obtain ⟨o, hj⟩ := joinReply_eq (.notice (.committed mark substitute)) q
    rw [hj]
    exact .inl ⟨_, List.mem_append_right _ (List.mem_singleton_self _), rfl⟩
  · exact .inr (by simp only; omega)

/-- How many strokes a commit revokes (R111). -/
theorem length_revokedEntries (p : Part) : p.revokedEntries.length = p.revokedStrokes := by
  rw [Part.revokedEntries, Part.openEntries, ← List.countP_eq_length_filter, Part.revokedStrokes,
    Part.countEntries, toList_eq_map, List.countP_map]
  refine List.countP_congr fun i _ => ?_
  show _ ↔ (match p.entry i with | .opened c _ => p.revokedBy c.seat | _ => false) = true
  cases p.entry i <;> rfl

namespace Around

theorem applies {p q : Part} (h : Around p q) : q.applies ↔ p.applies := by
  rw [Part.applies, h.staging]

theorem revokedBy {p q : Part} (h : Around p q) (seat : Fin 72) : q.revokedBy seat = p.revokedBy seat := by
  rw [Part.revokedBy, h.active, h.staged]
  rfl

/-- What goes on around a commit step does not change which strokes it revokes. -/
theorem revokedEntries {p q : Part} (h : Around p q) : q.revokedEntries = p.revokedEntries := by
  have hf : (fun c : StrokeCore => q.revokedBy c.seat) = fun c => p.revokedBy c.seat :=
    funext fun c => h.revokedBy c.seat
  rw [Part.revokedEntries, Part.revokedEntries, hf]
  refine List.filter_congr fun i _ => Bool.eq_iff_iff.2 ?_
  have hp := mem_openEntries (p := p) (f := fun c => p.revokedBy c.seat) (i := i)
  have hq := mem_openEntries (p := q) (f := fun c => p.revokedBy c.seat) (i := i)
  simp only [Part.openEntries, List.mem_filter, mem_indexes, true_and] at hp hq
  exact hq.trans ((h.opened_iff _ (fun c d e => congrArg p.revokedBy e) i).trans hp.symm)

end Around

/-- A mark that applies a commit, with what goes on before and after it. -/
theorem markTaken_commits (mark : Byte) (substitute : Bool) {p a q : Part} (hr : p.phase = .ready)
    (hp : p.applies) (h1 : Around p a) (h2 : Around (applyCommit mark substitute a) q) :
    MarkTaken mark substitute p q := by
  have hend := revoked_ended a
  have hl : a.revokedEntries = p.revokedEntries := h1.revokedEntries
  have hopen : ∀ i ∈ a.revokedEntries, ∃ c e, a.entry i = .opened c e ∧ p.revokedBy c.seat = true := by
    intro i hi
    obtain ⟨c, e, he, hc⟩ := mem_openEntries.1 hi
    exact ⟨c, e, he, (h1.revokedBy c.seat).symm.trans hc⟩
  have hkept : ∀ s, a.revoked.seat s =
      { p.seat s with openEntry := (a.revoked.seat s).openEntry } := fun s =>
    (hend.seats s).trans (by rw [show a.committed.seat s = p.seat s from h1.seat s])
  have hseat : ∀ s, q.seat s = _ := fun s => (h2.seat s).trans (applyCommit_seat mark substitute a s)
  simp only [h1.active, h1.staged] at hseat
  obtain ⟨entries, counters, layers, queues, agent, offer, history, errors, hb⟩ :=
    applyCommit_blocks mark substitute a
  exact {
    staged := by rw [h2.staged, hb, ← h1.staged]
    active := by rw [if_pos hp, h2.active, hb, ← h1.staged]
    staging := by rw [if_pos hp, h2.staging, hb]
    committed := fun _ hh => by
      rcases applyCommit_committed mark substitute (h1.phase.trans hr) (h1.replyHeld.trans hh) with
        ⟨item, hi, hf⟩ | hfull
      · exact .inl ⟨item, h2.grows.replies.subset hi, hf⟩
      · exact .inr (hfull.trans h2.grows.replies.length_le)
    revoked := fun _ hagree seat hon hoff => by
      rw [hseat]
      show (a.revoked.seat seat).openEntry = none
      cases ho : (p.seat seat).openEntry with
      | none => exact hend.stays seat ((congrArg Seat.openEntry (h1.seat seat)).trans ho)
      | some i =>
        obtain ⟨c, e, he, hc⟩ := (hagree.reference seat i).1 ho
        have hrev : p.revokedBy c.seat = true := by simp [Part.revokedBy, hc, hon, hoff]
        obtain ⟨c', e', he', hs⟩ : ∃ c' e', a.entry i = .opened c' e' ∧ c'.seat = c.seat := by
          have := h1.entries i
          rw [he] at this
          obtain ⟨c', e', h, -, hs⟩ := this
          exact ⟨c', e', h, hs⟩
        have hi : i ∈ a.revokedEntries := hl ▸ mem_openEntries.2 ⟨c, e, he, hrev⟩
        have := hend.cleared i hi c' e' he'
        rwa [hs, hc] at this
    ends := fun _ i c e he hrev => by
      have hi : i ∈ a.revokedEntries := hl ▸ mem_openEntries.2 ⟨c, e, he, hrev⟩
      have hg := h1.entries i
      rw [he] at hg
      obtain ⟨c', e', he', hid, -⟩ := hg
      have hq := h2.entries i
      rw [Part.entry, applyCommit_assembler] at hq
      rcases hend.ended i hi c' e' he' with hfree | ⟨c1, e1, hending, hid1, hr1, ht1⟩
      · rw [show look a.revoked.assembler.entries i = .free from hfree] at hq
        exact .inl hq
      · rw [show look a.revoked.assembler.entries i = .ending c1 e1 from hending] at hq
        rcases hq with hq | ⟨c2, e2, hq, hid2, hr2, ht2⟩
        · exact .inl hq
        · exact .inr ⟨c2, e2, hq, (hid2.trans hid1).trans hid, hr2.trans hr1,
            (ht2.trans ht1).trans h1.tick⟩
    counted := by
      have hc := hend.counted
      rw [hl] at hc
      rw [h2.counters, applyCommit_assembler]
      show a.revoked.assembler.counters.ended .revoked = _
      rw [hc, ← length_revokedEntries]
      have h0 : a.committed.assembler.counters.ended .revoked = p.assembler.counters.revoked :=
        congrArg StrokeCounters.revoked h1.counters
      rw [h0]
      by_cases hnil : p.revokedEntries = []
      · rw [if_pos hnil, if_neg fun h => h.2 (by rw [hnil]; rfl)]
      · rw [if_neg hnil, if_pos ⟨hp, by rwa [ne_eq, List.length_eq_zero_iff]⟩]
    others := fun seat hs => by
      rw [hseat]
      show (a.revoked.seat seat).openEntry = _
      rw [hend.kept seat]
      · exact congrArg Seat.openEntry (h1.seat seat)
      · rintro i hi c e he rfl
        obtain ⟨c', e', he', hrev⟩ := hopen i hi
        rw [show a.entry i = .opened c e from he] at he'
        cases he'
        simp only [Part.revokedBy, Bool.and_eq_true, Bool.not_eq_true'] at hrev
        rcases hs with h | h | h
        · exact h hp
        · rw [h] at hrev; exact Bool.false_ne_true hrev.1
        · rw [h] at hrev; exact Bool.false_ne_true hrev.2.symm
    expected := fun seat => by
      rw [hseat]
      refine if_congr (and_iff_right hp).symm rfl ?_
      rw [hkept seat]
    seats := fun seat => by
      rw [hseat, hkept seat]
    untouched := by
      have hc := h2.untouched
      rw [hb] at hc
      obtain ⟨htick, hphase, htiming, hcond, hrecv, href, hstore, hsave⟩ := hc
      obtain ⟨htick1, hphase1, htiming1, hcond1, hrecv1, href1, hstore1, hsave1⟩ := h1.untouched
      exact ⟨htick.trans htick1, hphase.trans hphase1, htiming.trans htiming1, hcond.trans hcond1,
        hrecv.trans hrecv1, href.trans href1, hstore.trans hstore1, hsave.trans hsave1⟩ }

/-! ### The effects of a mark (R39, R42) -/

theorem markEffects_applies (mark : Byte) (substitute : Bool) {p : Part} (h : p.applies) :
    markEffects mark substitute p = if Config.commitFirst p.freeDraws = true then
        flushPoints (applyCommit mark substitute { p with freeDraws := p.freeDraws + 1 })
      else applyCommit mark substitute (flushPoints { p with freeDraws := p.freeDraws + 1 }) := if_pos h

theorem markEffects_waits (mark : Byte) (substitute : Bool) {p : Part} (h : ¬ p.applies) :
    markEffects mark substitute p = flushPoints (stepCountdown p) := if_neg h

theorem Around.countdown {p q : Part} (h : Around p q) : Around (stepCountdown p) (stepCountdown q) := by
  rw [stepCountdown_eq, stepCountdown_eq, h.staging]
  exact ⟨by rw [h.fixed], h.entries, ⟨h.grows.replies, h.grows.status⟩, h.replyHeld⟩

/-- What a mark's effects do to tables, staging control, seats and the blocks left alone, from a part whose errors
and monitor the mark has changed already. -/
theorem markEffects_taken (mark : Byte) (substitute : Bool) {p a : Part} (hr : p.phase = .ready)
    (h : Around p a) : MarkTaken mark substitute p (settle (markEffects mark substitute a)) := by
  by_cases ha : a.applies
  · have hp := h.applies.1 ha
    have hd := h.trans (Around.draw a (a.freeDraws + 1))
    rw [markEffects_applies mark substitute ha]
    split
    · exact markTaken_commits mark substitute hr hp hd ((Around.flush _).trans (.settle _))
    · exact markTaken_commits mark substitute hr hp (hd.trans (.flush _)) (.settle _)
  · rw [markEffects_waits mark substitute ha]
    exact markTaken_waits mark substitute (fun hp => ha (h.applies.2 hp))
      (h.countdown.trans ((Around.flush _).trans (.settle _)))

theorem applyCommit_monitor (mark : Byte) (substitute : Bool) (p : Part) :
    (applyCommit mark substitute p).monitor = p.monitor := by
  obtain ⟨_, _, _, _, _, _, _, _, hb⟩ := applyCommit_blocks mark substitute p
  rw [hb]

theorem applyCommit_grows (mark : Byte) (substitute : Bool) (p : Part) :
    Grows p (applyCommit mark substitute p) := by
  have h : Grows p p.revoked := (Grows.foldl (endStroke_grows .revoked) p.revokedEntries _).after rfl rfl
  rw [applyCommit_eq]
  exact h.trans ((notice_grows _ _).after rfl rfl)

theorem stepCountdown_monitor (p : Part) : (stepCountdown p).monitor = p.monitor := by rw [stepCountdown_eq]

theorem stepCountdown_grows (p : Part) : Grows p (stepCountdown p) := by
  rw [stepCountdown_eq]
  exact .of_eq rfl rfl

/-- A mark's effects leave the monitor to the mark. -/
theorem markEffects_monitor (mark : Byte) (substitute : Bool) (p : Part) :
    (settle (markEffects mark substitute p)).monitor = p.monitor := by
  rw [(Around.settle _).monitor]
  by_cases ha : p.applies
  · rw [markEffects_applies mark substitute ha]
    split
    · rw [(Around.flush _).monitor, applyCommit_monitor]
    · rw [applyCommit_monitor, (Around.flush _).monitor]
  · rw [markEffects_waits mark substitute ha, (Around.flush _).monitor, stepCountdown_monitor]

theorem markEffects_grows (mark : Byte) (substitute : Bool) (p : Part) :
    Grows p (settle (markEffects mark substitute p)) := by
  refine Grows.trans ?_ (Around.settle _).grows
  by_cases ha : p.applies
  · have hd := (Around.draw p (p.freeDraws + 1)).grows
    rw [markEffects_applies mark substitute ha]
    split
    · exact (hd.trans (applyCommit_grows ..)).trans (flushPoints_grows _)
    · exact (hd.trans (flushPoints_grows _)).trans (applyCommit_grows ..)
  · rw [markEffects_waits mark substitute ha]
    exact (stepCountdown_grows p).trans (flushPoints_grows _)

/-- A mark makes the point flush, and the commit step before or after it (R39, log entry 12). -/
theorem markEffects_flushes (mark : Byte) (substitute : Bool) (p : Part) :
    MarkFlushes mark substitute p (settle (markEffects mark substitute p)) where
  waits hp := by
    have hs : (settle (flushPoints (stepCountdown p))).staging = (stepCountdown p).staging := by
      rw [(Around.settle _).staging, (Around.flush _).staging]
    rw [markEffects_waits mark substitute hp, hs, stepCountdown_eq]
  applies hp := by
    rw [markEffects_applies mark substitute hp]
    exact apply_ite settle _ _ _

/-! ### Real and substitute marks (R37, R38) -/

/-- The monitor and the seats' agreement apart, a mark's effects on a part do not depend on its monitor. -/
theorem MarkTaken.withMonitor {mark : Byte} {substitute : Bool} {p q : Part} {m : Monitor}
    (h : MarkTaken mark substitute { p with monitor := m } q) : MarkTaken mark substitute p q where
  staged := h.staged
  active := h.active
  staging := h.staging
  committed := h.committed
  revoked ha hs := h.revoked ha ⟨hs.reference, hs.exclusive⟩
  ends := h.ends
  counted := h.counted
  others := h.others
  expected := h.expected
  seats := h.seats
  untouched := h.untouched

/-- The monitor once a real mark is taken (R37). -/
def Monitor.locked (m : Monitor) (number : Byte) (now : Tick) (timeout : Nat) : Monitor :=
  match m.lastRealTick with
  | none =>
    { m with state := .locked, lastMark := number, lastRealTick := some now, deadline := some ⟨now, timeout⟩ }
  | some t =>
    ⟨.locked, number, some now, now - t,
      if m.captures = 0 ∨ now - t < m.minPeriod then now - t else m.minPeriod,
      if m.captures = 0 ∨ m.maxPeriod < now - t then now - t else m.maxPeriod,
      min 65535 (m.captures + 1), m.substitutes, some ⟨now, timeout⟩⟩

theorem realMark_eq (number : Byte) (p : Part) : realMark number p = markEffects number false
    { p with monitor := p.monitor.locked number p.tick p.timing.frameTimeout } := by
  have hm : { p.monitor.capture p.tick with
      state := .locked
      lastMark := number
      lastRealTick := some p.tick
      deadline := p.frameDeadline } = p.monitor.locked number p.tick p.timing.frameTimeout := by
    unfold Monitor.capture Monitor.locked
    cases p.monitor.lastRealTick with
    | none => rfl
    | some t =>
      simp only [ite_or]
      rfl
  rw [realMark, hm]

theorem exec_frameMark {p : Part} (h : p.phase = .ready) (number : Byte) (rest : List Instr) :
    exec (.frameMark number (crc [0x21, number])) ⟨p, rest⟩ = .next ⟨settle (realMark number p), rest⟩ := by
  have hc : codeMatches ([0x21, number] ++ be16 (crc [0x21, number])) = true :=
    codeMatches_append_be16.2 rfl
  show event (takeDisplayFrame ([0x21, number] ++ be16 (crc [0x21, number]))) ⟨p, rest⟩ = _
  rw [event_next rest (inReset_of_ready h), takeDisplayFrame, if_pos hc,
    show displayForm ([0x21, number] ++ be16 (crc [0x21, number])) = .mark number from rfl]
  simp only [isLoading_of_ready h, Bool.false_eq_true, if_false]

/-- The part whose frame deadline has expired: leaving LOCKED raises FRAME_MARK_LOST (R38). -/
def markLost (p : Part) : Part :=
  if p.monitor.state = .locked then raise .frameMarkLost ⟨some .display, none, none, none, []⟩ p else p

/-- The monitor once a substitute mark is taken (R38). -/
def Monitor.substituted (m : Monitor) (now : Tick) (timeout : Nat) : Monitor :=
  { m with
    state := if m.state = .locked then .lost else m.state
    substitutes := min 65535 (m.substitutes + 1)
    deadline := some ⟨now, timeout⟩ }

theorem markLost_withMonitor (p : Part) (m : Monitor) : { markLost p with monitor := m } =
    if p.monitor.state = .locked then
      raise .frameMarkLost ⟨some .display, none, none, none, []⟩ { p with monitor := m }
    else { p with monitor := m } := by
  unfold markLost
  split
  · exact raise_blind _ _ p id id fun _ => m
  · rfl

theorem markLost_around (p : Part) (m : Monitor) :
    Around { p with monitor := m } { markLost p with monitor := m } := by
  rw [markLost_withMonitor]
  split
  · exact .raise _ _ _
  · exact .refl _

theorem substituteMark_eq (p : Part) : substituteMark p = markEffects 0 true
    { markLost p with monitor := p.monitor.substituted p.tick p.timing.frameTimeout } := by
  have hr := Around.raise .frameMarkLost { noSource with port := some .display } p
  have hb : raise .frameMarkLost { noSource with port := some .display }
      { p with monitor := { p.monitor with state := .lost } } =
      { raise .frameMarkLost { noSource with port := some .display } p with
        monitor := { p.monitor with state := .lost } } :=
    (raise_blind _ _ p id id fun _ => { p.monitor with state := .lost }).symm
  have hd : (raise .frameMarkLost { noSource with port := some .display } p).frameDeadline =
      p.frameDeadline := by
    rw [hr.fixed]
    rfl
  simp only [substituteMark, loseMark, markLost, Monitor.substituted]
  split
  · next hs =>
    rw [hb, if_pos hs, if_pos hs]
    simp only [Part.frameDeadline] at hd ⊢
    rw [hd]
    rfl
  · next hs => rw [if_neg hs, if_neg hs]; rfl

theorem exec_substituteMark {p : Part} (h : p.phase = .ready) (hd : p.frameDue = true) (rest : List Instr) :
    exec .substituteMark ⟨p, rest⟩ = .next ⟨settle (substituteMark p), rest⟩ := by
  show event (fun p => if p.frameDue then substituteMark p else p) ⟨p, rest⟩ = _
  rw [event_next rest (inReset_of_ready h), if_pos hd]

/-- Settles O37: each mark is `markEffects` from a part with the monitor it leaves. -/
theorem marksUpdateTheMonitorAndTheTables : Obligations.MarksUpdateTheMonitorAndTheTables := by
  refine ⟨applyCommit_commitApplied, fun p rest h => ⟨fun number => ?_, fun d hd hdue => ?_⟩⟩
  · let m := p.monitor.locked number p.tick p.timing.frameTimeout
    have hm : (settle (markEffects number false { p with monitor := m })).monitor = m :=
      markEffects_monitor number false { p with monitor := m }
    have htaken := markEffects_taken number false (p := { p with monitor := m }) h (.refl _)
    refine ⟨settle (markEffects number false { p with monitor := m }), ?_, htaken.withMonitor, ?_, ?_⟩
    · rw [exec_frameMark h number rest, realMark_eq]
    · rw [hm]
      exact markEffects_flushes number false { p with monitor := m }
    · rw [hm]
      rfl
  · let m := p.monitor.substituted p.tick p.timing.frameTimeout
    have hm : (settle (markEffects 0 true { markLost p with monitor := m })).monitor = m :=
      markEffects_monitor 0 true { markLost p with monitor := m }
    have htaken := markEffects_taken 0 true (p := { p with monitor := m }) h (markLost_around p m)
    refine ⟨settle (markEffects 0 true { markLost p with monitor := m }), ?_, htaken.withMonitor, ?_, ?_,
      fun hl => ?_⟩
    · rw [exec_substituteMark h ((frameDue_iff p).2 ⟨d, hd, hdue⟩) rest, substituteMark_eq]
    · rw [hm]
      exact markEffects_flushes 0 true { markLost p with monitor := m }
    · rw [hm]
      rfl
    · refine (markEffects_grows 0 true { markLost p with monitor := m }).status _ ?_
      show (look (markLost p).errors.items _).status = true
      rw [markLost, if_pos hl]
      exact raise_status ..

end Sys2Proof.Machine
end

section
/-! SUPPORT. The admission of a touch-down (R19 to R26): the rule that decides it, and the checks in their order. -/

namespace Sys2Proof

/-- The search of a table stops at the lowest index that passes the test. -/
theorem find?_toList_eq_some_iff {α : Type} {n : Nat} (v : Vector α n) (f : α → Bool) (a : α) :
    v.toList.find? f = some a ↔
      ∃ k, f (look v k) = true ∧ (∀ j, j < k → ¬ f (look v j) = true) ∧ look v k = a := by
  rw [List.find?_eq_some_iff_getElem]
  constructor
  · rintro ⟨hf, i, hi, rfl, hb⟩
    refine ⟨⟨i, by simpa using hi⟩, hf, fun j hj => ?_, rfl⟩
    simpa [look, Vector.get_eq_getElem] using hb j.val hj
  · rintro ⟨k, hf, hb, rfl⟩
    refine ⟨hf, k.val, by simp, rfl, fun j hj => ?_⟩
    simpa [look, Vector.get_eq_getElem] using hb ⟨j, hj.trans k.isLt⟩ hj

/-- The search of a table fails when no index passes the test. -/
theorem find?_toList_eq_none_iff {α : Type} {n : Nat} (v : Vector α n) (f : α → Bool) :
    v.toList.find? f = none ↔ ∀ k, ¬ f (look v k) = true := by
  simp only [toList_eq_map, List.find?_eq_none, List.forall_mem_map, mem_indexes, forall_const]

end Sys2Proof

namespace Sys2Proof.Machine

/-! ### The deciding action (R19, R21 to R23) -/

theorem Rule.fits_iff (r : Rule) (seat : Fin 72) (role : Role) (tool : Tool) (target : Fin 8) :
    r.fits seat role tool target = true ↔ r.Fits seat role tool target := by
  have hl : (match r.layerMatch with
      | none => true
      | some l => decide (l = target)) = true ↔ r.layerMatch = none ∨ r.layerMatch = some target := by
    cases r.layerMatch <;> simp
  simp only [Rule.fits, Bool.and_eq_true, decide_eq_true_eq, and_assoc]
  constructor
  · rintro ⟨hvalid, hlow, hhigh, hrole, htool, hlayer⟩
    exact ⟨hvalid, hlow, hhigh, hrole, htool, hl.1 hlayer⟩
  · rintro ⟨hvalid, hlow, hhigh, hrole, htool, hlayer⟩
    exact ⟨hvalid, hlow, hhigh, hrole, htool, hl.2 hlayer⟩

/-- The action of the first rule of the active page that fits decides (R22). -/
theorem decideAction_first {t : Tables} {seat : Fin 72} {role : Role} {tool : Tool} {target : Fin 8}
    {k : Fin 16} (hk : (look (look t.pages t.page) k).Fits seat role tool target)
    (hbefore : ∀ j, j < k → ¬ (look (look t.pages t.page) j).Fits seat role tool target) :
    decideAction t seat role tool target =
      ((look (look t.pages t.page) k).action, (look (look t.pages t.page) k).target) := by
  simp only [← Rule.fits_iff] at hk hbefore
  rw [decideAction, (find?_toList_eq_some_iff _ _ _).2 ⟨k, hk, hbefore, rfl⟩]

/-- Where no rule fits, the page's default decides (R22). -/
theorem decideAction_default {t : Tables} {seat : Fin 72} {role : Role} {tool : Tool} {target : Fin 8}
    (h : ∀ k, ¬ (look (look t.pages t.page) k).Fits seat role tool target) :
    decideAction t seat role tool target = (defaultToAction (look t.defaults t.page), target) := by
  simp only [← Rule.fits_iff] at h
  rw [decideAction, (find?_toList_eq_none_iff _ _).2 h]

/-- Either some rule of a page is the first that fits, or none fits. -/
theorem exists_first_fit (page : Vector Rule 16) (seat : Fin 72) (role : Role) (tool : Tool)
    (target : Fin 8) :
    (∃ k, (look page k).Fits seat role tool target ∧
        ∀ j, j < k → ¬ (look page j).Fits seat role tool target) ∨
      ∀ k, ¬ (look page k).Fits seat role tool target := by
  simp only [← Rule.fits_iff]
  cases hf : page.toList.find? fun r => r.fits seat role tool target with
  | none => exact .inr ((find?_toList_eq_none_iff _ _).1 hf)
  | some r =>
    obtain ⟨k, hk, hbefore, -⟩ := (find?_toList_eq_some_iff _ _ _).1 hf
    exact .inl ⟨k, hk, hbefore⟩

theorem actionOutcome_default (a : DefaultAction) (own target : Fin 8) (o : Option (Fin 8 × Bool)) :
    actionOutcome (defaultToAction a) own target = o ↔
      a = .admitted ∧ o = some (target, false) ∨ a = .deny ∧ o = none := by
  cases a <;> simp [actionOutcome, defaultToAction, eq_comm]

/-- What the rules make of a touch-down before its layer is checked: the chosen layer and the privacy, none
for DENY (R21 to R23). -/
def Part.decision (p : Part) (seat : Fin 72) (s : Sample) : Option (Fin 8 × Bool) :=
  let target := (p.identity seat).targetLayer s.layer
  let d := decideAction p.active seat (p.identity seat).role s.tool target
  actionOutcome d.1 d.2 target

/-- The outcome of the deciding action is the one the model computes. -/
theorem decides_iff (p : Part) (seat : Fin 72) (s : Sample) (o : Option (Fin 8 × Bool)) :
    p.Decides seat s o ↔ p.decision seat s = o := by
  constructor
  · rintro (⟨k, hk, hbefore, ho⟩ | ⟨hnone, ho⟩)
    · rw [← ho]
      exact congrArg (fun d => actionOutcome d.1 d.2 _) (decideAction_first hk hbefore)
    · rw [← (actionOutcome_default _ _ _ _).2 ho]
      exact congrArg (fun d => actionOutcome d.1 d.2 _) (decideAction_default hnone)
  · rintro rfl
    rcases exists_first_fit (look p.active.pages p.active.page) seat (p.identity seat).role s.tool
      ((p.identity seat).targetLayer s.layer) with ⟨k, hk, hbefore⟩ | hnone
    · exact .inl ⟨k, hk, hbefore, by rw [Part.decision, decideAction_first hk hbefore]; rfl⟩
    · exact .inr ⟨hnone, (actionOutcome_default _ _ _ _).1
        (by rw [Part.decision, decideAction_default hnone]; rfl)⟩

/-! ### The checks on the chosen layer (R24 to R26) -/

theorem tableRoom_iff (p : Part) (seat : Fin 72) : p.tableRoom seat = true ↔
    p.countEntries Entry.isOccupied < 48 ∧
      (seat.val < 64 → p.countEntries Entry.isRoomOccupied < 40) := by
  simp only [Part.tableRoom, isRoomSeat, Bool.and_eq_true, Bool.or_eq_true, Bool.not_eq_true',
    decide_eq_true_eq, decide_eq_false_iff_not, ← imp_iff_not_or]
  rfl

section
variable {p : Part} {seat : Fin 72} {layer : Fin 8} (isPrivate : Bool)

theorem checkLayer_not_allowed (h : (p.identity seat).allowedLayers.has layer = false) :
    checkLayer p seat layer isPrivate = .error .notAllowed := if_pos h

theorem checkLayer_not_open (h : (p.identity seat).allowedLayers.has layer = true)
    (hs : (p.layer layer).state ≠ .opened) :
    checkLayer p seat layer isPrivate = .error .layerNotOpen := by
  simp [checkLayer, h, hs]

theorem checkLayer_no_room (h : (p.identity seat).allowedLayers.has layer = true)
    (hs : (p.layer layer).state = .opened) (hr : ¬ p.tableRoom seat = true) :
    checkLayer p seat layer isPrivate = .error .tableFull := by
  simp [checkLayer, h, hs, hr]

/-- A layer passes its checks exactly when the seat may use it, it is OPEN and the table has room. -/
theorem checkLayer_ok_iff {o : Fin 8 × Bool} : checkLayer p seat layer isPrivate = .ok o ↔
    (layer, isPrivate) = o ∧ (p.identity seat).allowedLayers.has layer = true ∧
      (p.layer layer).state = .opened ∧ p.tableRoom seat = true := by
  unfold checkLayer
  split_ifs <;> simp_all

end

/-- Only DENY gives the reason DENIED. -/
theorem checkLayer_ne_denied (p : Part) (seat : Fin 72) (layer : Fin 8) (isPrivate : Bool) :
    checkLayer p seat layer isPrivate ≠ .error .denied := by
  unfold checkLayer
  split_ifs <;> simp

/-- A touch-down that is not denied stands or falls with the checks on its layer (R20 to R27). -/
theorem evaluate_eq (p : Part) (seat : Fin 72) (s : Sample) : evaluate p seat s =
    (p.decision seat s).elim (.error .denied) fun o => checkLayer p seat o.1 o.2 := by
  simp only [evaluate, Part.decision]
  rcases decideAction p.active seat (p.identity seat).role s.tool
    ((p.identity seat).targetLayer s.layer) with ⟨a, own⟩
  cases a <;> rfl

theorem evaluate_of_none {p : Part} {seat : Fin 72} {s : Sample} (h : p.decision seat s = none) :
    evaluate p seat s = .error .denied := by
  rw [evaluate_eq, h]
  rfl

theorem evaluate_of_some {p : Part} {seat : Fin 72} {s : Sample} {layer : Fin 8} {isPrivate : Bool}
    (h : p.decision seat s = some (layer, isPrivate)) :
    evaluate p seat s = checkLayer p seat layer isPrivate := by
  rw [evaluate_eq, h]
  rfl

/-- Settles O19: `decides_iff` for the deciding action, then the checks of `checkLayer` in their order. -/
theorem admissionFollowsTheFirstFittingRule : Obligations.AdmissionFollowsTheFirstFittingRule := by
  intro p seat s allowed room
  simp only [decides_iff]
  have hroom : p.tableRoom seat = true ↔ room := tableRoom_iff p seat
  refine ⟨fun layer isPrivate => ?_, ?_, fun layer isPrivate hd => ?_⟩
  · cases hd : p.decision seat s with
    | none => simp [evaluate_of_none hd]
    | some o =>
      rw [evaluate_of_some hd, checkLayer_ok_iff, hroom, Option.some_inj]
      exact and_congr_right fun ho : o = (layer, isPrivate) => by rw [ho]; rfl
  · cases hd : p.decision seat s with
    | none => simp [evaluate_of_none hd]
    | some o => simp [evaluate_of_some hd, checkLayer_ne_denied]
  · rw [evaluate_of_some hd, ← hroom]
    exact ⟨checkLayer_not_allowed isPrivate, checkLayer_not_open isPrivate, checkLayer_no_room isPrivate⟩

end Sys2Proof.Machine
end

section
/-! SUPPORT. A contact sample that draws nothing: what a raise depends on, and what a refused touch-down leaves (R26,
R28, R64). -/

namespace Sys2Proof.Machine

/-! ### What a raise depends on (R150, R171, R181) -/

/-- Two parts agree in all that a raise reads and changes. -/
structure RaisesAlike (p q : Part) : Prop where
  agent : p.agent = q.agent
  egress : p.egress = q.egress
  errors : p.errors = q.errors
  queues : p.queues = q.queues
  tick : p.tick = q.tick
  phase : p.phase = q.phase

namespace RaisesAlike

theorem ite {p q p' q' : Part} {c d : Prop} [Decidable c] [Decidable d] (hcd : c ↔ d)
    (h : RaisesAlike p q) (h' : RaisesAlike p' q') :
    RaisesAlike (if c then p else p') (if d then q else q') := by
  by_cases hd : d
  · rwa [if_pos hd, if_pos (hcd.2 hd)]
  · rwa [if_neg hd, if_neg (mt hcd.1 hd)]

section
variable {p q : Part} (h : RaisesAlike p q)
include h

theorem noticeLimit : p.noticeLimit = q.noticeLimit := by
  unfold Part.noticeLimit Part.gateLimit Part.isLoading
  rw [h.agent, h.phase]

theorem withAgent {a b : Agent} (hab : a = b) : RaisesAlike { p with agent := a } { q with agent := b } :=
  { h with agent := hab }

theorem withErrors {e f : Errors} (hef : e = f) :
    RaisesAlike { p with errors := e } { q with errors := f } :=
  { h with errors := hef }

theorem roomChoose : RaisesAlike (roomChoose p) (roomChoose q) := by
  have hc : p.choice = q.choice :=
    choice_congr (by rw [h.agent]) (by rw [h.queues]) (by rw [h.egress]) h.tick
  have hoffer : RaisesAlike (p.setOffer p.choice) (q.setOffer q.choice) :=
    { h with egress := by simp only [Part.setOffer, h.egress, hc] }
  exact ite (by rw [h.egress]) hoffer h

theorem notice {m n : Notice} (hmn : m = n) : RaisesAlike (notice m p) (notice n q) :=
  ite (by rw [h.agent, h.noticeLimit]) (h.withAgent (by rw [h.agent, h.tick, hmn])).roomChoose
    (h.withAgent (by rw [h.agent]))

theorem logFirst (k : ErrorKind) (src : ErrorSource) : RaisesAlike (p.logFirst k src) (q.logFirst k src) :=
  ite (by rw [h.errors]) (h.withErrors (by rw [h.errors, h.tick])) h

theorem setErrorItems {v w : Vector ErrorItem 13} (hvw : v = w) :
    RaisesAlike (p.setErrorItems v) (q.setErrorItems w) :=
  h.withErrors (by rw [h.errors, hvw])

theorem raise (k : ErrorKind) (src : ErrorSource) : RaisesAlike (raise k src p) (raise k src q) := by
  have hitem : look p.errors.items k.index = look q.errors.items k.index := by rw [h.errors]
  have hlogged := ite (by rw [hitem]) (h.logFirst k src) h
    (c := (!(look p.errors.items k.index).mask && !(look p.errors.items k.index).status) = true)
  have htold := ite (by rw [hitem])
    (hlogged.notice (congrArg (Notice.errorNotice k) h.tick)) hlogged
    (c := ((!(look p.errors.items k.index).mask && !(look p.errors.items k.index).status) &&
      decide ((look p.errors.items k.index).severity = .alert)) = true)
  refine htold.setErrorItems ?_
  rw [htold.errors, hitem]

end

end RaisesAlike

/-- A raise that finds its kind unmasked and clear and the log empty fills the log (R181, R182). -/
theorem raise_log {k : ErrorKind} {p : Part} (src : ErrorSource)
    (hmask : (look p.errors.items k.index).mask = false)
    (hstatus : (look p.errors.items k.index).status = false) (hlog : p.errors.log = none) :
    (raise k src p).errors.log = some ⟨k, src, p.tick⟩ := by
  obtain ⟨a, o, h, -⟩ := raise_eq k src p
  rw [h]
  exact if_pos ⟨hmask, hstatus, hlog⟩

theorem raise_counter (k : ErrorKind) (src : ErrorSource) (p : Part) :
    (look (raise k src p).errors.items k.index).counter =
      min 65535 ((look p.errors.items k.index).counter + 1) := by
  obtain ⟨a, o, h, -⟩ := raise_eq k src p
  simp [h]

/-! ### Contact samples at a seat without an OPEN stroke (R28, R64, R93) -/

theorem evaluate_abortWindow (seat : Fin 72) (p : Part) (s : Sample) :
    evaluate (abortWindow seat p) seat s = evaluate p seat s := rfl

theorem contactSample_lockedOut {seat : Fin 72} {p : Part} {reason : Lockout} (s : Sample)
    (src : ErrorSource) (hopen : (p.seat seat).openEntry = none) (hlock : (p.seat seat).lockout = some reason) :
    contactSample seat s src p =
      (abortWindow seat p).countStrokes fun k => { k with lockoutDrops := bump k.lockoutDrops } := by
  have ho : ((abortWindow seat p).seat seat).openEntry = none := hopen
  have hl : ((abortWindow seat p).seat seat).lockout = some reason := hlock
  simp only [contactSample, ho, hl]

theorem contactSample_refused {seat : Fin 72} {p : Part} {s : Sample} {reason : Lockout}
    (src : ErrorSource) (hopen : (p.seat seat).openEntry = none) (hlock : (p.seat seat).lockout = none)
    (he : evaluate p seat s = .error reason) :
    contactSample seat s src p = refuseTouch seat reason src (abortWindow seat p) := by
  have ho : ((abortWindow seat p).seat seat).openEntry = none := hopen
  have hl : ((abortWindow seat p).seat seat).lockout = none := hlock
  simp only [contactSample, ho, hl, touchDown, evaluate_abortWindow, he]

/-- What a refusal tells: TABLE_FULL alone is raised, with the port, channel and address of the sample's frame and
the seat, without header bytes (R26). -/
def refusalTold (seat : Fin 72) (reason : Lockout) (src : ErrorSource) (p : Part) : Part :=
  if reason = .tableFull then raise .tableFull ⟨src.port, src.channel, src.address, some seat, []⟩ p else p

theorem RaisesAlike.refusalTold {p q : Part} (h : RaisesAlike p q) (seat : Fin 72) (reason : Lockout)
    (src : ErrorSource) : RaisesAlike (refusalTold seat reason src p) (refusalTold seat reason src q) :=
  .ite .rfl (h.raise _ _) h

theorem refusalTold_frame (seat : Fin 72) (reason : Lockout) (src : ErrorSource) (p : Part) : ∃ a o e,
    refusalTold seat reason src p =
      { p with agent := a, egress := { p.egress with offer := o }, errors := e } := by
  unfold refusalTold
  split
  · obtain ⟨a, o, e, h, -⟩ := raise_frame .tableFull
      ⟨src.port, src.channel, src.address, some seat, []⟩ p
    exact ⟨a, o, e, h⟩
  · exact ⟨p.agent, p.egress.offer, p.errors, rfl⟩

theorem refusalTold_counter (seat : Fin 72) (reason : Lockout) (src : ErrorSource) (p : Part) :
    (look (refusalTold seat reason src p).errors.items ErrorKind.tableFull.index).counter =
      if reason = .tableFull then
        min 65535 ((look p.errors.items ErrorKind.tableFull.index).counter + 1)
      else (look p.errors.items ErrorKind.tableFull.index).counter := by
  unfold refusalTold
  split
  · exact raise_counter .tableFull _ p
  · rfl

/-- The part with a seat locked out for a reason and the refusal counted (R28). -/
def Part.refuse (p : Part) (seat : Fin 72) (reason : Lockout) : Part :=
  { p with
    seats := put p.seats seat { p.seat seat with lockout := some reason }
    refusals := p.refusals.count reason }

theorem refuseTouch_eq (seat : Fin 72) (reason : Lockout) (src : ErrorSource) (p : Part) :
    refuseTouch seat reason src p = refusalTold seat reason src (p.refuse seat reason) := by
  cases reason <;> rfl

/-- All that a refused contact sample changes (R26, R28, R64). -/
theorem contactSample_refused_eq {seat : Fin 72} {p : Part} {s : Sample} {reason : Lockout}
    (src : ErrorSource) (hopen : (p.seat seat).openEntry = none) (hlock : (p.seat seat).lockout = none)
    (he : evaluate p seat s = .error reason) :
    contactSample seat s src p =
      { p with
        conditioning := (abortWindow seat p).conditioning
        seats := put p.seats seat { p.seat seat with lockout := some reason }
        refusals := p.refusals.count reason
        errors := (refusalTold seat reason src p).errors
        agent := (refusalTold seat reason src p).agent
        egress := (refusalTold seat reason src p).egress } := by
  have halike : RaisesAlike ((abortWindow seat p).refuse seat reason) p := ⟨rfl, rfl, rfl, rfl, rfl, rfl⟩
  have htold := halike.refusalTold seat reason src
  obtain ⟨a, o, e, hframe⟩ := refusalTold_frame seat reason src ((abortWindow seat p).refuse seat reason)
  rw [contactSample_refused src hopen hlock he, refuseTouch_eq, ← htold.agent, ← htold.egress,
    ← htold.errors, hframe]
  rfl

/-- Settles O20: `contactSample_lockedOut`, and `contactSample_refused_eq` for each field of a refused sample. -/
theorem refusedSamplesDrawNothing : Obligations.RefusedSamplesDrawNothing := by
  intro p seat s src hopen set emptied
  refine ⟨fun reason hlock => contactSample_lockedOut s src hopen hlock, fun reason hlock he => ?_⟩
  rw [contactSample_refused_eq src hopen hlock he]
  refine ⟨?_, ?_, fun other hother => ?_, by cases reason <;> rfl, rfl, rfl, rfl, rfl, ?_, rfl, rfl, ?_⟩
  · simp [Part.seat]
  · simpa [Part.seat] using hopen
  · exact look_put_other _ _ hother
  · exact refusalTold_counter seat reason src p
  · intro hfull hmask hstatus hlog
    subst hfull
    exact raise_log _ hmask hstatus hlog

end Sys2Proof.Machine
end

section
/-! SUPPORT. The end of LOADING: which image is loaded, and what is reported of it (R36, R172, R188, R189). -/

namespace Sys2Proof.Machine

/-! ### The stored image (R188, R189) -/

theorem validImage_sealed {img : StoreImage} (h : img.inRange = true) :
    Store.validImage ⟨some img, some (crc img.bytes)⟩ = some img :=
  if_pos ⟨rfl, h⟩

/-- An image that is blank, whose code does not match, or with a field out of range is not loaded. -/
theorem validImage_eq_none {t : Store} (h : t.fields = none ∨ t.code = none ∨
    ∃ img code, t = ⟨some img, some code⟩ ∧ (code ≠ crc img.bytes ∨ img.inRange = false)) :
    t.validImage = none := by
  obtain ⟨fields, code⟩ := t
  rcases h with rfl | rfl | ⟨img, c, heq, h⟩
  · rfl
  · cases fields <;> rfl
  · cases heq
    refine if_neg fun ⟨hcode, hrange⟩ => ?_
    rcases h with h | h
    · exact h hcode
    · exact Bool.noConfusion (h.symm.trans hrange)

theorem factoryImage_set (i : Fin 16) :
    look factoryImage.sets i = ⟨0, 0, 16384, 16384, 0, 4, false⟩ := look_fill ..

theorem factoryImage_width (t : Tool) (i : Fin 16) :
    look (look factoryImage.widths (toolIndex t)) i = Config.factoryWidth t i.val := by
  have h : look factoryImage.widths (toolIndex t) = factoryWidths t := by cases t <;> rfl
  rw [h, factoryWidths, look_ofFn]

/-! ### The end of LOADING (R36, R172, R188) -/

/-- In READY a notice joins while the reply queue has room and no slot is held (R171). -/
theorem notice_joins {p : Part} (n : Notice) (h : p.phase = .ready) (hr : p.agent.replies.length < 8)
    (hh : p.agent.replyHeld = false) : notice n p = joinReply (.notice n) p := by
  have hlimit : p.noticeLimit = 8 := by
    simp [Part.noticeLimit, Part.gateLimit, isLoading_of_ready h, hh, Config.replyCapacity]
  rw [notice_eq, hlimit, if_pos hr]

/-- The part made READY with an image's tables and its frame deadline armed, before anything is reported. -/
def Part.loaded (p : Part) (img : StoreImage) : Part :=
  { p with
    phase := .ready
    conditioning := p.conditioning.load img
    monitor := { p.monitor with deadline := some ⟨p.tick, p.timing.frameTimeout⟩ } }

section
variable {p : Part} {cause : HardCause} (hr : p.agent.replies.length < 8)
  (hh : p.agent.replyHeld = false)
include hr hh

theorem finishLoad_valid {img : StoreImage} (h : p.store.validImage = some img) : finishLoad cause p =
    joinReply (.notice (.restarted (HardCause.restart cause) .valid)) (p.loaded img) := by
  rw [← notice_joins (p := p.loaded img) _ rfl hr hh]
  simp only [finishLoad, h]
  rfl

theorem finishLoad_invalid (h : p.store.validImage = none) : finishLoad cause p =
    raise .storeFault noSource
      (joinReply (.notice (.restarted (HardCause.restart cause) .invalid)) (p.loaded factoryImage)) := by
  rw [← notice_joins (p := p.loaded factoryImage) _ rfl hr hh]
  simp only [finishLoad, h]
  rfl

end

theorem exec_loadComplete {p : Part} {cause : HardCause} (h : p.phase = .loading cause)
    (rest : List Instr) :
    exec .loadComplete ⟨p, rest⟩ = .next ⟨settle (finishLoad cause p), rest⟩ := by
  have hn : p.inReset = false := by simp [Part.inReset, h]
  have hl : loadComplete p = finishLoad cause p := by simp only [loadComplete, h]
  rw [← hl]
  exact event_next rest hn

/-- A reply or notice that joins and an error raised after it, with the departures that follow: the frame stands in
the reply queue, the error's status is set, and the blocks that a load sets stand. -/
theorem settle_raise_joinReply {k : ErrorKind} {src : ErrorSource} {f : ReplyFrame} {p q : Part}
    (hq : q = settle (raise k src (joinReply f p))) :
    q.conditioning = p.conditioning ∧ StrokeStep p q ∧
      (look q.errors.items k.index).status = true ∧
      (⟨f, p.agent.replySeq, p.tick⟩ : ReplyItem) ∈ q.agent.replies := by
  subst hq
  have hsettle := settle_settleStep (raise k src (joinReply f p))
  have hraise := raise_inkStep k src (joinReply f p)
  obtain ⟨o, hjoin⟩ := joinReply_eq f p
  refine ⟨?_, (joinReply_strokeStep f p).trans (hraise.strokeStep.trans hsettle.strokeStep),
    hsettle.grows.status _ (raise_status k src _),
    ((raise_grows k src _).trans hsettle.grows).replies.subset ?_⟩
  · rw [hsettle.fixed, hraise.fixed, hjoin]
  · rw [hjoin]
    exact List.mem_append_right _ (List.mem_singleton_self _)

/-- Settles O6: the two outcomes of `finishLoad`, and what the report of the fault leaves of the load. -/
theorem loadCompleteLoadsTheImageOrFactory : Obligations.LoadCompleteLoadsTheImageOrFactory := by
  intro p rest cause h hr hh
  refine ⟨fun img hs hi => ?_, fun hs => ?_⟩
  · rw [exec_loadComplete h, finishLoad_valid hr hh (hs ▸ validImage_sealed hi)]
    rfl
  · obtain ⟨q, hq⟩ : ∃ q, q = settle (raise .storeFault noSource
        (joinReply (.notice (.restarted (HardCause.restart cause) .invalid)) (p.loaded factoryImage))) :=
      ⟨_, rfl⟩
    obtain ⟨hcond, hstep, hstatus, hreply⟩ := settle_raise_joinReply hq
    have hwidth : ∀ (t : Tool) (i : Fin 16), look (q.widthTable t) i = Config.factoryWidth t i.val := by
      intro t i
      rw [Part.widthTable, hcond]
      exact factoryImage_width t i
    have hexec : exec .loadComplete ⟨p, rest⟩ = .next ⟨q, rest⟩ := by
      rw [exec_loadComplete h, finishLoad_invalid hr hh (validImage_eq_none hs), hq]
    refine ⟨q, hexec, hstep.phase, hstep.tick, fun i => ?_,
      fun i => ⟨hwidth .pen i, hwidth .marker i, hwidth .eraser i, hwidth .finger i⟩,
      congrArg Monitor.deadline hstep.monitor, hstatus, hreply, ?_⟩
    · rw [Part.calibrationSet, hcond]
      show look (factoryImage.sets.map freshSet) i = _
      rw [look_map, factoryImage_set]
      rfl
    · rw [hcond]
      exact hq

end Sys2Proof.Machine
end

section
/-! SUPPORT. Frames dropped on the display link in READY (R37, R145, R147). -/

namespace Sys2Proof.Machine

theorem takeDisplayFrame_failing {frame : List Byte} {p : Part} (hl : p.isLoading = false)
    (hc : codeMatches frame = false) :
    takeDisplayFrame frame p = raise .linkCheck ⟨some .display, none, none, none, frame.take 8⟩ p := by
  simp only [takeDisplayFrame, hc, hl, Bool.false_eq_true, if_false]
  rfl

theorem takeDisplayFrame_unknown {frame : List Byte} {p : Part} (hl : p.isLoading = false)
    (hc : codeMatches frame = true) (hd : displayForm frame = .other) :
    takeDisplayFrame frame p = raise .malformedFrame ⟨some .display, none, none, none, frame.take 8⟩ p := by
  simp only [takeDisplayFrame, hc, hd, hl, Bool.false_eq_true, if_true, if_false]
  rfl

/-- Settles O18, by the frame's check code and form. -/
theorem displayFramesAreDroppedAndRaised : Obligations.DisplayFramesAreDroppedAndRaised := by
  intro p rest h
  have hl : p.isLoading = false := isLoading_of_ready h
  have hexec : ∀ frame, event (takeDisplayFrame frame) ⟨p, rest⟩ =
      .next ⟨settle (takeDisplayFrame frame p), rest⟩ := fun _ => event_next rest (inReset_of_ready h)
  have hfails : ∀ (bytes : List Byte) (code : Half), code ≠ crc bytes →
      codeMatches (bytes ++ be16 code) = false := fun _ _ hne =>
    Bool.eq_false_iff.2 fun hc => hne (codeMatches_append_be16.1 hc)
  refine ⟨fun number code hne => ?_, fun count code hne => ?_, fun frame hw => ?_⟩
  · refine (hexec ([0x21, number] ++ be16 code)).trans ?_
    rw [takeDisplayFrame_failing hl (hfails _ _ hne)]
    rfl
  · refine (hexec ([0x22, count] ++ be16 code)).trans ?_
    rw [takeDisplayFrame_failing hl (hfails _ _ hne)]
    rfl
  · refine (hexec frame).trans ?_
    cases hc : codeMatches frame with
    | false => rw [takeDisplayFrame_failing hl hc]; rfl
    | true =>
      have hd : displayForm frame = .other := displayForm_other (by simpa [Instr.wellFormed] using hw)
      rw [takeDisplayFrame_unknown hl hc hd]
      rfl

end Sys2Proof.Machine
end

section
/-! SUPPORT. Requests taken: the staged commit (R41, R45, R46), the reads that clear or mark as read what they report
(R49, R113, R144, R159, R160), and the settings (R34, R71, R117, R143, R154). -/

namespace Sys2Proof.Machine

/-! ### The reply to a request taken (R168, R169) -/

/-- A request taken: what its owner leaves, apart from the slot held for the reply, and the reply with the body. -/
theorem exec_taken {c : Instr} {req : Requester} {r : Request} {p q : Part} {body : ReplyBody}
    (h : p.takes) (hc : c.request? = some (req, r))
    (ho : ownerOf r (p.holdReply true) = taken body (q.holdReply true)) (rest : List Instr) :
    exec c ⟨p, rest⟩ = .next ⟨answered req r.code .ok body q, rest⟩ :=
  exec_answered (q := q.holdReply true) h hc ho rest

/-! ### The staged commit (R41, R45, R46) -/

/-- Settles O40: each owner's answer with no commit pending; CANCEL_COMMIT has one answer. -/
theorem commitRequestsControlStaging : Obligations.CommitRequestsControlStaging := by
  intro req p rest h
  refine ⟨fun k hk hp => ?_, exec_taken (r := .cancelCommit) h rfl rfl rest, fun hp => ?_⟩
  · have hpend : ¬ ((p.holdReply true).staging.pending = true) := by simp [hp]
    have hbyte : (byteOf k).toNat = k := toNat_byteOf (by omega)
    refine exec_taken (r := .commit (byteOf k)) h rfl ?_ rest
    show ownCommit _ _ = _
    rw [ownCommit, if_neg hpend, hbyte, if_pos hk]
    rfl
  · refine exec_taken (r := .discardStaged) h rfl ?_ rest
    exact if_neg (by simp [hp])

/-! ### The reads that clear what they report (R49, R113, R144, R160) -/

theorem ownReadMonitor_flag (clear : Bool) (p : Part) : ownReadMonitor (flagByte clear) p =
    taken (.monitor p.monitorReport)
      { p with monitor := if clear then p.monitor.clear else p.monitor } := by
  rw [ownReadMonitor, flagOf_flagByte]
  cases clear <;> rfl

/-- An ink queue as a READ_QUEUES leaves it (R144). -/
def InkQueue.afterRead (clear : Bool) (q : InkQueue) : InkQueue := if clear then q.clearCounters else q

theorem ownReadQueues_flag (clear : Bool) (p : Part) : ownReadQueues (flagByte clear) p =
    taken (.queues p.queuesReport)
      { p with
        queues := ⟨p.queues.display.afterRead clear, p.queues.fanout.afterRead clear,
          p.queues.record.afterRead clear, p.queues.held⟩ } := by
  rw [ownReadQueues, flagOf_flagByte]
  cases clear <;> rfl

/-- The seats a READ_COUNTERS names: `count` from `first` on, ascending (R113). -/
theorem countersOf_sent (clear : Bool) {first count : Nat} (hf : first ≤ 71) (hc : count ≤ 8)
    (hs : first + count ≤ 72) :
    countersOf? (flagByte clear) (byteOf first) (byteOf count) =
      some (clear, (indexes 72).filter fun s => decide (first ≤ s.val ∧ s.val < first + count)) := by
  have hfirst : (byteOf first).toNat = first := toNat_byteOf (by omega)
  have hcount : (byteOf count).toNat = count := toNat_byteOf (by omega)
  rw [countersOf?, flagOf_flagByte, hfirst, hcount]
  exact if_pos ⟨hf, hc, hs⟩

theorem ownReadCounters_listed {clear : Bool} {flag first count : Byte} {seats : List (Fin 72)}
    (h : countersOf? flag first count = some (clear, seats)) (p : Part) :
    ownReadCounters flag first count p =
      taken (.counters (p.countersReport seats)) (if clear then p.clearCounters seats else p) := by
  rw [ownReadCounters, h]
  cases clear <;> rfl

/-- Of the seats, those listed lose their counts (R113). -/
theorem clearCounters_filter (p : Part) (listed : Fin 72 → Bool) :
    p.clearCounters ((indexes 72).filter listed) =
      { p.clearCounters [] with
        seats := Vector.ofFn fun s =>
          if listed s then { p.seat s with accepted := 0, missing := 0 } else p.seat s } := by
  have hmem : ∀ s, s ∈ (indexes 72).filter listed ↔ listed s = true := fun s => by
    rw [List.mem_filter, and_iff_right (mem_indexes s)]
  simp only [Part.clearCounters, hmem]

/-- Settles O42: each report is built before the clearing, and a READ_HISTORY takes the oldest unread. -/
theorem readsClearWhatTheyReport : Obligations.ReadsClearWhatTheyReport := by
  intro req p rest h
  refine ⟨fun clear => ?_, fun clear => ?_, fun clear first count hf hc hs => ?_, fun n h1 h8 => ?_⟩
  · refine exec_taken (r := .readMonitor _) h rfl ?_ rest
    exact ownReadMonitor_flag clear _
  · refine exec_taken (r := .readQueues _) h rfl ?_ rest
    exact ownReadQueues_flag clear _
  · refine exec_taken (r := .readCounters _ _ _) h rfl ?_ rest
    refine (ownReadCounters_listed (countersOf_sent clear hf hc hs) _).trans ?_
    cases clear with
    | false => rfl
    | true => rw [if_pos rfl, clearCounters_filter]; rfl
  · have hbyte : (byteOf n).toNat = n := toNat_byteOf (by omega)
    refine exec_taken (r := .readHistory _) h rfl ?_ rest
    show ownReadHistory _ _ = _
    rw [ownReadHistory, hbyte]
    exact if_pos ⟨h1, h8⟩

/-! ### The settings (R34, R71, R117, R143, R154) -/

theorem modeOf_sent (layer : Byte) {m : LayerMode} (hs : m.smoothing ≤ 3) (hd : m.decimation ≤ 15)
    (hc : m.chop = 4 ∨ m.chop = 8) :
    modeOf? ⟨layer, byteOf m.smoothing, byteOf m.decimation, byteOf m.chop, m.order.code, m.dests.code⟩ =
      some m := by
  have hsmooth : (byteOf m.smoothing).toNat = m.smoothing := toNat_byteOf (by omega)
  have hdecim : (byteOf m.decimation).toNat = m.decimation := toNat_byteOf (by omega)
  have hchop : (byteOf m.chop).toNat = m.chop := toNat_byteOf (by omega)
  simp only [modeOf?, PointOrder.of_code, DestSet.of_code, Option.bind_eq_bind, Option.bind_some, hsmooth,
    hdecim, hchop]
  exact if_pos ⟨hs, hd, hc⟩

theorem queueOf_sent {d : Dest} {watermark : Half} (policy : Policy) (h1 : 1 ≤ watermark.toNat)
    (hc : watermark.toNat ≤ Config.capacity d) :
    queueOf? d.code watermark policy.code = some (d, watermark.toNat, policy) := by
  simp only [queueOf?, Dest.of_code, Policy.of_code, Option.bind_eq_bind, Option.bind_some]
  exact if_pos ⟨h1, hc⟩

/-- The room egress choice does not look at the slot held for a reply. -/
theorem roomChoose_holdReply (p : Part) (b : Bool) :
    roomChoose (p.holdReply b) = (roomChoose p).holdReply b :=
  (apply_ite (fun q : Part => q.holdReply b) (p.egress.offer = .none ∧ p.egress.bridgeReady = true)
    (p.setOffer p.choice) p).symm

/-- Settles O43: each setting in range is read back as sent and taken. -/
theorem settingsTakeTheValuesSent : Obligations.SettingsTakeTheValuesSent := by
  intro req p rest h
  refine ⟨?_, ?_, ?_, ?_, ?_⟩
  · intro idle frame hi1 hi2 hf1 hf2
    have hin : timingOf? idle frame = some ⟨idle.toNat, frame.toNat⟩ := if_pos ⟨hi1, hi2, hf1, hf2⟩
    refine exec_taken (r := .setTiming _ _) h rfl ?_ rest
    show ownSetTiming _ _ _ = _
    rw [ownSetTiming, hin]
    rfl
  · intro width height hw1 hw2 hh1 hh2 hlayers hentries
    have hin : canvasOf? width height = some (width.toNat, height.toNat) :=
      if_pos ⟨hw1, hw2, hh1, hh2⟩
    have hfree : (p.holdReply true).canvasFree = true := (canvasFree_iff _).2 ⟨hlayers, hentries⟩
    refine exec_taken (r := .setCanvas _ _) h rfl ?_ rest
    show ownSetCanvas _ _ _ = _
    rw [ownSetCanvas, if_neg (by simp [hfree]), hin]
    rfl
  · intro l m hs hd hc hclosed
    refine exec_taken (r := .setLayerMode _) h rfl ?_ rest
    show ownSetLayerMode _ _ = _
    rw [ownSetLayerMode, modeOf_sent _ hs hd hc]
    simp only [finOf_byteOf_8]
    exact if_neg (not_not.2 hclosed)
  · intro d watermark policy h1 hc
    refine exec_taken (r := .setQueue _ _ _) h rfl ?_ rest
    show ownSetQueue _ _ _ _ = _
    rw [ownSetQueue, queueOf_sent policy h1 hc]
    rfl
  · intro mode
    refine exec_taken (r := .setRoomPriority _) h rfl ?_ rest
    show ownSetRoomPriority _ _ = _
    rw [ownSetRoomPriority, Priority.of_code]
    exact congrArg (taken _)
      (roomChoose_holdReply { p with egress := { p.egress with priority := mode } } true)

end Sys2Proof.Machine
end

section
/-! SUPPORT. The conditioning arithmetic (chapter 4): the coordinate transform and its clamp (R54 to R56), the
interpolated width (R57 to R59), and the hover baseline estimator (R61 to R63). -/

namespace Sys2Proof.Machine

/-! ### The coordinate transform (R55) -/

/-- The scaled coordinate is the floor of the exact quotient. -/
theorem scale_eq_floor (raw : Nat) (offset : Int) (gain : Nat) :
    scale raw offset gain =
      ⌊((((raw : Int) - offset : Int) : ℚ) * (gain : ℚ) + 8192) / 16384⌋ := by
  have h := Rat.floor_intCast_div_natCast (((raw : Int) - offset) * (gain : Int) + 8192) 16384
  push_cast at h ⊢
  exact h.symm

/-- The range of a scaled coordinate: the extremes of the product are those of dx at the largest gain. -/
theorem scale_bounds {raw gain : Nat} {offset : Int} (hlow : -32767 ≤ (raw : Int) - offset)
    (hhigh : (raw : Int) - offset ≤ 98303) (hg : gain ≤ 65535) :
    -131066 ≤ scale raw offset gain ∧ scale raw offset gain ≤ 393206 := by
  unfold scale
  generalize (raw : Int) - offset = dx at hlow hhigh
  have hgain : (0 : Int) ≤ gain := Int.natCast_nonneg gain
  have hupper : dx * gain ≤ 98303 * gain := mul_le_mul_of_nonneg_right hhigh hgain
  have hlower : -32767 * gain ≤ dx * gain := mul_le_mul_of_nonneg_right hlow hgain
  omega

theorem scale_gain_zero (raw : Nat) (offset : Int) : scale raw offset 0 = 0 := by simp [scale]

/-! ### The clamp (R56) -/

/-- The clamped coordinate: the translated value, lo below lo and hi above hi. -/
theorem clampAxis_fst {b : AxisBounds} (h : b.lo ≤ b.hi) (v : Int) :
    ((clampAxis b v).1 : Int) = min (max ((b.origin : Int) + v) b.lo) b.hi := by
  simp only [clampAxis]
  split
  · omega
  · split <;> omega

/-- A clamp is reported exactly when it changes the translated value. -/
theorem clampAxis_snd (b : AxisBounds) (v : Int) :
    (clampAxis b v).2 = false ↔ ((clampAxis b v).1 : Int) = b.origin + v := by
  simp only [clampAxis]
  split
  · simp only [Bool.true_eq_false, false_iff]
    omega
  · split
    · simp only [Bool.true_eq_false, false_iff]
      omega
    · simp only [true_iff]
      omega

theorem clampAxis_mem {b : AxisBounds} (h : b.lo ≤ b.hi) (v : Int) :
    b.lo ≤ (clampAxis b v).1 ∧ (clampAxis b v).1 ≤ b.hi := by
  have := clampAxis_fst h v
  omega

/-- Settles O26: the quotient by `scale_eq_floor`, of which the other forms are rearrangements, and the range by
`scale_bounds`. -/
theorem scalingRoundsToNearest : Obligations.ScalingRoundsToNearest := by
  intro raw offset gain hraw hlow hhigh hgain dx
  have hdx : dx ≤ 98303 ∧ -32767 ≤ dx := by
    constructor <;> simp only [dx] <;> omega
  have hfloor : scale raw offset gain = ⌊((dx : ℚ) * (gain : ℚ) + 8192) / 16384⌋ :=
    scale_eq_floor raw offset gain
  obtain ⟨hmin, hmax⟩ := scale_bounds hdx.2 hdx.1 hgain
  refine ⟨hdx.1, hdx.2, hfloor, ?_, hmin, hmax, ?_, ?_, ?_⟩
  · rw [hfloor]
    congr 1
    ring
  · rintro rfl
    show (dx * 16384 + 8192) / 16384 = dx
    omega
  · rintro rfl
    rw [hfloor]
    congr 1
    push_cast
    ring
  · rintro rfl
    rw [scale_gain_zero]
    refine ⟨rfl, fun b hb => ?_⟩
    have := clampAxis_fst hb 0
    omega

/-! ### The window snapshot (R54) -/

theorem boardBounds_within {extent : Nat} (h : 1 ≤ extent) : (boardBounds extent).within extent := by
  simp only [boardBounds, AxisBounds.within]
  omega

theorem roomBounds_within (base exponent : Nat) {extent : Nat} (h : 1 ≤ extent) :
    (roomBounds base exponent extent).within extent := by
  simp only [roomBounds, AxisBounds.within]
  omega

/-- A board seat, and a room seat without a window, has the whole canvas (R54, log entry 26). -/
theorem windowBounds_whole {seat : Fin 72} {w : Option Window} (h : 64 ≤ seat.val ∨ w = none)
    (width height : Nat) :
    windowBounds seat w width height = (boardBounds width, boardBounds height) := by
  unfold windowBounds
  split
  · next hr =>
    rcases h with h | h
    · exact absurd (of_decide_eq_true hr) (by omega)
    · cases h
  · rfl

/-- A room seat has the bounds of its stored window (R54). -/
theorem windowBounds_room {seat : Fin 72} (h : seat.val < 64) (r : Window) (width height : Nat) :
    windowBounds seat (some r) width height =
      (roomBounds r.baseX r.exponentX width, roomBounds r.baseY r.exponentY height) := by
  have hr : isRoomSeat seat = true := decide_eq_true h
  simp only [windowBounds, hr]

/-- Every window snapshot lies in order on the canvas in force (R54). -/
theorem windowBounds_within (seat : Fin 72) (w : Option Window) {width height : Nat} (hw : 1 ≤ width)
    (hh : 1 ≤ height) :
    (windowBounds seat w width height).1.within width ∧
      (windowBounds seat w width height).2.within height := by
  unfold windowBounds
  split
  · exact ⟨roomBounds_within _ _ hw, roomBounds_within _ _ hh⟩
  · exact ⟨boardBounds_within hw, boardBounds_within hh⟩

/-- A conditioned point lies inside the bounds it is conditioned with (R56). -/
theorem condition_mem {bx bY : AxisBounds} (hx : bx.lo ≤ bx.hi) (hy : bY.lo ≤ bY.hi)
    (cal : CalibrationSnapshot) (table : Vector Nat 16) (s : Sample) :
    bx.lo ≤ (condition cal bx bY table s).1.x ∧ (condition cal bx bY table s).1.x ≤ bx.hi ∧
      bY.lo ≤ (condition cal bx bY table s).1.y ∧ (condition cal bx bY table s).1.y ≤ bY.hi :=
  and_assoc.1 ⟨clampAxis_mem hx _, clampAxis_mem hy _⟩

/-- Settles O27: R54's table by `windowBounds_whole` and `windowBounds_room`, each axis by the laws of the
clamp. -/
theorem conditionedPointsStayInTheWindow : Obligations.ConditionedPointsStayInTheWindow := by
  intro seat w width height cal table s hw hh b q
  obtain ⟨⟨hx, hxw⟩, hy, hyh⟩ :=
    windowBounds_within seat w (le_trans (by omega) hw) (le_trans (by omega) hh)
  obtain ⟨hx1, hx2, hy1, hy2⟩ := condition_mem hx hy cal table s
  refine ⟨fun h => windowBounds_whole h width height, ?_, clampAxis_fst hx _, clampAxis_fst hy _, rfl,
    hx1, hx2, hxw, hy1, hy2, hyh, ?_⟩
  · rintro r hroom rfl
    exact windowBounds_room hroom r width height
  · exact Bool.or_eq_false_iff.trans (and_congr (clampAxis_snd b.1 _) (clampAxis_snd b.2 _))

/-! ### The width (R58, R59) -/

/-- The width between two entries: the lower entry plus the floored rise. -/
theorem widthOf_between (table : Vector Nat 16) {i j : Fin 16} {f : Nat} (hf : f < 256)
    (hj : j.val = i.val + 1) :
    widthOf table (256 * i.val + f) =
      (((look table i : Nat) : Int) +
        ((((look table j : Nat) : Int) - (look table i : Nat)) * f + 128) / 256).toNat := by
  have hi : (256 * i.val + f) / 256 = i.val := by omega
  have hr : (256 * i.val + f) % 256 = f := by omega
  have hlt : i.val < 15 := by omega
  have hnext : (⟨i.val + 1, by omega⟩ : Fin 16) = j := Fin.ext hj.symm
  simp only [widthOf, hi, hr, hlt, dif_pos, hnext]

theorem widthOf_last (table : Vector Nat 16) {p : Nat} (h : 3840 ≤ p) :
    widthOf table p = look table 15 :=
  dif_neg (by omega)

/-- The floored rise lies between 0 and the whole rise, for a rising and for a falling step. -/
theorem rise_between (rise : Int) {f : Nat} (hf : f < 256) :
    min 0 rise ≤ (rise * f + 128) / 256 ∧ (rise * f + 128) / 256 ≤ max 0 rise := by
  have hf0 : (0 : Int) ≤ f := Int.natCast_nonneg f
  have hf1 : (f : Int) ≤ 255 := by omega
  rcases le_total 0 rise with h | h
  · have h0 : 0 ≤ rise * f := mul_nonneg h hf0
    have h1 : rise * f ≤ rise * 255 := mul_le_mul_of_nonneg_left hf1 h
    omega
  · have h0 : rise * f ≤ 0 := mul_nonpos_of_nonpos_of_nonneg h hf0
    have h1 : rise * 255 ≤ rise * f := mul_le_mul_of_nonpos_left hf1 h
    omega

/-- The width between two entries lies between them. -/
theorem widthOf_mem (table : Vector Nat 16) {i j : Fin 16} {f : Nat} (hf : f < 256)
    (hj : j.val = i.val + 1) :
    min (look table i) (look table j) ≤ widthOf table (256 * i.val + f) ∧
      widthOf table (256 * i.val + f) ≤ max (look table i) (look table j) := by
  rw [widthOf_between table hf hj]
  have := rise_between (((look table j : Nat) : Int) - (look table i : Nat)) hf
  omega

/-- The width at an entry's own pressure is the entry. -/
theorem widthOf_entry (table : Vector Nat 16) {i j : Fin 16} (hj : j.val = i.val + 1) :
    widthOf table (256 * i.val) = look table i := by
  have := widthOf_between table (f := 0) (by omega) hj
  simpa using this

/-- Bounds of all entries bound the width at every pressure. -/
theorem widthOf_bounds {table : Vector Nat 16} {low high : Nat}
    (h : ∀ i, low ≤ look table i ∧ look table i ≤ high) (p : Nat) :
    low ≤ widthOf table p ∧ widthOf table p ≤ high := by
  by_cases hp : 3840 ≤ p
  · rw [widthOf_last table hp]
    exact h 15
  · have hi : p / 256 < 15 := by omega
    have hm := widthOf_mem table (i := ⟨p / 256, by omega⟩) (j := ⟨p / 256 + 1, by omega⟩)
      (Nat.mod_lt p (by omega : 0 < 256)) rfl
    simp only [Nat.div_add_mod] at hm
    obtain ⟨h1, h2⟩ := h ⟨p / 256, by omega⟩
    obtain ⟨h3, h4⟩ := h ⟨p / 256 + 1, by omega⟩
    exact ⟨(le_min h1 h3).trans hm.1, hm.2.trans (max_le h2 h4)⟩

/-- Settles O28: `widthOf_between` and `widthOf_mem` below p = 3840, `widthOf_last` from there on. -/
theorem widthIsInterpolatedBetweenEntries : Obligations.WidthIsInterpolatedBetweenEntries := by
  intro table raw baseline hraw p
  have hfirst : widthOf table 0 = look table 0 := widthOf_entry table (i := 0) (j := 1) rfl
  refine ⟨fun h => ?_, Nat.sub_add_cancel, (Nat.sub_le raw baseline).trans hraw,
    fun h => widthOf_bounds h p, widthOf_last table, fun i j f hf hp hj => ?_⟩
  · have hp : p = 0 := Nat.sub_eq_zero_of_le h
    rw [hp]
    exact ⟨rfl, hfirst⟩
  · rw [hp]
    have hmem := widthOf_mem table hf hj
    refine ⟨?_, hmem.1, hmem.2, ?_⟩
    · have hrise := rise_between (((look table j : Nat) : Int) - (look table i : Nat)) hf
      have hfloor := Rat.floor_intCast_div_natCast
        ((((look table j : Nat) : Int) - (look table i : Nat)) * f + 128) 256
      push_cast at hfloor
      rw [hfloor, widthOf_between table hf hj]
      omega
    · rintro rfl
      exact widthOf_entry table hj

/-! ### The hover baseline estimator (R61 to R63) -/

/-- A hover sample that does not fill the window is counted. -/
theorem hover_counts {c : CalibrationSet} (h : c.count + 1 < c.stored.window) (pressure : Nat) :
    c.hover pressure = { c with sum := c.sum + pressure, count := c.count + 1 } :=
  if_neg (Nat.not_le.2 h)

/-- A hover sample that fills the window completes it. -/
theorem hover_completes {c : CalibrationSet} (h : c.count + 1 = c.stored.window) (pressure : Nat) :
    c.hover pressure =
      CalibrationSet.complete { c with sum := c.sum + pressure, count := c.count + 1 } :=
  if_pos h.symm.le

/-- A run that does not fill the window changes the sum and the count alone (R62). -/
theorem foldl_hover (pressures : List Nat) (c : CalibrationSet)
    (h : c.count + pressures.length < c.stored.window) :
    pressures.foldl CalibrationSet.hover c =
      { c with sum := c.sum + pressures.sum, count := c.count + pressures.length } := by
  induction pressures generalizing c with
  | nil => rfl
  | cons v t ih =>
    rw [List.length_cons] at h
    rw [List.foldl_cons, hover_counts (by omega), ih _ (by simp only; omega)]
    simp only [List.sum_cons, List.length_cons, Nat.add_assoc, Nat.add_comm t.length 1]

/-- Settles O31: a shorter run by `foldl_hover`; a full one is a shorter run and the sample that completes the
window. -/
theorem hoverWindowFormsTheEstimate : Obligations.HoverWindowFormsTheEstimate := by
  intro c pressures hsum hcount
  refine ⟨fun h => ?_, fun h => ?_⟩
  · rw [foldl_hover pressures c (by rw [hcount, Nat.zero_add]; exact h), hsum, hcount, Nat.zero_add,
      Nat.zero_add]
  · have hne : pressures ≠ [] := by
      rintro rfl
      have := Nat.two_pow_pos c.stored.exponent
      rw [List.length_nil] at h
      omega
    obtain ⟨shorter, last, rfl⟩ := (List.eq_nil_or_concat' pressures).resolve_left hne
    rw [List.length_append, List.length_singleton] at h
    have hrun := foldl_hover shorter c (by rw [hcount, StoredSet.window]; omega)
    rw [List.foldl_append, hrun, List.foldl_cons, List.foldl_nil,
      hover_completes (by rw [hcount, Nat.zero_add]; exact h)]
    simp only [CalibrationSet.complete, hsum, hcount, Nat.zero_add, List.sum_append, List.sum_singleton,
      List.length_append, List.length_singleton]

end Sys2Proof.Machine
end

section
/-! SUPPORT. A contact sample of an OPEN stroke (R75 to R80): the windows and averages, the candidate decimated and
compared, and what the sample makes of the part. -/

namespace Sys2Proof.Machine

/-! ### Windows and averages (R73, R76) -/

/-- An average over a window lies between bounds of its values. -/
theorem averageOf_mem {l : List Nat} {low high : Nat} (hne : l ≠ [])
    (h : ∀ v ∈ l, low ≤ v ∧ v ≤ high) : low ≤ averageOf l ∧ averageOf l ≤ high := by
  have hpos : 0 < l.length := List.length_pos_iff.2 hne
  have hlow : l.length * low ≤ l.sum := by
    simpa using List.card_nsmul_le_sum l low fun v hv => (h v hv).1
  have hhigh : l.sum ≤ l.length * high := by
    simpa using List.sum_le_card_nsmul l high fun v hv => (h v hv).2
  unfold averageOf
  constructor
  · rw [Nat.le_div_iff_mul_le hpos, Nat.mul_comm]
    omega
  · rw [← Nat.lt_succ_iff, Nat.div_lt_iff_lt_mul hpos, Nat.succ_mul, Nat.mul_comm]
    omega

theorem length_enterWindow (n : Nat) (w : List XY) (q : XY) :
    (enterWindow n w q).length = min (w.length + 1) n := by
  simp only [enterWindow, List.length_drop, List.length_append, List.length_singleton]
  omega

/-- A window's points are those it held and the one that entered. -/
theorem mem_enterWindow {n : Nat} {w : List XY} {q r : XY} (h : r ∈ enterWindow n w q) :
    r ∈ w ∨ r = q := by
  have := List.mem_of_mem_drop h
  simpa using this

/-! ### The candidate (R78, R79) -/

/-- The assembly state of a stroke that has smoothed a conditioned point, its candidate apart (R76, R77). -/
def Assembly.smoothed (a : Assembly) (q : Point) : Assembly :=
  { a with lastContact := q, stage1 := (smooth a q).1, stage2 := (smooth a q).2.1 }

/-- The candidate of a conditioned point: its smoothed position and its width (R77, R78). -/
def Assembly.candidate (a : Assembly) (q : Point) : Point :=
  ⟨(smooth a q).2.2.x, (smooth a q).2.2.y, q.width⟩

/-- Below the decimation only the counter steps. -/
theorem takePoint_skips {q : Point} {c : StrokeCore} {a : Assembly} (h : a.counter + 1 ≤ a.decimation) :
    takePoint q c a = (c, { a.smoothed q with counter := a.counter + 1 }) :=
  if_neg (Nat.not_lt.2 h)

/-- At the decimation the candidate is compared with the last emitted point. -/
theorem takePoint_compares {q : Point} {c : StrokeCore} {a : Assembly} (h : a.decimation < a.counter + 1) :
    takePoint q c a = appendCandidate (a.candidate q) c { a.smoothed q with counter := 0 } :=
  if_pos h

theorem appendCandidate_same {q : Point} {c : StrokeCore} {a : Assembly}
    (h : q.x = a.lastEmitted.x ∧ q.y = a.lastEmitted.y) : appendCandidate q c a = (c, a) := if_pos h

theorem appendCandidate_new {q : Point} {c : StrokeCore} {a : Assembly}
    (h : ¬ (q.x = a.lastEmitted.x ∧ q.y = a.lastEmitted.y)) :
    appendCandidate q c a = ({ c with count := bump c.count, box := c.box.grow q },
      { a with lastEmitted := q, pending := a.pending ++ [q] }) := if_neg h

/-- The three outcomes of a conditioned point for an OPEN stroke: below the decimation, set aside, appended. -/
theorem takePoint_cases (q : Point) (c : StrokeCore) (a : Assembly) :
    (a.counter + 1 ≤ a.decimation ∧
      takePoint q c a = (c, { a.smoothed q with counter := a.counter + 1 })) ∨
    (a.decimation < a.counter + 1 ∧
      ((a.candidate q).x = a.lastEmitted.x ∧ (a.candidate q).y = a.lastEmitted.y) ∧
      takePoint q c a = (c, { a.smoothed q with counter := 0 })) ∨
    (a.decimation < a.counter + 1 ∧
      ¬ ((a.candidate q).x = a.lastEmitted.x ∧ (a.candidate q).y = a.lastEmitted.y) ∧
      takePoint q c a =
        ({ c with count := bump c.count, box := c.box.grow (a.candidate q) },
          { a.smoothed q with
            counter := 0
            lastEmitted := a.candidate q
            pending := a.pending ++ [a.candidate q] })) := by
  by_cases hd : a.counter + 1 ≤ a.decimation
  · exact .inl ⟨hd, takePoint_skips hd⟩
  · have hd : a.decimation < a.counter + 1 := Nat.not_le.1 hd
    by_cases hs : (a.candidate q).x = a.lastEmitted.x ∧ (a.candidate q).y = a.lastEmitted.y
    · exact .inr (.inl ⟨hd, hs, (takePoint_compares hd).trans (appendCandidate_same hs)⟩)
    · exact .inr (.inr ⟨hd, hs, (takePoint_compares hd).trans (appendCandidate_new hs)⟩)

/-- The snapshots and the filter parameters stand. -/
theorem takePoint_chop (q : Point) (c : StrokeCore) (a : Assembly) :
    (takePoint q c a).2.chop = a.chop := by
  rcases takePoint_cases q c a with ⟨-, h⟩ | ⟨-, -, h⟩ | ⟨-, -, h⟩ <;> rw [h] <;> rfl

/-! ### The sample (R60, R64, R75, R80) -/

/-- A contact sample of an OPEN stroke, with the point it gives the stroke. -/
theorem strokeSample_eq {i : Fin 48} {p : Part} {c : StrokeCore} {a : Assembly}
    (he : p.entry i = .opened c a) (s : Sample) :
    strokeSample i s p =
      let q := condition a.calibration a.boundsX a.boundsY (p.widthTable c.tool) s
      let next := takePoint q.1 (c.markClipped q.2) a
      let taken := p.setEntry i (.opened next.1 next.2)
      if next.2.pending.length < a.chop then taken else emitPoints i taken := by
  unfold strokeSample
  simp only [he, takePoint_chop, ← Nat.not_lt, ite_not]

theorem contactSample_opened {seat : Fin 72} {p : Part} {i : Fin 48}
    (ho : (p.seat seat).openEntry = some i) (s : Sample) (src : ErrorSource) :
    contactSample seat s src p = strokeSample i s (abortWindow seat p) := by
  have ho' : ((abortWindow seat p).seat seat).openEntry = some i := ho
  simp only [contactSample, ho']

/-- Settles O32: the part by `strokeSample_eq`, the candidate by `takePoint_cases`. -/
theorem candidatesAreDecimatedAndDeduplicated : Obligations.CandidatesAreDecimatedAndDeduplicated := by
  refine ⟨fun p seat s src i c a ho he => ?_, fun q c a => ?_⟩
  · have he' : (abortWindow seat p).entry i = .opened c a := he
    rw [contactSample_opened ho, strokeSample_eq he']
    rfl
  · intro next out
    have hcases := takePoint_cases q c a
    rw [show takePoint q c a = next from rfl] at hcases
    clear_value next
    rcases hcases with ⟨hd, rfl⟩ | ⟨hd, hs, rfl⟩ | ⟨hd, hs, rfl⟩
    · exact ⟨rfl, rfl, rfl, rfl, rfl, fun _ => ⟨rfl, rfl, rfl, rfl⟩, fun hd' => absurd hd (by omega)⟩
    · exact ⟨rfl, rfl, rfl, rfl, rfl, fun hd' => absurd hd (by omega),
        fun _ => ⟨rfl, fun _ => ⟨rfl, rfl, rfl⟩, fun hn => absurd hs (not_and_or.2 hn)⟩⟩
    · exact ⟨rfl, rfl, rfl, rfl, rfl, fun hd' => absurd hd (by omega),
        fun _ => ⟨rfl, fun hs' => absurd hs' hs, fun _ => ⟨rfl, rfl, rfl, rfl⟩⟩⟩

end Sys2Proof.Machine
end

section
/-! SUPPORT. Points in bounds (R54, R56, R73, R77, R80, R132): what a conditioned point makes of a sound assembly
state, which operations leave every assembly state and the canvas standing, and what every command keeps. -/

namespace Sys2Proof.Machine

/-! ### Sound assembly states -/

/-- A stage's output lies inside the bounds that hold its window's points (R77). -/
theorem stageOutput_holds {a : Assembly} {w : List XY} (hne : w ≠ [])
    (h : ∀ q ∈ w, a.holds q.x q.y) : a.holds (stageOutput w).x (stageOutput w).y := by
  have hx : ∀ v ∈ w.map XY.x, a.boundsX.lo ≤ v ∧ v ≤ a.boundsX.hi := by
    rintro v hv
    obtain ⟨q, hq, rfl⟩ := List.mem_map.1 hv
    obtain ⟨h1, h2, -, -⟩ := h q hq
    exact ⟨h1, h2⟩
  have hy : ∀ v ∈ w.map XY.y, a.boundsY.lo ≤ v ∧ v ≤ a.boundsY.hi := by
    rintro v hv
    obtain ⟨q, hq, rfl⟩ := List.mem_map.1 hv
    obtain ⟨-, -, h3, h4⟩ := h q hq
    exact ⟨h3, h4⟩
  obtain ⟨h1, h2⟩ := averageOf_mem (mt List.map_eq_nil_iff.1 hne) hx
  obtain ⟨h3, h4⟩ := averageOf_mem (mt List.map_eq_nil_iff.1 hne) hy
  exact ⟨h1, h2, h3, h4⟩

/-- A window of a smoothing parameter that a stroke may hold: it is not empty, not larger than 2^B points, and its
points lie inside the stroke's bounds (R73, R77). -/
structure Assembly.HoldsWindow (a : Assembly) (w : List XY) : Prop where
  points : ∀ q ∈ w, a.holds q.x q.y
  fill : 1 ≤ w.length ∧ w.length ≤ 2 ^ a.smoothing

namespace Assembly.HoldsWindow

theorem ne_nil {a : Assembly} {w : List XY} (h : a.HoldsWindow w) : w ≠ [] :=
  List.length_pos_iff.1 h.fill.1

/-- A point inside the bounds may enter (R73). -/
theorem enter {a : Assembly} {w : List XY} {q : XY} (h : a.HoldsWindow w) (hq : a.holds q.x q.y) :
    a.HoldsWindow (enterWindow (2 ^ a.smoothing) w q) := by
  refine ⟨fun r hr => ?_, ?_⟩
  · rcases mem_enterWindow hr with hr | rfl
    · exact h.points r hr
    · exact hq
  · rw [length_enterWindow]
    have := Nat.two_pow_pos a.smoothing
    omega

theorem output {a : Assembly} {w : List XY} (h : a.HoldsWindow w) :
    a.holds (stageOutput w).x (stageOutput w).y := stageOutput_holds h.ne_nil h.points

end Assembly.HoldsWindow

theorem Assembly.Sound.window1 {a : Assembly} (h : a.Sound) : a.HoldsWindow a.stage1 :=
  ⟨h.stage1, h.fill1⟩

theorem Assembly.Sound.window2 {a : Assembly} (h : a.Sound) : a.HoldsWindow a.stage2 :=
  ⟨h.stage2, h.fill2⟩

/-- Both windows after a conditioned point, and the smoothed point, keep to the stroke's bounds (R76, R77). -/
theorem smooth_holds {a : Assembly} {q : Point} (h : a.Sound) (hq : a.holds q.x q.y) :
    a.HoldsWindow (smooth a q).1 ∧ a.HoldsWindow (smooth a q).2.1 ∧
      a.holds (smooth a q).2.2.x (smooth a q).2.2.y := by
  have h1 : a.HoldsWindow (smooth a q).1 := h.window1.enter hq
  have h2 : a.HoldsWindow (smooth a q).2.1 := h.window2.enter h1.output
  exact ⟨h1, h2, h2.output⟩

/-- A sound assembly state that takes a point inside its bounds is sound with any pending list that is short enough
and lies inside them, and its own pending list lies inside them (R78 to R80). -/
theorem takePoint_sound {q : Point} (c : StrokeCore) {a : Assembly} (h : a.Sound) (hq : a.holds q.x q.y) :
    (∀ r ∈ (takePoint q c a).2.pending, a.holds r.x r.y) ∧
      ∀ l : List Point, (∀ r ∈ l, a.holds r.x r.y) → l.length < a.chop →
        ({ (takePoint q c a).2 with pending := l } : Assembly).Sound := by
  obtain ⟨h1, h2, hout⟩ := smooth_holds h hq
  rcases takePoint_cases q c a with ⟨hd, ht⟩ | ⟨-, -, ht⟩ | ⟨-, -, ht⟩
  · rw [ht]
    exact ⟨h.pending, fun l hl hlen => ⟨h.boundsX, h.boundsY, h1.points, h2.points, h1.fill, h2.fill, hq,
      h.emitted, hl, hlen, hd⟩⟩
  · rw [ht]
    exact ⟨h.pending, fun l hl hlen => ⟨h.boundsX, h.boundsY, h1.points, h2.points, h1.fill, h2.fill, hq,
      h.emitted, hl, hlen, Nat.zero_le _⟩⟩
  · rw [ht]
    refine ⟨fun r hr => ?_, fun l hl hlen => ⟨h.boundsX, h.boundsY, h1.points, h2.points, h1.fill, h2.fill,
      hq, hout, hl, hlen, Nat.zero_le _⟩⟩
    rcases List.mem_append.1 hr with hr | hr
    · exact h.pending r hr
    · rw [List.mem_singleton.1 hr]
      exact hout

/-- The bounds are part of the snapshots (R53). -/
theorem takePoint_bounds (q : Point) (c : StrokeCore) (a : Assembly) :
    (takePoint q c a).2.boundsX = a.boundsX ∧ (takePoint q c a).2.boundsY = a.boundsY := by
  rcases takePoint_cases q c a with ⟨-, h⟩ | ⟨-, -, h⟩ | ⟨-, -, h⟩ <;> rw [h] <;> exact ⟨rfl, rfl⟩

/-- The emission of its pending points leaves an assembly state sound (R81). -/
theorem Assembly.Sound.emptied {a : Assembly} (h : a.Sound) :
    ({ a with pending := [] } : Assembly).Sound :=
  { h with pending := nofun, short := Nat.zero_lt_of_lt h.short }

/-- An anchor inside the bounds starts a sound assembly state (R74). -/
theorem Assembly.start_sound (cal : CalibrationSnapshot) {bounds : AxisBounds × AxisBounds} {mode : LayerMode}
    {anchor : Point} (hc : 1 ≤ mode.chop) (hx : bounds.1.lo ≤ bounds.1.hi)
    (hy : bounds.2.lo ≤ bounds.2.hi)
    (h : bounds.1.lo ≤ anchor.x ∧ anchor.x ≤ bounds.1.hi ∧ bounds.2.lo ≤ anchor.y ∧
      anchor.y ≤ bounds.2.hi) : (Assembly.start cal bounds mode anchor).Sound := by
  have hw : (Assembly.start cal bounds mode anchor).HoldsWindow [anchor.xy] :=
    ⟨fun q hq => by rw [List.mem_singleton.1 hq]; exact h, le_rfl, Nat.one_le_two_pow⟩
  exact ⟨hx, hy, hw.points, hw.points, hw.fill, hw.fill, h, h, nofun, hc, Nat.zero_le _⟩

/-! ### Operations by which no stroke begins or takes a point -/

/-- From one part to another the canvas and the layers' modes stand, and every OPEN stroke was OPEN with the same
assembly state, its pending points emitted or not. -/
structure AssembliesStand (p q : Part) : Prop where
  width : q.conditioning.canvasWidth = p.conditioning.canvasWidth
  height : q.conditioning.canvasHeight = p.conditioning.canvasHeight
  modes : ∀ l, (q.layer l).mode = (p.layer l).mode
  entries : ∀ i c b, q.entry i = .opened c b → ∃ d a, p.entry i = .opened d a ∧
    (b = a ∨ b = { a with pending := [] })

namespace AssembliesStand

theorem trans {p q r : Part} (h1 : AssembliesStand p q) (h2 : AssembliesStand q r) :
    AssembliesStand p r where
  width := h2.width.trans h1.width
  height := h2.height.trans h1.height
  modes l := (h2.modes l).trans (h1.modes l)
  entries i c b h := by
    obtain ⟨c1, a1, h', hb⟩ := h2.entries i c b h
    obtain ⟨c2, a2, h'', ha⟩ := h1.entries i c1 a1 h'
    refine ⟨c2, a2, h'', ?_⟩
    rcases hb with rfl | rfl
    · exact ha
    · rcases ha with rfl | rfl
      · exact .inr rfl
      · exact .inr rfl

/-- The blocks read stand. -/
theorem of_blocks {p q : Part} (he : q.assembler.entries = p.assembler.entries) (hl : q.layers = p.layers)
    (hc : q.conditioning = p.conditioning) : AssembliesStand p q where
  width := by rw [hc]
  height := by rw [hc]
  modes l := by rw [Part.layer, hl]; rfl
  entries i c b h := ⟨c, b, (congrArg (look · i) he).symm.trans h, .inl rfl⟩

theorem refl (p : Part) : AssembliesStand p p := of_blocks rfl rfl rfl

/-- The blocks read stood when an operation began that leaves them. -/
theorem after {p q r : Part} (h : AssembliesStand q r) (he : q.assembler.entries = p.assembler.entries)
    (hl : q.layers = p.layers) (hc : q.conditioning = p.conditioning) : AssembliesStand p r :=
  (of_blocks he hl hc).trans h

/-- The blocks read stand after an operation that leaves them. -/
theorem andThen {p q r : Part} (h : AssembliesStand p q) (he : r.assembler.entries = q.assembler.entries)
    (hl : r.layers = q.layers) (hc : r.conditioning = q.conditioning) : AssembliesStand p r :=
  h.trans (of_blocks he hl hc)

theorem foldl {α : Type} {f : Part → α → Part} (h : ∀ p x, AssembliesStand p (f p x)) (l : List α)
    (p : Part) : AssembliesStand p (l.foldl f p) := by
  induction l generalizing p with
  | nil => exact .refl p
  | cons x t ih => exact (h p x).trans (ih (f p x))

/-- A change of one entry that starts no assembly state. -/
theorem setEntry {p : Part} {i : Fin 48} {e : Entry} (h : ∀ c b, e = .opened c b →
    ∃ d a, p.entry i = .opened d a ∧ (b = a ∨ b = { a with pending := [] })) :
    AssembliesStand p (p.setEntry i e) := by
  refine ⟨rfl, rfl, fun _ => rfl, fun j c b hj => ?_⟩
  rw [Part.entry_setEntry] at hj
  split at hj
  · next hji => subst hji; exact h c b hj
  · exact ⟨c, b, hj, .inl rfl⟩

theorem freeEntry (p : Part) (i : Fin 48) : AssembliesStand p (p.setEntry i .free) :=
  .setEntry fun _ _ h => by cases h

theorem endEntry (p : Part) (i : Fin 48) (c : StrokeCore) (e : Ending) :
    AssembliesStand p (p.setEntry i (.ending c e)) :=
  .setEntry fun _ _ h => by cases h

/-- A change of every entry that leaves the assembly states. -/
theorem mapEntries (p : Part) {f : Entry → Entry}
    (h : ∀ x c b, f x = .opened c b → ∃ d, x = .opened d b) :
    AssembliesStand p
      { p with assembler := { p.assembler with entries := p.assembler.entries.map f } } := by
  refine ⟨rfl, rfl, fun _ => rfl, fun i c b hi => ?_⟩
  simp only [Part.entry, look_map] at hi
  obtain ⟨d, hd⟩ := h _ c b hi
  exact ⟨d, b, hd, .inl rfl⟩

theorem setLayer {p : Part} {l : Fin 8} {v : Layer} (h : v.mode = (p.layer l).mode) :
    AssembliesStand p (p.setLayer l v) := by
  refine ⟨rfl, rfl, fun k => ?_, fun i c b hi => ⟨c, b, hi, .inl rfl⟩⟩
  rw [Part.layer_setLayer]
  split
  · next hk => rw [hk]; exact h
  · rfl

end AssembliesStand

theorem Entry.mapCore_opened {f : StrokeCore → StrokeCore} {x : Entry} {c : StrokeCore} {b : Assembly}
    (h : x.mapCore f = .opened c b) : ∃ d, x = .opened d b := by
  cases x with
  | free => cases h
  | ending d e => cases h
  | opened d a => cases h; exact ⟨d, rfl⟩

theorem SettleStep.assembliesStand {p q : Part} (h : SettleStep p q) : AssembliesStand p q := by
  have hl : q.layers = p.layers := by rw [h.fixed]
  have hc : q.conditioning = p.conditioning := by rw [h.fixed]
  refine ⟨by rw [hc], by rw [hc], fun l => by rw [Part.layer, hl]; rfl, fun i c b hi => ?_⟩
  rcases h.entries i with he | ⟨d, e, -, he | ⟨w, v, he⟩⟩
  · exact ⟨c, b, he.symm.trans hi, .inl rfl⟩
  · rw [hi] at he; cases he
  · rw [hi] at he; cases he

/-! ### Records handed to the queues, and errors (R81, R136, R171, R181) -/

theorem raise_assembliesStand (k : ErrorKind) (src : ErrorSource) (p : Part) :
    AssembliesStand p (raise k src p) := by
  obtain ⟨a, o, e, h, -⟩ := raise_frame k src p
  rw [h]
  exact .of_blocks rfl rfl rfl

theorem notice_assembliesStand (n : Notice) (p : Part) : AssembliesStand p (notice n p) := by
  obtain ⟨a, o, h, -⟩ := notice_frame n p
  rw [h]
  exact .of_blocks rfl rfl rfl

theorem joinReply_assembliesStand (f : ReplyFrame) (p : Part) : AssembliesStand p (joinReply f p) := by
  obtain ⟨o, h⟩ := joinReply_eq f p
  rw [h]
  exact .of_blocks rfl rfl rfl

theorem updateEntry_assembliesStand (i : Fin 48) (f : StrokeCore → StrokeCore) (p : Part) :
    AssembliesStand p (p.updateEntry i f) :=
  .setEntry fun _ b h => (Entry.mapCore_opened h).imp fun _ hd => ⟨b, hd, .inl rfl⟩

theorem updateEnding_assembliesStand (i : Fin 48) (f : Ending → Ending) (p : Part) :
    AssembliesStand p (p.updateEnding i f) := by
  unfold Part.updateEnding
  split
  · exact .endEntry p i _ _
  · exact .refl p

theorem handInk_assembliesStand (d : Dest) (r : InkRecord) (serial : Nat) (seat : Fin 72) (p : Part) :
    AssembliesStand p (handInk d r serial seat p).2 := by
  obtain ⟨m, u, a, o, e, h, -⟩ := handInk_frame d r serial seat p
  rw [h]
  exact (AssembliesStand.mapEntries p (f := Entry.losePointsOf m)
    fun _ _ _ h => Entry.mapCore_opened h).andThen rfl rfl rfl

/-- What follows when a queue does not take a record: the entry is marked, and the turning away is counted and
raised (R138, R139). -/
theorem turned_assembliesStand (d : Dest) (seat : Fin 72) (f : QueueCounters → QueueCounters) (p : Part) :
    AssembliesStand p (raiseOverflow d seat (p.countQueue d f)) :=
  (raise_assembliesStand _ _ _).after rfl rfl rfl

theorem handBegin_assembliesStand (i : Fin 48) (c : StrokeCore) (r : InkRecord) (p : Part) (d : Dest) :
    AssembliesStand p (handBegin i c r p d) := by
  have h := handInk_assembliesStand d r c.serial c.seat p
  unfold handBegin
  split
  · next he => rw [he] at h; exact h
  · next he =>
    rw [he] at h
    exact (h.trans (updateEntry_assembliesStand i _ _)).trans (turned_assembliesStand d c.seat _ _)

theorem handPoints_assembliesStand (i : Fin 48) (c : StrokeCore) (order : PointOrder) (pts : List Point)
    (p : Part) (d : Dest) : AssembliesStand p (handPoints i c order pts p d) := by
  have h := handInk_assembliesStand d (.points c.id (orderFor order d) pts) c.serial c.seat p
  unfold handPoints
  split
  · next he => rw [he] at h; exact h
  · next he =>
    rw [he] at h
    exact (h.trans (updateEntry_assembliesStand i _ _)).trans (turned_assembliesStand d c.seat _ _)

theorem handEnd_assembliesStand (i : Fin 48) (c : StrokeCore) (r : InkRecord) (p : Part) (d : Dest) :
    AssembliesStand p (handEnd i c r p d) := by
  have h := handInk_assembliesStand d r c.serial c.seat p
  unfold handEnd
  split
  · next he => rw [he] at h; exact h.trans (updateEnding_assembliesStand i _ _)
  · next he =>
    rw [he] at h
    exact (h.trans (updateEnding_assembliesStand i _ _)).trans
      ((turned_assembliesStand d c.seat _ _).after rfl rfl rfl)

/-- What the emission of pending points leaves (R81): the list is empty, and then the records are handed out. -/
theorem emitPoints_emptied {i : Fin 48} {p : Part} {c : StrokeCore} {a : Assembly}
    (he : p.entry i = .opened c a) (hp : a.pending ≠ []) :
    AssembliesStand (p.setEntry i (.opened c { a with pending := [] })) (emitPoints i p) := by
  obtain ⟨x, t, ht⟩ := List.exists_cons_of_ne_nil hp
  unfold emitPoints
  simp only [he, ht]
  exact .foldl (handPoints_assembliesStand i c _ _) _ _

theorem emitPoints_assembliesStand (i : Fin 48) (p : Part) : AssembliesStand p (emitPoints i p) := by
  by_cases h : ∃ c a, p.entry i = .opened c a ∧ a.pending ≠ []
  · obtain ⟨c, a, he, hp⟩ := h
    refine AssembliesStand.trans (.setEntry fun c' b hb => ?_) (emitPoints_emptied he hp)
    cases hb
    exact ⟨c, a, he, .inr rfl⟩
  · have : emitPoints i p = p := by
      unfold emitPoints
      split
      · next c a he =>
        split
        · rfl
        · next hp => exact absurd ⟨c, a, he, by rw [hp]; exact List.cons_ne_nil _ _⟩ h
      · rfl
    rw [this]
    exact .refl p

theorem flushPoints_assembliesStand (p : Part) : AssembliesStand p (flushPoints p) := by
  have step : ∀ acc i, AssembliesStand acc.1 (flushEntry acc i).1 := by
    intro acc i
    unfold flushEntry
    split
    · split
      · exact .refl _
      · simp only
        split
        · exact .refl _
        · exact emitPoints_assembliesStand i acc.1
    · exact .refl _
  have fold : ∀ (l : List (Fin 48)) acc, AssembliesStand acc.1 (l.foldl flushEntry acc).1 := by
    intro l
    induction l with
    | nil => exact fun acc => .refl _
    | cons i t ih => exact fun acc => (step acc i).trans (ih _)
  exact fold (indexes 48) (p, fill 8 none)

/-! ### Ends (R101 to R105) -/

theorem countStrokes_assembliesStand (f : StrokeCounters → StrokeCounters) (p : Part) :
    AssembliesStand p (p.countStrokes f) := .of_blocks rfl rfl rfl

theorem complete_assembliesStand (i : Fin 48) (p : Part) : AssembliesStand p (complete i p) := by
  unfold complete
  split
  · exact (AssembliesStand.freeEntry p i).andThen rfl rfl rfl
  · exact .refl p

theorem deliverEnd_assembliesStand (i : Fin 48) (c : StrokeCore) (r : InkRecord) (p : Part) :
    AssembliesStand p (deliverEnd i c r p) := by
  have h := AssembliesStand.foldl (handEnd_assembliesStand i c r) c.targets p
  unfold deliverEnd
  simp only
  split
  · split
    · exact h.trans (complete_assembliesStand i _)
    · exact h.andThen rfl rfl rfl
  · exact h

theorem closeStroke_assembliesStand (i : Fin 48) (reason : EndReason) (c : StrokeCore) (a : Assembly)
    (p : Part) : AssembliesStand p (closeStroke i reason c a p) := by
  have hlayer : AssembliesStand p (p.setLayer c.layer (p.layer c.layer).strokeEnded) := .setLayer rfl
  unfold closeStroke
  exact ((hlayer.trans (.endEntry _ i _ _)).trans (deliverEnd_assembliesStand i _ _ _)).trans
    (countStrokes_assembliesStand _ _)

theorem endStroke_assembliesStand (reason : EndReason) (p : Part) (i : Fin 48) :
    AssembliesStand p (endStroke reason p i) := by
  unfold endStroke
  split
  · next c a he =>
    have h : AssembliesStand p (emitPoints i (p.setSeat c.seat { p.seat c.seat with openEntry := none })) :=
      (emitPoints_assembliesStand i _).after rfl rfl rfl
    simp only
    split
    · exact h.trans (closeStroke_assembliesStand i reason _ _ _)
    · exact h
  · exact .refl p

theorem endSeatStroke_assembliesStand (seat : Fin 72) (reason : EndReason) (p : Part) :
    AssembliesStand p (endSeatStroke seat reason p) := by
  unfold endSeatStroke
  split
  · exact endStroke_assembliesStand reason p _
  · exact .refl p

theorem quietExpire_assembliesStand (seat : Fin 72) (p : Part) :
    AssembliesStand p (quietExpire seat p) := by
  have hends : AssembliesStand p (endSeatStroke seat .abandoned
      (p.setSeat seat { p.seat seat with expected := none, quiet := none })) :=
    (endSeatStroke_assembliesStand seat .abandoned _).after rfl rfl rfl
  exact hends.andThen rfl rfl rfl

/-! ### Marks (R37 to R44) -/

theorem applyCommit_assembliesStand (mark : Byte) (substitute : Bool) (p : Part) :
    AssembliesStand p (applyCommit mark substitute p) := by
  have hends : AssembliesStand p.committed p.revoked := .foldl (endStroke_assembliesStand .revoked) _ _
  have hcommits : AssembliesStand p p.committed := .of_blocks rfl rfl rfl
  have hseats : AssembliesStand p.revoked
      { p.revoked with seats := adjustSeats p.active p.revoked.active p.revoked.seats } :=
    .of_blocks rfl rfl rfl
  rw [applyCommit_eq]
  exact ((hcommits.trans hends).trans hseats).trans (notice_assembliesStand _ _)

theorem markEffects_assembliesStand (mark : Byte) (substitute : Bool) (p : Part) :
    AssembliesStand p (markEffects mark substitute p) := by
  unfold markEffects
  split
  · have hdraw : AssembliesStand p { p with freeDraws := p.freeDraws + 1 } := .of_blocks rfl rfl rfl
    simp only
    split
    · exact (hdraw.trans (applyCommit_assembliesStand mark substitute _)).trans
        (flushPoints_assembliesStand _)
    · exact (hdraw.trans (flushPoints_assembliesStand _)).trans
        (applyCommit_assembliesStand mark substitute _)
  · rw [stepCountdown_eq]
    exact (flushPoints_assembliesStand _).after rfl rfl rfl

theorem loseMark_assembliesStand (p : Part) : AssembliesStand p (loseMark p) := by
  unfold loseMark
  split
  · exact (raise_assembliesStand _ _ _).after rfl rfl rfl
  · exact .refl p

theorem substituteMark_assembliesStand (p : Part) : AssembliesStand p (substituteMark p) :=
  (loseMark_assembliesStand p).trans ((markEffects_assembliesStand 0 true _).after rfl rfl rfl)

theorem realMark_assembliesStand (number : Byte) (p : Part) : AssembliesStand p (realMark number p) :=
  (markEffects_assembliesStand number false _).after rfl rfl rfl

theorem grantCredit_assembliesStand (count : Byte) (p : Part) :
    AssembliesStand p (grantCredit count p) := by
  unfold grantCredit
  simp only
  split
  · exact (raise_assembliesStand _ _ _).after rfl rfl rfl
  · exact .of_blocks rfl rfl rfl

theorem takeDisplayFrame_assembliesStand (frame : List Byte) (p : Part) :
    AssembliesStand p (takeDisplayFrame frame p) := by
  unfold takeDisplayFrame
  split
  · split
    · split
      · exact .refl p
      · exact realMark_assembliesStand _ p
    · exact grantCredit_assembliesStand _ p
    · split
      · exact .refl p
      · exact raise_assembliesStand _ _ p
  · split
    · exact .refl p
    · exact raise_assembliesStand _ _ p

/-! ### Layers and queues (R118 to R127, R142, R162) -/

theorem joinIfRoom_assembliesStand (r : InkRecord) (p : Part) (d : Dest) :
    AssembliesStand p (joinIfRoom r p d) := by
  unfold joinIfRoom
  split
  · obtain ⟨o, h⟩ := joinInk_eq d r none p
    rw [h]
    exact .of_blocks rfl rfl rfl
  · exact .refl p

theorem sendLayerRecord_assembliesStand (l : Fin 8) (ev : LayerEvent) (p : Part) :
    AssembliesStand p (sendLayerRecord l ev p) :=
  .foldl (joinIfRoom_assembliesStand _) _ p

theorem setLayerState_assembliesStand (l : Fin 8) (st : LayerState) (p : Part) :
    AssembliesStand p (p.setLayerState l st) := .setLayer rfl

theorem clearEffects_assembliesStand (l : Fin 8) (strokes : List (Fin 48)) (p : Part) :
    AssembliesStand p (clearEffects l strokes p) := by
  have hheld : AssembliesStand p (p.holdSlots (p.layer l).mode.dests) := .of_blocks rfl rfl rfl
  exact (hheld.trans (.foldl (endStroke_assembliesStand .cleared) strokes _)).trans
    ((sendLayerRecord_assembliesStand l .cleared _).after rfl rfl rfl)

/-- The six actions of LAYER_CONTROL and its refusals (R118 to R124). -/
theorem ownLayerControl_assembliesStand (layer action : Byte) (p : Part) :
    AssembliesStand p (ownLayerControl layer action p).2 := by
  have key : ∀ f : Fin 8 → Part → Answer, (∀ l, AssembliesStand p (f l p).2) →
      AssembliesStand p (withLayer layer f p).2 := by
    intro f h
    unfold withLayer
    split
    · exact h _
    · exact .of_blocks rfl rfl rfl
  unfold ownLayerControl
  split
  · refine key _ fun l => ?_
    unfold layerOpen
    split
    · exact .refl p
    · simp only
      split
      · exact .refl p
      · exact (setLayerState_assembliesStand l .opened p).trans
          (sendLayerRecord_assembliesStand l .opened _)
  split
  · refine key _ fun l => ?_
    unfold layerFreeze
    split
    · exact .refl p
    · exact setLayerState_assembliesStand l .frozen p
  split
  · refine key _ fun l => ?_
    unfold layerThaw
    split
    · exact .refl p
    · exact setLayerState_assembliesStand l .opened p
  split
  · refine key _ fun l => ?_
    unfold layerClose
    split
    · exact .refl p
    · exact .refl p
    · exact setLayerState_assembliesStand l _ p
  split
  · refine key _ fun l => ?_
    unfold layerCloseNow
    split
    · exact .refl p
    · exact (AssembliesStand.foldl (endStroke_assembliesStand .cancelled) _ p).trans
        (setLayerState_assembliesStand l .closed _)
  split
  · refine key _ fun l => ?_
    unfold layerClear
    split
    · exact .refl p
    · simp only
      split
      · exact .refl p
      · exact (clearEffects_assembliesStand l _ p).andThen rfl rfl rfl
  · exact key _ fun l => .refl p

theorem flushRecords_assembliesStand (d : Dest) (p : Part) : AssembliesStand p (flushRecords d p) := by
  unfold flushRecords
  simp only
  split
  · exact .of_blocks rfl rfl rfl
  · exact .of_blocks rfl rfl rfl

theorem suppressAll_assembliesStand (d : Dest) (p : Part) : AssembliesStand p (suppressAll d p) := by
  refine .mapEntries p fun x c b h => ?_
  cases x with
  | free => cases h
  | ending c' e => cases h
  | opened c' a => cases h; exact ⟨c', rfl⟩

theorem releaseWaiting_assembliesStand (d : Dest) (p : Part) :
    AssembliesStand p (releaseWaiting d p) :=
  (AssembliesStand.foldl (fun q i => updateEnding_assembliesStand i _ q) (p.queue d).waiting p).andThen
    rfl rfl rfl

theorem ownFlushQueue_assembliesStand (queue : Byte) (p : Part) :
    AssembliesStand p (ownFlushQueue queue p).2 := by
  unfold ownFlushQueue
  split
  · exact .refl p
  · next d _ =>
    have hreleased := ((flushRecords_assembliesStand d p).trans (suppressAll_assembliesStand d _)).trans
      (releaseWaiting_assembliesStand d _)
    exact (hreleased.trans (.foldl (fun q i => (completeIfDone_settleStep i q).assembliesStand)
      (p.queue d).waiting _)).trans (roomChoose_settleStep _).assembliesStand

theorem ownUndo_assembliesStand (seat : Byte) (p : Part) : AssembliesStand p (ownUndo seat p).2 := by
  unfold ownUndo undoSeat
  split
  · split
    · exact .refl p
    · simp only
      split
      · exact .refl p
      · exact (AssembliesStand.foldl (joinIfRoom_assembliesStand _) _ p).andThen rfl rfl rfl
  · exact .refl p

/-! ### What keeps the strokes of a part sound -/

theorem AssembliesStand.sound {p q : Part} (h : AssembliesStand p q) (hp : p.StrokesSound) :
    q.StrokesSound where
  strokes i c b hb := by
    obtain ⟨d, a, ha, rfl | rfl⟩ := h.entries i c b hb
    · exact hp.strokes i d _ ha
    · exact (hp.strokes i d a ha).emptied
  inside i c b hb := by
    obtain ⟨d, a, ha, hba⟩ := h.entries i c b hb
    have hin := hp.inside i d a ha
    rw [h.width, h.height]
    rcases hba with rfl | rfl
    · exact hin
    · exact hin
  canvas := by rw [h.width, h.height]; exact hp.canvas
  chop l := by rw [h.modes]; exact hp.chop l

/-- Soundness reads entries, layers and canvas alone. -/
theorem Part.StrokesSound.congr {p q : Part} (h : p.StrokesSound)
    (he : q.assembler.entries = p.assembler.entries) (hl : q.layers = p.layers)
    (hc : q.conditioning = p.conditioning) : q.StrokesSound :=
  (AssembliesStand.of_blocks he hl hc).sound h

/-- A part with no OPEN stroke, a canvas that is not empty and no chop length of 0. -/
theorem Part.StrokesSound.of_none {p : Part} (h : ∀ i c a, p.entry i ≠ .opened c a)
    (hw : 1 ≤ p.conditioning.canvasWidth) (hh : 1 ≤ p.conditioning.canvasHeight)
    (hc : ∀ l, 1 ≤ (p.layer l).mode.chop) : p.StrokesSound :=
  ⟨fun i c a he => absurd he (h i c a), fun i c a he => absurd he (h i c a), ⟨hw, hh⟩, hc⟩

/-- A sound assembly state on the canvas may stand in an entry. -/
theorem Part.StrokesSound.setEntry {p : Part} (h : p.StrokesSound) (i : Fin 48) (c : StrokeCore)
    {a : Assembly} (ha : a.Sound) (hx : a.boundsX.within p.conditioning.canvasWidth)
    (hy : a.boundsY.within p.conditioning.canvasHeight) : (p.setEntry i (.opened c a)).StrokesSound := by
  refine ⟨fun j d b hj => ?_, fun j d b hj => ?_, h.canvas, h.chop⟩
  · rw [Part.entry_setEntry] at hj
    split at hj
    · cases hj; exact ha
    · exact h.strokes j d b hj
  · rw [Part.entry_setEntry] at hj
    split at hj
    · cases hj; exact ⟨hx, hy⟩
    · exact h.inside j d b hj

/-! ### Samples (R60, R74, R75, R80) -/

/-- A contact sample of an OPEN stroke: the point taken lies inside the bounds, and a list at chop length is
emitted at once. -/
theorem strokeSample_sound (i : Fin 48) (s : Sample) {p : Part} (h : p.StrokesSound) :
    (strokeSample i s p).StrokesSound := by
  by_cases he : ∃ c a, p.entry i = .opened c a
  · obtain ⟨c, a, he⟩ := he
    have ha := h.strokes i c a he
    obtain ⟨hx, hy⟩ := h.inside i c a he
    rw [strokeSample_eq he]
    set q := condition a.calibration a.boundsX a.boundsY (p.widthTable c.tool) s
    set next := takePoint q.1 (c.markClipped q.2) a
    set taken := p.setEntry i (.opened next.1 next.2)
    show (if next.2.pending.length < a.chop then taken else emitPoints i taken).StrokesSound
    have hq : a.holds q.1.x q.1.y := condition_mem ha.boundsX ha.boundsY _ _ _
    obtain ⟨hpending, hsound⟩ := takePoint_sound (c.markClipped q.2) ha hq
    obtain ⟨hbx, hby⟩ := takePoint_bounds q.1 (c.markClipped q.2) a
    have hplace : ∀ l : List Point, (∀ r ∈ l, a.holds r.x r.y) → l.length < a.chop →
        (p.setEntry i (.opened next.1 { next.2 with pending := l })).StrokesSound := fun l hl hlen =>
      h.setEntry i next.1 (hsound l hl hlen) (by rw [← hbx] at hx; exact hx)
        (by rw [← hby] at hy; exact hy)
    split
    · next hlen => exact hplace next.2.pending hpending hlen
    · next hlen =>
      have hne : next.2.pending ≠ [] := by
        intro h0
        rw [h0] at hlen
        exact hlen (Nat.zero_lt_of_lt ha.short)
      have hemit := emitPoints_emptied (p := taken) (Part.entry_setEntry_same ..) hne
      have hput : taken.setEntry i (.opened next.1 { next.2 with pending := [] }) =
          p.setEntry i (.opened next.1 { next.2 with pending := [] }) := by
        simp only [taken, Part.setEntry, put_put]
      rw [hput] at hemit
      exact hemit.sound (hplace [] nofun (Nat.zero_lt_of_lt ha.short))
  · have : strokeSample i s p = p := by
      unfold strokeSample
      split
      · next c a hc => exact absurd ⟨c, a, hc⟩ he
      · rfl
    rw [this]
    exact h

/-- The part with a stroke placed in an entry and counted by its layer, before its BEGIN is handed out (R94). -/
def Part.placed (p : Part) (i : Fin 48) (c : StrokeCore) (a : Assembly) : Part :=
  ({ p with
    assembler :=
      { p.assembler with
        entries := put p.assembler.entries i (.opened c a)
        nextId := nextIdAfter c.id
        nextSerial := p.assembler.nextSerial + 1 }
    seats := put p.seats c.seat { p.seat c.seat with openEntry := some i } } : Part).setLayer c.layer
      { p.layer c.layer with openCount := (p.layer c.layer).openCount + 1 }

theorem Part.placed_layer (p : Part) (i : Fin 48) (c : StrokeCore) (a : Assembly) (l : Fin 8) :
    (p.placed i c a).layer l =
      if l = c.layer then { p.layer c.layer with openCount := (p.layer c.layer).openCount + 1 }
      else p.layer l := Part.layer_setLayer ..

theorem placeStroke_eq (i : Fin 48) (c : StrokeCore) (a : Assembly) (p : Part) :
    placeStroke i c a p =
      (c.dests.toList.foldl (handBegin i c (beginRecord c a)) (p.placed i c a)).countStrokes
        fun k => { k with begun := bump k.begun } := rfl

theorem placeStroke_sound (i : Fin 48) (c : StrokeCore) {a : Assembly} {p : Part} (h : p.StrokesSound)
    (ha : a.Sound) (hx : a.boundsX.within p.conditioning.canvasWidth)
    (hy : a.boundsY.within p.conditioning.canvasHeight) : (placeStroke i c a p).StrokesSound := by
  have hbegun := AssembliesStand.foldl (handBegin_assembliesStand i c (beginRecord c a)) c.dests.toList
    (p.placed i c a)
  have hplaced : AssembliesStand (p.setEntry i (.opened c a)) (p.placed i c a) := by
    refine ⟨rfl, rfl, fun l => ?_, fun j d b h => ⟨d, b, h, .inl rfl⟩⟩
    rw [Part.placed_layer]
    split
    · next hl => rw [hl]; rfl
    · rfl
  rw [placeStroke_eq]
  exact ((hplaced.trans hbegun).trans (countStrokes_assembliesStand _ _)).sound (h.setEntry i c ha hx hy)

/-- A new stroke's anchor lies inside its window snapshot, and that on the canvas (R54, R74). -/
theorem newStroke_sound (seat : Fin 72) (s : Sample) (layer : Fin 8) (isPrivate : Bool) {p : Part}
    (h : p.StrokesSound) :
    (newStroke seat s layer isPrivate p).2.Sound ∧
      (newStroke seat s layer isPrivate p).2.boundsX.within p.conditioning.canvasWidth ∧
      (newStroke seat s layer isPrivate p).2.boundsY.within p.conditioning.canvasHeight := by
  obtain ⟨hx, hy⟩ := windowBounds_within seat (p.identity seat).window h.canvas.1 h.canvas.2
  exact ⟨Assembly.start_sound _ (h.chop layer) hx.1 hy.1 (condition_mem hx.1 hy.1 _ _ _), hx, hy⟩

theorem touchDown_sound (seat : Fin 72) (s : Sample) (src : ErrorSource) {p : Part} (h : p.StrokesSound) :
    (touchDown seat s src p).StrokesSound := by
  unfold touchDown
  split
  · next layer isPrivate _ =>
    unfold beginStroke
    split
    · obtain ⟨ha, hx, hy⟩ := newStroke_sound seat s layer isPrivate h
      exact placeStroke_sound _ _ h ha hx hy
    · exact h
  · next reason _ =>
    obtain ⟨a, o, e, hr⟩ := refusalTold_frame seat reason src (p.refuse seat reason)
    rw [refuseTouch_eq, hr]
    exact h.congr rfl rfl rfl

/-- A change of a calibration set leaves the canvas. -/
theorem setCalibrationSet_assembliesStand (i : Fin 16) (c : CalibrationSet) (p : Part) :
    AssembliesStand p (p.setCalibrationSet i c) :=
  ⟨rfl, rfl, fun _ => rfl, fun _ c b h => ⟨c, b, h, .inl rfl⟩⟩

theorem contactSample_sound (seat : Fin 72) (s : Sample) (src : ErrorSource) {p : Part}
    (h : p.StrokesSound) : (contactSample seat s src p).StrokesSound := by
  have habort : (abortWindow seat p).StrokesSound := (setCalibrationSet_assembliesStand _ _ p).sound h
  unfold contactSample
  simp only
  split
  · exact strokeSample_sound _ s habort
  · exact habort.congr rfl rfl rfl
  · exact touchDown_sound seat s src habort

theorem liftSample_assembliesStand (seat : Fin 72) (s : Sample) (p : Part) :
    AssembliesStand p (liftSample seat s p) := by
  have hlift : AssembliesStand p (clearLockout seat (endSeatStroke seat .lifted p)) :=
    (endSeatStroke_assembliesStand seat .lifted p).andThen rfl rfl rfl
  unfold liftSample
  simp only
  split
  · exact hlift.trans (setCalibrationSet_assembliesStand _ _ _)
  · exact hlift

theorem handleSamples_sound (seat : Fin 72) (src : ErrorSource) (samples : List Sample) {p : Part}
    (h : p.StrokesSound) : (samples.foldl (handleSample seat src) p).StrokesSound := by
  induction samples generalizing p with
  | nil => exact h
  | cons s t ih =>
    refine ih ?_
    unfold handleSample
    split
    · exact contactSample_sound seat s src h
    · exact (liftSample_assembliesStand seat s p).sound h

/-! ### The receivers (R1 to R9) -/

theorem countLink_assembliesStand (port : Port) (f : LinkCounters → LinkCounters) (p : Part) :
    AssembliesStand p (p.countLink port f) := by cases port <;> exact .of_blocks rfl rfl rfl

theorem gapStroke_assembliesStand (seat : Fin 72) (p : Part) : AssembliesStand p (gapStroke seat p) := by
  unfold gapStroke
  split
  · split
    · next c a he =>
      refine .setEntry fun c' b h => ?_
      cases h
      exact ⟨c, a, he, .inl rfl⟩
    · exact .refl p
  · exact .refl p

theorem setSeat_assembliesStand (seat : Fin 72) (v : Seat) (p : Part) :
    AssembliesStand p (p.setSeat seat v) := .of_blocks rfl rfl rfl

theorem checkSequence_assembliesStand (seat : Fin 72) (seq : Byte) (src : ErrorSource) (p : Part) :
    AssembliesStand p (checkSequence seat seq src p) := by
  unfold checkSequence
  simp only
  split
  · exact .of_blocks rfl rfl rfl
  · split
    · exact .of_blocks rfl rfl rfl
    · exact ((raise_assembliesStand _ _ _).trans (gapStroke_assembliesStand seat _)).after rfl rfl rfl

theorem takeInk_sound (port : Port) (seat : Fin 72) (seq : Byte) (samples : List Sample)
    (src : ErrorSource) {p : Part} (h : p.StrokesSound) :
    (takeInk port seat seq samples src p).StrokesSound := by
  refine handleSamples_sound seat src samples (AssembliesStand.sound ?_ h)
  exact (countLink_assembliesStand port _ p).trans ((setSeat_assembliesStand seat _ _).trans
    ((checkSequence_assembliesStand seat seq src _).trans (setSeat_assembliesStand seat _ _)))

/-! ### Requests (section 10.3) -/

/-- A canvas that a SET_CANVAS may set is not empty, and is set while no stroke is OPEN (R71). -/
theorem ownSetCanvas_sound (width height : Half) {p : Part} (h : p.StrokesSound) :
    (ownSetCanvas width height p).2.StrokesSound := by
  unfold ownSetCanvas
  split
  · exact h
  · next hfree =>
    split
    · exact h
    · next w v hin =>
      have hentries := ((canvasFree_iff p).1 (by simpa using hfree)).2
      simp only [canvasOf?, Option.ite_none_right_eq_some, Option.some.injEq, Prod.mk.injEq] at hin
      obtain ⟨⟨hw, -, hv, -⟩, rfl, rfl⟩ := hin
      refine .of_none (fun i c a he => ?_) (le_trans (by omega) hw) (le_trans (by omega) hv) h.chop
      have : p.entry i = .opened c a := he
      rw [hentries i] at this
      cases this

/-- A mode that a SET_LAYER_MODE may set has a chop length of 4 or 8 (R116, R117). -/
theorem ownSetLayerMode_sound (w : LayerModeWrite) {p : Part} (h : p.StrokesSound) :
    (ownSetLayerMode w p).2.StrokesSound := by
  unfold ownSetLayerMode
  split
  · exact h
  · next l _ =>
    split
    · exact h
    · split
      · exact h
      · next m hm =>
        refine ⟨h.strokes, h.inside, h.canvas, fun k => ?_⟩
        show 1 ≤ ((p.setLayer l { p.layer l with mode := m }).layer k).mode.chop
        rw [Part.layer_setLayer]
        split
        · simp only [modeOf?, Option.bind_eq_bind, Option.bind_eq_some_iff,
            Option.ite_none_right_eq_some, Option.some.injEq] at hm
          obtain ⟨order, -, dests, -, ⟨-, -, hchop⟩, rfl⟩ := hm
          show 1 ≤ w.chop.toNat
          omega
        · exact h.chop k

/-- The blocks of a reset have no OPEN stroke, the default canvas and the default modes (R52, R109, R114). -/
theorem sound_of_reset {q : Part} (he : q.assembler = resetAssembler) (hl : q.layers = fill 8 resetLayer)
    (hc : ∃ c : Conditioning, q.conditioning = c.reset) : q.StrokesSound := by
  obtain ⟨c, hc⟩ := hc
  refine .of_none (fun i d a hi => ?_) ?_ ?_ fun l => ?_
  · rw [Part.entry, he, resetAssembler, look_fill] at hi
    cases hi
  · rw [hc]; exact Nat.one_le_ofNat
  · rw [hc]; exact Nat.one_le_ofNat
  · rw [Part.layer, hl, look_fill]; exact Nat.one_le_ofNat

theorem softReset_sound (p : Part) : (softReset p).StrokesSound :=
  (notice_assembliesStand _ _).sound (sound_of_reset rfl rfl ⟨p.conditioning, rfl⟩)

/-- The owner of a request keeps every stroke sound. -/
theorem ownerOf_sound (r : Request) {p : Part} (h : p.StrokesSound) : (ownerOf r p).2.StrokesSound := by
  have stand : ∀ {q : Part}, q.assembler.entries = p.assembler.entries → q.layers = p.layers →
      q.conditioning.canvasWidth = p.conditioning.canvasWidth →
      q.conditioning.canvasHeight = p.conditioning.canvasHeight → q.StrokesSound := by
    intro q he hl hw hh
    exact AssembliesStand.sound ⟨hw, hh, fun l => by rw [Part.layer, hl]; rfl,
      fun i c b hb => ⟨c, b, (congrArg (look · i) he).symm.trans hb, .inl rfl⟩⟩ h
  have withSets : ∀ v, ({ p with conditioning := { p.conditioning with sets := v } } : Part).StrokesSound :=
    fun _ => stand rfl rfl rfl rfl
  cases r with
  | setCanvas width height => exact ownSetCanvas_sound width height h
  | setLayerMode w => exact ownSetLayerMode_sound w h
  | layerControl layer action => exact (ownLayerControl_assembliesStand layer action p).sound h
  | flushQueue queue => exact (ownFlushQueue_assembliesStand queue p).sound h
  | undo seat => exact (ownUndo_assembliesStand seat p).sound h
  | resetPart => exact softReset_sound p
  | cancelCommit => exact stand rfl rfl rfl rfl
  | readLayers => exact h
  | readErrors => exact h
  | setRoomPriority mode =>
    simp only [ownerOf, ownSetRoomPriority]
    split
    · exact h
    · exact (roomChoose_settleStep _).assembliesStand.sound (stand rfl rfl rfl rfl)
  | writeIdentity w =>
    simp only [ownerOf, ownWriteIdentity]
    split
    · exact h
    · split
      · exact h
      · split
        · exact h
        · exact stand rfl rfl rfl rfl
  | writeRule w =>
    simp only [ownerOf, ownWriteRule]
    split
    · exact h
    · split
      · exact h
      · exact stand rfl rfl rfl rfl
  | setDefaultAction page action =>
    simp only [ownerOf, ownSetDefaultAction]
    split
    · exact h
    · split
      · exact stand rfl rfl rfl rfl
      · exact h
  | selectPage page =>
    simp only [ownerOf, ownSelectPage]
    split
    · exact h
    · split
      · exact stand rfl rfl rfl rfl
      · exact h
  | commit skip =>
    simp only [ownerOf, ownCommit]
    split
    · exact h
    · split
      · exact stand rfl rfl rfl rfl
      · exact h
  | discardStaged =>
    simp only [ownerOf, ownDiscardStaged]
    split
    · exact h
    · exact stand rfl rfl rfl rfl
  | writeCalibration w =>
    simp only [ownerOf, ownWriteCalibration]
    split
    · exact h
    · split
      · exact h
      · exact stand rfl rfl rfl rfl
  | applyBaseline sets =>
    simp only [ownerOf, ownApplyBaseline]
    split
    · exact h
    · split
      · exact h
      · exact withSets _
  | writeWidthTable tool entries =>
    simp only [ownerOf, ownWriteWidthTable]
    split
    · exact h
    · split
      · exact h
      · exact stand rfl rfl rfl rfl
  | clearErrors kinds =>
    simp only [ownerOf, ownClearErrors]
    split
    · exact h
    · exact stand rfl rfl rfl rfl
  | saveCalibration =>
    simp only [ownerOf, ownSaveCalibration]
    split
    · exact h
    · exact stand rfl rfl rfl rfl
  | restoreFactory =>
    simp only [ownerOf, ownRestoreFactory]
    split
    · exact h
    · exact stand rfl rfl rfl rfl
  | readIdentity seat copy =>
    simp only [ownerOf, ownReadIdentity]; split <;> exact stand rfl rfl rfl rfl
  | readRule page index copy =>
    simp only [ownerOf, ownReadRule]; split <;> exact stand rfl rfl rfl rfl
  | readMonitor clear => simp only [ownerOf, ownReadMonitor]; split <;> exact stand rfl rfl rfl rfl
  | setTiming idle frame => simp only [ownerOf, ownSetTiming]; split <;> exact stand rfl rfl rfl rfl
  | readCalibration set =>
    simp only [ownerOf, ownReadCalibration]; split <;> exact stand rfl rfl rfl rfl
  | readWidthTable tool => simp only [ownerOf, ownReadWidthTable]; split <;> exact stand rfl rfl rfl rfl
  | setQueue queue watermark policy =>
    simp only [ownerOf, ownSetQueue]; split <;> exact stand rfl rfl rfl rfl
  | readQueues clear => simp only [ownerOf, ownReadQueues]; split <;> exact stand rfl rfl rfl rfl
  | readStrokes start => simp only [ownerOf, ownReadStrokes]; split <;> exact stand rfl rfl rfl rfl
  | readCounters clear first count =>
    simp only [ownerOf, ownReadCounters]; split <;> exact stand rfl rfl rfl rfl
  | readHistory count => simp only [ownerOf, ownReadHistory]; split <;> exact stand rfl rfl rfl rfl
  | setErrorMask kind mask =>
    simp only [ownerOf, ownSetErrorMask]; split <;> exact stand rfl rfl rfl rfl
  | setErrorSeverity kind severity =>
    simp only [ownerOf, ownSetErrorSeverity]; split <;> exact stand rfl rfl rfl rfl

/-- The taking of a request keeps every stroke sound when its owner does (R167, R168). -/
theorem takeRequest_sound {owner : Part → Answer}
    (ho : ∀ p : Part, p.StrokesSound → (owner p).2.StrokesSound) (head : RequestHead) {p : Part}
    (h : p.StrokesSound) : (takeRequest head owner p).StrokesSound := by
  have hold : ∀ (q : Part) (b : Bool), AssembliesStand q (q.holdReply b) := fun _ _ =>
    .of_blocks rfl rfl rfl
  unfold takeRequest
  split
  · exact (raise_assembliesStand _ _ p).sound h
  · split
    · exact (joinReply_assembliesStand _ p).sound h
    · have hdone := (hold _ false).sound (ho _ ((hold p true).sound h))
      unfold finish
      split
      · exact (joinReply_assembliesStand _ _).sound hdone
      · exact hdone

theorem answerBody_sound (kind : Byte) (body : List Byte) (agrees : Bool) (p : Part)
    (h : p.StrokesSound) : (answerBody kind body agrees p).2.StrokesSound := by
  unfold answerBody
  split
  · exact h
  · split
    · exact h
    · split
      · exact h
      · next r _ => exact ownerOf_sound r h

/-! ### Every command -/

theorem receive_sound (port : Port) (frame : List Byte) {p : Part} (h : p.StrokesSound) :
    (receive port frame p).StrokesSound := by
  have hdrop : ∀ kind count, (dropFrame port kind frame count p).StrokesSound := fun kind count =>
    ((countLink_assembliesStand port count p).trans (raise_assembliesStand kind _ _)).sound h
  unfold receive
  split
  · split
    · exact h
    · exact hdrop _ _
  · split
    · split
      · exact h
      · exact hdrop _ _
    · split
      · exact takeRequest_sound (answerBody_sound _ _ _) _ h
      · unfold misplaced
        split
        · exact h
        · exact (raise_assembliesStand _ _ p).sound h
    · split
      · exact h
      · unfold takeInkFrame
        split
        · exact takeInk_sound _ _ _ _ _ h
        · exact ((countLink_assembliesStand port _ p).trans (raise_assembliesStand _ _ _)).sound h

theorem bridgeAccept_assembliesStand (p : Part) : AssembliesStand p (bridgeAccept p) := by
  have hchoose := fun q => (roomChoose_settleStep q).assembliesStand
  have hoffer : ∀ q : Part, AssembliesStand q (q.setOffer .none) := fun _ => .of_blocks rfl rfl rfl
  unfold bridgeAccept
  split
  · exact .refl p
  · have h : AssembliesStand p (acceptReply p) := by
      unfold acceptReply
      split <;> exact .of_blocks rfl rfl rfl
    exact (h.trans (hoffer _)).trans (hchoose _)
  · exact ((depart_settleStep .fanout .room fanoutFrame p).assembliesStand.trans (hoffer _)).trans
      (hchoose _)

theorem saveComplete_assembliesStand (success : Bool) (p : Part) :
    AssembliesStand p (saveComplete success p) := by
  unfold saveComplete
  split
  · exact .refl p
  · simp only
    split
    · exact (notice_assembliesStand _ _).after rfl rfl rfl
    · exact ((notice_assembliesStand _ _).trans (raise_assembliesStand _ _ _)).after rfl rfl rfl

/-- A load replaces sets and tables and leaves the canvas (R188). -/
theorem loadComplete_assembliesStand (p : Part) : AssembliesStand p (loadComplete p) := by
  have hload : ∀ img, AssembliesStand p (p.loaded img) := fun _ =>
    ⟨rfl, rfl, fun _ => rfl, fun _ c b h => ⟨c, b, h, .inl rfl⟩⟩
  unfold loadComplete
  split
  · unfold finishLoad
    simp only
    split
    · exact (hload _).trans (notice_assembliesStand _ _)
    · exact (hload _).trans ((notice_assembliesStand _ _).trans (raise_assembliesStand _ _ _))
  · exact .refl p

theorem event_sound {f : Part → Part} {p q : Part} {rest : List Instr} (hp : p.StrokesSound)
    (hf : (f p).StrokesSound) (h : event f ⟨p, rest⟩ = .next ⟨q, rest⟩) : q.StrokesSound := by
  cases hr : p.inReset
  · rw [event_next rest hr] at h
    cases h
    exact (settle_settleStep _).assembliesStand.sound hf
  · rw [event_held rest hr] at h
    cases h
    exact hp

/-- Settles O56: the commands by which no stroke begins or takes a point leave every assembly state; a contact sample
keeps soundness by `strokeSample_sound` and `newStroke_sound`. -/
theorem everyCommandKeepsPointsInBounds : Obligations.EveryCommandKeepsPointsInBounds := by
  intro c p q rest hp h
  have settled : ∀ r : Part, r.StrokesSound → (settle r).StrokesSound := fun r =>
    (settle_settleStep r).assembliesStand.sound
  cases hc : c.request? with
  | some x =>
    obtain ⟨req, r⟩ := x
    rw [exec_request hc] at h
    exact event_sound hp (takeRequest_sound (fun _ => ownerOf_sound r) _ hp) h
  | none =>
    cases c with
    | powerOnReset => cases h; exact sound_of_reset rfl rfl ⟨p.conditioning, rfl⟩
    | resetnLow =>
      cases h
      unfold pinLow
      split
      · exact hp
      · exact sound_of_reset rfl rfl ⟨p.conditioning, rfl⟩
    | resetEnd =>
      cases h
      refine settled _ ?_
      unfold resetEnds
      split
      · exact sound_of_reset rfl rfl ⟨p.conditioning, rfl⟩
      · exact hp
    | loadComplete => exact event_sound hp ((loadComplete_assembliesStand p).sound hp) h
    | boardLinkFrame frame => exact event_sound hp (receive_sound .board frame hp) h
    | roomLinkFrame frame => exact event_sound hp (receive_sound .room frame hp) h
    | quietExpiry seat =>
      refine event_sound hp ?_ h
      split
      · exact (quietExpire_assembliesStand seat p).sound hp
      · exact hp
    | frameMark number code => exact event_sound hp ((takeDisplayFrame_assembliesStand _ p).sound hp) h
    | substituteMark =>
      refine event_sound hp ?_ h
      split
      · exact (substituteMark_assembliesStand p).sound hp
      · exact hp
    | creditGrant count code =>
      exact event_sound hp ((takeDisplayFrame_assembliesStand _ p).sound hp) h
    | displayFrameDiscard frame =>
      exact event_sound hp ((takeDisplayFrame_assembliesStand _ p).sound hp) h
    | displayTransmitEnd =>
      exact event_sound (f := fun p => { p with egress := { p.egress with displayBusy := false } }) hp
        (hp.congr rfl rfl rfl) h
    | recordReadyChange asserted =>
      cases h
      exact settled _ (hp.congr rfl rfl rfl)
    | recordTransmitEnd =>
      exact event_sound (f := fun p => { p with egress := { p.egress with recordBusy := false } }) hp
        (hp.congr rfl rfl rfl) h
    | bridgeReadyChange ready =>
      cases h
      exact settled _ (hp.congr rfl rfl rfl)
    | bridgeAccept => exact event_sound hp ((bridgeAccept_assembliesStand p).sound hp) h
    | saveComplete success =>
      exact event_sound hp ((saveComplete_assembliesStand success p).sound hp) h
    | unknownRequest req kind body =>
      exact event_sound hp (takeRequest_sound (answerBody_sound _ _ _) _ hp) h
    | _ => cases hc

end Sys2Proof.Machine
end

section
/-! SUPPORT. Requests on the calibration taken (R65, R67, R69), and the saves of the calibration store (R66, R190,
R191). -/

namespace Sys2Proof.Machine

/-! ### The writes of the calibration (R65, R67, R69) -/

theorem toInt_ofInt_16 {n : Int} (h1 : -32768 ≤ n) (h2 : n ≤ 32767) : (BitVec.ofInt 16 n).toInt = n :=
  BitVec.toInt_ofInt_eq_self (by omega) (by omega) (by omega)

theorem toNat_ofNat_16 {n : Nat} (h : n ≤ 65535) : (BitVec.ofNat 16 n).toNat = n := by
  rw [BitVec.toNat_ofNat]
  omega

/-- Stored fields in their ranges are read back as sent (R50, R67). -/
theorem calibrationOf_sent (i : Fin 16) {f : StoredSet} (hx1 : -32768 ≤ f.offsetX) (hx2 : f.offsetX ≤ 32767)
    (hy1 : -32768 ≤ f.offsetY) (hy2 : f.offsetY ≤ 32767) (hgx : f.gainX ≤ 65535) (hgy : f.gainY ≤ 65535)
    (hb : f.baseline ≤ 4095) (he : f.exponent ≤ 6) :
    calibrationOf? ⟨byteOf i.val, BitVec.ofInt 16 f.offsetX, BitVec.ofInt 16 f.offsetY,
      BitVec.ofNat 16 f.gainX, BitVec.ofNat 16 f.gainY, BitVec.ofNat 16 f.baseline, byteOf f.exponent,
      flagByte f.autoApply⟩ = some (i, f) := by
  have hbase : (BitVec.ofNat 16 f.baseline).toNat = f.baseline := toNat_ofNat_16 (by omega)
  have hexp : (byteOf f.exponent).toNat = f.exponent := toNat_byteOf (by omega)
  simp only [calibrationOf?, finOf_byteOf_16, flagOf_flagByte, Option.bind_eq_bind, Option.bind_some, hbase,
    hexp, toInt_ofInt_16 hx1 hx2, toInt_ofInt_16 hy1 hy2, toNat_ofNat_16 hgx, toNat_ofNat_16 hgy]
  exact if_pos ⟨hb, he⟩

/-- Numbers of calibration sets are read back as sent (R65). -/
theorem setsOf_sent {named : List (Fin 16)} (h : named.length ≤ 16) :
    setsOf? (named.map fun i => byteOf i.val) = some named := by
  have hread : ∀ l : List (Fin 16), (l.map fun i => byteOf i.val).mapM (finOf? 16) = some l := by
    intro l
    induction l with
    | nil => rfl
    | cons i t ih =>
      rw [List.map_cons, List.mapM_cons, finOf_byteOf_16, ih]
      rfl
  rw [setsOf?, List.length_map, if_pos h, hread]

/-- Entries that are no 0 are read back as sent (R69). -/
theorem widthsOf_sent (t : Tool) {entries : Vector Byte 16} (h : ∀ i, 1 ≤ (look entries i).toNat) :
    widthsOf? t.code entries = some (toolIndex t, entries.map BitVec.toNat) := by
  have hall : (entries.toList.all fun e => decide (1 ≤ e.toNat)) = true := by
    rw [toList_eq_map, List.all_eq_true]
    intro e he
    obtain ⟨i, -, rfl⟩ := List.mem_map.1 he
    exact decide_eq_true (h i)
  simp only [widthsOf?, toolTable?, Tool.of_code, Option.map_some]
  exact if_pos hall

/-- Settles O44: each write's fields are read back as sent, and its owner takes them. -/
theorem calibrationWritesTakeTheFieldsSent : Obligations.CalibrationWritesTakeTheFieldsSent := by
  intro req p rest h hs
  have hidle : ¬ (p.holdReply true).save.isSome = true := by simp [hs]
  refine ⟨fun i f hx1 hx2 hy1 hy2 hgx hgy hb he => ?_, fun named hn => ?_, fun t entries hw => ?_⟩
  · refine exec_taken (r := .writeCalibration _) h rfl ?_ rest
    show ownWriteCalibration _ _ = _
    rw [ownWriteCalibration, if_neg hidle, calibrationOf_sent i hx1 hx2 hy1 hy2 hgx hgy hb he]
    rfl
  · refine exec_taken (r := .applyBaseline _) h rfl ?_ rest
    show ownApplyBaseline _ _ = _
    rw [ownApplyBaseline, if_neg hidle, setsOf_sent hn]
    refine congrArg (fun v => taken _ (Part.holdReply
      { p with conditioning := { p.conditioning with sets := v } } true)) ?_
    refine congrArg Vector.ofFn (funext fun i => ?_)
    show (if i ∈ named then (p.calibrationSet i).applyEstimate else p.calibrationSet i) = _
    generalize p.calibrationSet i = c
    obtain ⟨stored, estimate, sum, count⟩ := c
    cases estimate with
    | none => exact ite_self _
    | some e => rfl
  · refine exec_taken (r := .writeWidthTable _ _) h rfl ?_ rest
    show ownWriteWidthTable _ _ _ = _
    rw [ownWriteWidthTable, if_neg hidle, widthsOf_sent t hw]
    rfl

/-! ### Saves (R66, R190, R191) -/

/-- The end of a save in flight that succeeds. -/
theorem saveComplete_succeeds {p : Part} {origin : SaveOrigin} {img : StoreImage}
    (h : p.save = some ⟨origin, img⟩) :
    saveComplete true p = notice (.storeDone origin true)
      { p with save := none, store := ⟨some img, some (crc img.bytes)⟩ } := by
  simp only [saveComplete, h, if_true]
  rfl

/-- The end of a save in flight that fails. -/
theorem saveComplete_fails {p : Part} {origin : SaveOrigin} {img : StoreImage}
    (h : p.save = some ⟨origin, img⟩) :
    saveComplete false p =
      raise .storeFault noSource (notice (.storeDone origin false) { p with save := none }) := by
  simp only [saveComplete, h, Bool.false_eq_true, if_false]

/-- Settles O45: the image taken by `startSave`, the factory values by `factoryImage_set` and `factoryImage_width`,
and the two ends of a save. -/
theorem savesWriteTheImageTaken : Obligations.SavesWriteTheImageTaken := by
  intro req p rest
  refine ⟨fun h hs => ?_, fun origin img hr hs => ⟨?_, ?_⟩⟩
  · have hidle : ¬ (p.holdReply true).save.isSome = true := by simp [hs]
    refine ⟨exec_taken (r := .saveCalibration) h rfl ?_ rest,
      startSave .restoreFactory { p with conditioning := p.conditioning.load factoryImage },
      exec_taken (r := .restoreFactory) h rfl ?_ rest, fun i => ?_, fun i => ?_, rfl, rfl, rfl, rfl, rfl⟩
    · exact if_neg hidle
    · exact if_neg hidle
    · show look (factoryImage.sets.map freshSet) i = _
      rw [look_map, factoryImage_set]
      rfl
    · exact ⟨factoryImage_width .pen i, factoryImage_width .marker i, factoryImage_width .eraser i,
        factoryImage_width .finger i⟩
  · rw [← saveComplete_succeeds hs]
    exact event_next rest hr
  · rw [show (⟨none, none, none, none, []⟩ : ErrorSource) = noSource from rfl, ← saveComplete_fails hs]
    exact event_next rest hr

end Sys2Proof.Machine
end

section
/-! SUPPORT. A stroke's record handed to several queues, one after the other (R133, R135 to R139): what each hand makes
of its own queue and its own error, that it leaves the others, and what they make together (`Handed`). -/

namespace Sys2Proof.Machine

/-! ### The room egress choice has been made (R150) -/

theorem Part.RoomChosen.congr {p q : Part} (h : p.RoomChosen) (hr : q.agent.replies = p.agent.replies)
    (hf : q.queues.fanout.items = p.queues.fanout.items)
    (hb : q.egress.bridgeReady = p.egress.bridgeReady) (ho : q.egress.offer = p.egress.offer) :
    q.RoomChosen := by
  unfold Part.RoomChosen at *
  rwa [hr, hf, hb, ho]

/-- After a choice it has been made. -/
theorem roomChoose_roomChosen (p : Part) : (roomChoose p).RoomChosen := by
  intro hb hw
  rw [roomChoose_bridgeReady] at hb
  rw [roomChoose_agent, roomChoose_queues] at hw
  rw [roomChoose_eq]
  show (if p.egress.offer = .none ∧ p.egress.bridgeReady = true then p.choice else p.egress.offer) ≠ .none
  split
  · rw [Ne, choice_none_iff]
    tauto
  · next h => exact fun ho => h ⟨ho, hb⟩

/-- The choice stays made, and the fan-out head is under offer if and only if it was. -/
structure KeepsOffer (p q : Part) : Prop where
  chosen : p.RoomChosen → q.RoomChosen
  fanout : p.RoomChosen → (q.egress.offer = .fanout ↔ p.egress.offer = .fanout)

namespace KeepsOffer

theorem refl (p : Part) : KeepsOffer p p := ⟨id, fun _ => .rfl⟩

theorem trans {p q r : Part} (h1 : KeepsOffer p q) (h2 : KeepsOffer q r) : KeepsOffer p r :=
  ⟨fun h => h2.chosen (h1.chosen h), fun h => (h2.fanout (h1.chosen h)).trans (h1.fanout h)⟩

/-- An operation that leaves what the choice reads. -/
theorem of_blocks {p q : Part} (ha : q.agent.replies = p.agent.replies)
    (hf : q.queues.fanout.items = p.queues.fanout.items) (he : q.egress = p.egress) : KeepsOffer p q :=
  ⟨fun h => h.congr ha hf (by rw [he]) (by rw [he]), fun _ => by rw [he]⟩

/-- A frame that joins the reply queue is offered only where nothing waited, and so in place of no fan-out head. -/
theorem joinReply (f : ReplyFrame) (p : Part) : KeepsOffer p (joinReply f p) := by
  refine ⟨fun _ => roomChoose_roomChosen _, fun h => ?_⟩
  set q : Part :=
    { p with
      agent :=
        { p.agent with
          replies := p.agent.replies ++ [⟨f, p.agent.replySeq, p.tick⟩]
          replySeq := p.agent.replySeq + 1 } }
  show (roomChoose q).egress.offer = .fanout ↔ _
  rw [roomChoose_eq]
  show (if p.egress.offer = .none ∧ p.egress.bridgeReady = true then q.choice else p.egress.offer) =
    .fanout ↔ _
  split
  · next hc =>
    obtain ⟨hnone, hb⟩ := hc
    have hempty : p.queues.fanout.items = [] := by
      by_contra hne
      exact h hb (.inr hne) hnone
    have : q.choice ≠ .fanout := fun hq => choice_fanout hq hempty
    simp [this, hnone]
  · rfl

theorem notice (n : Notice) (p : Part) : KeepsOffer p (notice n p) := by
  rw [notice_eq]
  split
  · exact joinReply _ p
  · exact .of_blocks rfl rfl rfl

theorem ite {p q : Part} {c : Prop} [Decidable c] (h : KeepsOffer p q) :
    KeepsOffer p (if c then q else p) := by
  split
  · exact h
  · exact .refl p

theorem raise (k : ErrorKind) (src : ErrorSource) (p : Part) : KeepsOffer p (raise k src p) := by
  have hlog : KeepsOffer p (p.logFirst k src) := .ite (.of_blocks rfl rfl rfl)
  exact (hlog.ite.trans (notice _ _).ite).trans (.of_blocks rfl rfl rfl)

end KeepsOffer

/-! ### What a raise, a removal and a join make of queues and errors (R137, R139, R181) -/

/-- The item of a kind once it has been raised (R181). -/
def ErrorItem.raised (x : ErrorItem) : ErrorItem :=
  { x with status := true, counter := min 65535 (x.counter + 1) }

theorem raise_items (k : ErrorKind) (src : ErrorSource) (p : Part) (j : Fin 13) :
    look (raise k src p).errors.items j =
      if j = k.index then (look p.errors.items k.index).raised else look p.errors.items j := by
  obtain ⟨a, o, h, -⟩ := raise_eq k src p
  rw [h]
  exact look_put ..

theorem overflowKind_index_inj {d e : Dest} (h : (overflowKind d).index = (overflowKind e).index) :
    d = e := by
  revert h
  cases d <;> cases e <;> decide

/-- A queue that has raised its overflow: its own kind's item, and no other queue's. -/
theorem raiseOverflow_items (d e : Dest) (seat : Fin 72) (p : Part) :
    look (raiseOverflow d seat p).errors.items (overflowKind e).index =
      if e = d then (look p.errors.items (overflowKind e).index).raised
      else look p.errors.items (overflowKind e).index := by
  rw [raiseOverflow, raise_items]
  by_cases h : e = d
  · rw [if_pos h, if_pos (by rw [h]), h]
  · rw [if_neg h, if_neg (mt overflowKind_index_inj h)]

theorem raiseOverflow_queue (d e : Dest) (seat : Fin 72) (p : Part) :
    (raiseOverflow d seat p).queue e = p.queue e := by
  obtain ⟨a, o, r, h, -⟩ := raise_frame (overflowKind d) ⟨some (portOf d), none, none, some seat, []⟩ p
  rw [raiseOverflow, h]
  rfl

theorem joinInk_queue (d e : Dest) (r : InkRecord) (serial : Option Nat) (p : Part) :
    (joinInk d r serial p).queue e = if e = d then (p.queue d).push r serial p.tick else p.queue e := by
  obtain ⟨o, h⟩ := joinInk_eq d r serial p
  rw [h]
  exact Queues.get_set ..

theorem joinInk_entry (d : Dest) (r : InkRecord) (serial : Option Nat) (p : Part) (i : Fin 48) :
    (joinInk d r serial p).entry i = p.entry i := by
  obtain ⟨o, h⟩ := joinInk_eq d r serial p
  rw [h]
  rfl

theorem joinInk_errors (d : Dest) (r : InkRecord) (serial : Option Nat) (p : Part) :
    (joinInk d r serial p).errors = p.errors := by
  obtain ⟨o, h⟩ := joinInk_eq d r serial p
  rw [h]

/-- A queue that a POINTS record has left by DROP_OLDEST (R137). -/
def InkQueue.dropped (q : InkQueue) (rest : List QueueItem) : InkQueue :=
  { q with
    items := rest
    counters := { q.counters with oldestRemovals := min 65535 (q.counters.oldestRemovals + 1) } }

theorem dropOldest_queue (d e : Dest) (seat : Fin 72) (x : QueueItem) (rest : List QueueItem) (p : Part) :
    (dropOldest d seat x rest p).queue e = if e = d then (p.queue d).dropped rest else p.queue e := by
  obtain ⟨a, o, r, h, -⟩ := dropOldest_frame d seat x rest p
  rw [h]
  exact Queues.get_set ..

theorem dropOldest_entry (d : Dest) (seat : Fin 72) (x : QueueItem) (rest : List QueueItem) (p : Part)
    (i : Fin 48) : (dropOldest d seat x rest p).entry i = (p.entry i).losePointsOf x.serial := by
  obtain ⟨a, o, r, h, -⟩ := dropOldest_frame d seat x rest p
  rw [h]
  exact Part.entry_losePointsOf ..

theorem dropOldest_tick (d : Dest) (seat : Fin 72) (x : QueueItem) (rest : List QueueItem) (p : Part) :
    (dropOldest d seat x rest p).tick = p.tick := by
  obtain ⟨a, o, r, h, -⟩ := dropOldest_frame d seat x rest p
  rw [h]
  rfl

theorem dropOldest_items (d e : Dest) (seat : Fin 72) (x : QueueItem) (rest : List QueueItem) (p : Part) :
    look (dropOldest d seat x rest p).errors.items (overflowKind e).index =
      if e = d then (look p.errors.items (overflowKind e).index).raised
      else look p.errors.items (overflowKind e).index := raiseOverflow_items ..

/-- The oldest POINTS record that may leave a queue stands after records that may not, the fan-out record under
offer at their head (R137, R151). -/
theorem takeEligible_some {p : Part} {d : Dest} {x : QueueItem} {rest : List QueueItem}
    (h : p.takeEligible d = some (x, rest)) : ∃ before after,
    (p.queue d).items = before ++ x :: after ∧ rest = before ++ after ∧ x.isPoints = true ∧
      (if d = .fanout ∧ p.egress.offer = .fanout then
        before ≠ [] ∧ ∀ y ∈ before.tail, y.isPoints = false
      else ∀ y ∈ before, y.isPoints = false) := by
  unfold Part.takeEligible at h
  split at h
  · next head tail ho hi =>
    simp only [Option.map_eq_some_iff, Prod.mk.injEq, Prod.exists] at h
    obtain ⟨y, r, hy, rfl, rfl⟩ := h
    obtain ⟨before, after, rfl, rfl, hp, hb⟩ := takeOldestPoints_some hy
    exact ⟨head :: before, after, hi, rfl, hp, by rw [if_pos ⟨rfl, ho⟩]; exact ⟨List.cons_ne_nil _ _, hb⟩⟩
  · next hn =>
    obtain ⟨before, after, hi, hr, hp, hb⟩ := takeOldestPoints_some h
    refine ⟨before, after, hi, hr, hp, ?_⟩
    rw [if_neg]
    · exact hb
    · rintro ⟨rfl, ho⟩
      cases hq : (p.queue .fanout).items with
      | nil => rw [hq] at hi; exact absurd hi.symm (List.append_ne_nil_of_right_ne_nil _ (List.cons_ne_nil _ _))
      | cons y t => exact hn y t rfl ho hq

theorem dropOldest_keepsOffer {d : Dest} (hd : d ≠ .fanout) (seat : Fin 72) (x : QueueItem)
    (rest : List QueueItem) (p : Part) : KeepsOffer p (dropOldest d seat x rest p) := by
  refine KeepsOffer.trans ?_ (.raise _ _ _)
  cases d with
  | fanout => exact absurd rfl hd
  | display => exact .of_blocks rfl rfl rfl
  | record => exact .of_blocks rfl rfl rfl

theorem joinInk_keepsOffer {d : Dest} (hd : d ≠ .fanout) (r : InkRecord) (serial : Option Nat)
    (p : Part) : KeepsOffer p (joinInk d r serial p) := by
  cases d with
  | fanout => exact absurd rfl hd
  | display => exact .of_blocks rfl rfl rfl
  | record => exact .of_blocks rfl rfl rfl

/-! ### One hand (R136 to R139) -/

/-- A record has been handed to the queue of one destination, `turned` being what a queue that does not take it
becomes: the other queues and their errors stand. -/
structure HandedTo (d : Dest) (r : InkRecord) (serial : Nat) (turned : InkQueue → InkQueue) (p q : Part) :
    Prop where
  joins : p.admits d → Joined d r serial p q
  turns : ¬ p.admits d → q.queue d = turned (p.queue d)
  others : ∀ e, e ≠ d → q.queue e = p.queue e
  raised : look q.errors.items (overflowKind d).index =
    if p.hasRoom d = true then look p.errors.items (overflowKind d).index
    else (look p.errors.items (overflowKind d).index).raised
  quiet : ∀ e, e ≠ d →
    look q.errors.items (overflowKind e).index = look p.errors.items (overflowKind e).index
  held : q.queues.held = p.queues.held
  tick : q.tick = p.tick
  chosen : p.RoomChosen → q.RoomChosen
  offer : d ≠ .fanout → KeepsOffer p q

/-- A queue with a free slot takes the record at its tail (R135). -/
theorem handedTo_of_room {d : Dest} {p : Part} (h : p.hasRoom d = true) (r : InkRecord) (serial : Nat)
    (turned : InkQueue → InkQueue) : HandedTo d r serial turned p (joinInk d r (some serial) p) := by
  obtain ⟨o, hj⟩ := joinInk_eq d r (some serial) p
  refine ⟨fun _ => ⟨fun _ => ?_, fun hn => ?_⟩, fun ha => absurd (.inl h) ha, fun e he => ?_, ?_, fun e _ => ?_,
    ?_, ?_, fun hc => ?_, fun hd => joinInk_keepsOffer hd r _ p⟩
  · rw [joinInk_queue, if_pos rfl]
    rfl
  · rw [h] at hn
    cases hn
  · rw [joinInk_queue, if_neg he]
  · rw [joinInk_errors, if_pos h]
  · rw [joinInk_errors]
  · rw [hj]
    exact Queues.held_set ..
  · rw [hj]
  · cases d with
    | display => exact hc.congr rfl rfl rfl rfl
    | record => exact hc.congr rfl rfl rfl rfl
    | fanout => exact roomChoose_roomChosen _

/-- A full queue from which a POINTS record may go takes the record in its place (R137). -/
theorem handedTo_of_drop {d : Dest} {p : Part} {x : QueueItem} {rest : List QueueItem}
    (h : p.hasRoom d = false) (hp : (p.queue d).policy = .dropOldest)
    (he : p.takeEligible d = some (x, rest)) (r : InkRecord) (serial : Nat) (seat : Fin 72)
    (turned : InkQueue → InkQueue) :
    HandedTo d r serial turned p (joinInk d r (some serial) (dropOldest d seat x rest p)) := by
  obtain ⟨before, after, hi, rfl, hx, hb⟩ := takeEligible_some he
  have hadmits : p.admits d := .inr ⟨hp, (takeEligible_isSome p d).1 (by rw [he]; rfl)⟩
  obtain ⟨o, hj⟩ := joinInk_eq d r (some serial) (dropOldest d seat x (before ++ after) p)
  obtain ⟨a, o', er, hdrop, -⟩ := dropOldest_frame d seat x (before ++ after) p
  refine ⟨fun _ => ⟨fun hn => ?_, fun _ => ⟨before, x, after, hi, hx, hb, ?_⟩⟩, fun ha => absurd hadmits ha,
    fun e he => ?_, ?_, fun e he => ?_, ?_, ?_, fun hc => ?_, fun hd =>
    (dropOldest_keepsOffer hd seat x _ p).trans (joinInk_keepsOffer hd r _ _)⟩
  · rw [h] at hn
    cases hn
  · rw [joinInk_queue, if_pos rfl, dropOldest_queue, if_pos rfl, dropOldest_tick]
    rfl
  · rw [joinInk_queue, if_neg he, dropOldest_queue, if_neg he]
  · rw [joinInk_errors, dropOldest_items, if_pos rfl, if_neg (by rw [h]; exact Bool.false_ne_true)]
  · rw [joinInk_errors, dropOldest_items, if_neg he]
  · rw [hj, hdrop]
    exact (Queues.held_set ..).trans (Queues.held_set ..)
  · rw [hj]
    exact dropOldest_tick ..
  · by_cases hd : d = .fanout
    · subst hd
      exact roomChoose_roomChosen _
    · exact ((dropOldest_keepsOffer hd seat x _ p).trans (joinInk_keepsOffer hd r _ _)).chosen hc

/-- A queue that does not take the record: the entry is marked, the turning away is counted and raised (R138,
R139). -/
theorem handedTo_of_turn {d : Dest} {p : Part} (h : ¬ p.admits d) (r : InkRecord) (serial : Nat)
    (i : Fin 48) (seat : Fin 72) (f : StrokeCore → StrokeCore) (g : QueueCounters → QueueCounters) :
    HandedTo d r serial (fun k => { k with counters := g k.counters }) p
      (raiseOverflow d seat ((p.updateEntry i f).countQueue d g)) := by
  have hroom : ¬ p.hasRoom d = true := fun hr => h (.inl hr)
  have hkeep : KeepsOffer p (raiseOverflow d seat ((p.updateEntry i f).countQueue d g)) := by
    refine KeepsOffer.trans ?_ (.raise _ _ _)
    cases d <;> exact .of_blocks rfl rfl rfl
  have hraise := raise_inkStep (overflowKind d) ⟨some (portOf d), none, none, some seat, []⟩
    ((p.updateEntry i f).countQueue d g)
  refine ⟨fun ha => absurd ha h, fun _ => ?_, fun e he => ?_, ?_, fun e he => ?_, ?_, ?_, hkeep.chosen,
    fun _ => hkeep⟩
  · rw [raiseOverflow_queue, Part.countQueue, Part.queue_setQueue_same]
    rfl
  · rw [raiseOverflow_queue, Part.countQueue, Part.queue_setQueue_other _ _ he]
    rfl
  · rw [raiseOverflow_items, if_pos rfl, if_neg hroom]
    rfl
  · rw [raiseOverflow_items, if_neg he]
    rfl
  · exact hraise.held.trans (Queues.held_set ..)
  · exact hraise.tick

/-- A BEGIN handed to one queue (R95, R138). -/
theorem handBegin_handedTo (i : Fin 48) (c : StrokeCore) (r : InkRecord) (p : Part) (d : Dest) :
    HandedTo d r c.serial
      (fun k =>
        { k with counters := { k.counters with beginDiscards := min 65535 (k.counters.beginDiscards + 1) } })
      p (handBegin i c r p d) := by
  have hadmits := handInk_takes d r c.serial c.seat p
  unfold handBegin
  rcases handInk_cases d r c.serial c.seat p with ⟨hr, h⟩ | ⟨hr, hp, x, rest, he, h⟩ | ⟨-, -, h⟩
  · rw [h]
    exact handedTo_of_room hr r c.serial _
  · rw [h]
    exact handedTo_of_drop hr hp he r c.serial c.seat _
  · rw [h] at hadmits ⊢
    have hturn : ¬ p.admits d := fun ha => Bool.false_ne_true (hadmits.2 ha)
    exact handedTo_of_turn hturn r c.serial i c.seat
      (fun c => { c with suppressed := c.suppressed.insert d })
      fun k => { k with beginDiscards := bump k.beginDiscards }

/-! ### Several hands, one after the other (R133) -/

/-- Two parts agree on all that a hand to one destination reads and changes of its queue and its error. -/
structure AgreesOn (d : Dest) (p q : Part) : Prop where
  queue : q.queue d = p.queue d
  items : look q.errors.items (overflowKind d).index = look p.errors.items (overflowKind d).index
  held : q.queues.held = p.queues.held
  tick : q.tick = p.tick
  offer : d = .fanout → (q.egress.offer = .fanout ↔ p.egress.offer = .fanout)

namespace AgreesOn

variable {d : Dest} {p q : Part} (h : AgreesOn d p q)
include h

theorem hasRoom : q.hasRoom d = p.hasRoom d := by
  unfold Part.hasRoom Part.level
  rw [h.queue, h.held]

theorem offered : (d = .fanout ∧ q.egress.offer = .fanout) ↔ (d = .fanout ∧ p.egress.offer = .fanout) :=
  and_congr_right h.offer

theorem admits : q.admits d ↔ p.admits d := by
  simp only [Part.admits, Part.removable, h.hasRoom, h.queue, h.offered]

theorem joined {r : InkRecord} {serial : Nat} {s : Part} (hj : Joined d r serial q s) :
    Joined d r serial p s := by
  obtain ⟨h1, h2⟩ := hj
  rw [h.hasRoom, h.queue, h.tick] at h1
  simp only [h.hasRoom, h.queue, h.tick, h.offered] at h2
  exact ⟨h1, h2⟩

end AgreesOn

/-- A hand to one destination leaves what hands to the others read. -/
theorem HandedTo.agreesOn {d e : Dest} {r : InkRecord} {serial : Nat} {turned : InkQueue → InkQueue}
    {p q : Part} (h : HandedTo d r serial turned p q) (hne : e ≠ d) (hc : p.RoomChosen) : AgreesOn e p q :=
  ⟨h.others e hne, h.quiet e hne, h.held, h.tick,
    fun he => (h.offer fun hd => hne (he.trans hd.symm)).fanout hc⟩

/-- `Handed` reads of the part before what hands to the destinations read, and of the part after its queues and
errors. -/
theorem Handed.congr {targets targets' : Dest → Prop} {r : Dest → InkRecord} {serial : Nat}
    {turned : InkQueue → InkQueue} {p p' q q' : Part} (h : Handed targets r serial turned p q)
    (ht : ∀ d, targets' d ↔ targets d) (hp : ∀ d, AgreesOn d p' p) (hq : q'.queues = q.queues)
    (he : q'.errors = q.errors) : Handed targets' r serial turned p' q' := by
  have hqueue : ∀ d, q'.queue d = q.queue d := fun d => by rw [Part.queue, hq]; rfl
  refine ⟨fun d hd ha => ?_, fun d hd ha => ?_, fun d hd => ?_, fun d hd hr => ?_, fun d hd => ?_⟩
  · obtain ⟨h1, h2⟩ := (hp d).joined (h.joins d ((ht d).1 hd) ((hp d).admits.2 ha))
    rw [← hqueue] at h1
    simp only [← hqueue] at h2
    exact ⟨h1, h2⟩
  · rw [hqueue, h.turns d ((ht d).1 hd) (mt (hp d).admits.1 ha), (hp d).queue]
  · rw [hqueue, h.stands d (mt (ht d).2 hd), (hp d).queue]
  · rw [he, h.raises d ((ht d).1 hd) ((hp d).hasRoom.trans hr), (hp d).items]
  · rw [he, h.quiet d fun h' => (hp d).hasRoom.trans (hd ((ht d).2 h')), (hp d).items]

/-- Hands to distinct destinations, one after the other, are made as if each were the first. -/
theorem handed_of_foldl {r : Dest → InkRecord} {serial : Nat} {turned : InkQueue → InkQueue}
    {f : Part → Dest → Part} (hf : ∀ p d, HandedTo d (r d) serial turned p (f p d)) (l : List Dest)
    (hl : l.Nodup) {p : Part} (hc : p.RoomChosen) :
    Handed (· ∈ l) r serial turned p (l.foldl f p) := by
  induction l generalizing p with
  | nil => exact ⟨nofun, nofun, fun _ _ => rfl, nofun, fun _ _ => rfl⟩
  | cons d t ih =>
    obtain ⟨hdt, ht⟩ := List.nodup_cons.1 hl
    have h1 := hf p d
    have h2 := ih ht (h1.chosen hc)
    have hagree : ∀ e, e ≠ d → AgreesOn e p (f p d) := fun e he => h1.agreesOn he hc
    have hne : ∀ e ∈ t, e ≠ d := fun e he hd => hdt (hd ▸ he)
    have hdq : (t.foldl f (f p d)).queue d = (f p d).queue d := h2.stands d hdt
    rw [List.foldl_cons]
    refine ⟨fun e he ha => ?_, fun e he ha => ?_, fun e he => ?_, fun e he hr => ?_, fun e he => ?_⟩
    · rcases List.mem_cons.1 he with rfl | he
      · obtain ⟨hfits, hreplaces⟩ := h1.joins ha
        exact ⟨fun hr => hdq.trans (hfits hr), fun hr => by rw [hdq]; exact hreplaces hr⟩
      · have hag := hagree e (hne e he)
        exact hag.joined (h2.joins e he (hag.admits.2 ha))
    · rcases List.mem_cons.1 he with rfl | he
      · exact hdq.trans (h1.turns ha)
      · have hag := hagree e (hne e he)
        rw [h2.turns e he (mt hag.admits.1 ha), hag.queue]
    · obtain ⟨hed, het⟩ := not_or.1 (mt List.mem_cons.2 he)
      rw [h2.stands e het, (hagree e hed).queue]
    · rcases List.mem_cons.1 he with rfl | he
      · rw [h2.quiet e fun h => absurd h hdt, h1.raised, if_neg (by rw [hr]; exact Bool.false_ne_true)]
        rfl
      · have hag := hagree e (hne e he)
        rw [h2.raises e he (hag.hasRoom.trans hr), hag.items]
    · by_cases hed : e = d
      · subst hed
        rw [h2.quiet e fun h => absurd h hdt, h1.raised, if_pos (he List.mem_cons_self)]
      · have hag := hagree e hed
        rw [h2.quiet e fun h => hag.hasRoom.trans (he (List.mem_cons_of_mem d h)), hag.items]

theorem toList_nodup (s : DestSet) : s.toList.Nodup :=
  List.Nodup.filter _ (by decide)

/-! ### The entry of the stroke whose BEGIN is handed out (R95, R106, R107) -/

/-- The entry of a stroke whose BEGIN has been handed to some destinations: it is suppressed where the BEGIN was
turned away, and loses points only by records of its own serial number. -/
structure BegunEntry (l : List Dest) (i : Fin 48) (c : StrokeCore) (a : Assembly) (p q : Part)
    (c' : StrokeCore) : Prop where
  entry : q.entry i = .opened c' a
  core : c' = { c with
    flags := { c.flags with pointsLost := c'.flags.pointsLost }
    suppressed := c'.suppressed }
  points : (∀ d ∈ l, ∀ x ∈ (p.queue d).items, x.serial ≠ some c.serial) →
    c'.flags.pointsLost = c.flags.pointsLost
  suppressed : p.RoomChosen →
    ∀ d, c'.suppressed.has d = true ↔ c.suppressed.has d = true ∨ d ∈ l ∧ ¬ p.admits d

theorem losePointsOf_opened {c : StrokeCore} {serial : Option Nat} (a : Assembly) :
    (Entry.opened c a).losePointsOf serial =
      .opened (if some c.serial = serial then c.losePoints else c) a := rfl

/-- One hand of a BEGIN. -/
theorem handBegin_entry {i : Fin 48} {c : StrokeCore} {a : Assembly} {p : Part} (c0 : StrokeCore)
    (r : InkRecord) (d : Dest) (h : p.entry i = .opened c a) :
    ∃ c', BegunEntry [d] i c a p (handBegin i c0 r p d) c' := by
  have hadmits := handInk_takes d r c0.serial c0.seat p
  unfold handBegin
  rcases handInk_cases d r c0.serial c0.seat p with ⟨hr, hh⟩ | ⟨-, hp, x, rest, he, hh⟩ | ⟨-, -, hh⟩
  · rw [hh] at hadmits ⊢
    refine ⟨c, (joinInk_entry ..).trans h, rfl, fun _ => rfl, fun _ e => ?_⟩
    have : ¬ (e ∈ [d] ∧ ¬ p.admits e) := fun ⟨hm, hn⟩ => hn (List.mem_singleton.1 hm ▸ hadmits.1 rfl)
    exact (or_iff_left this).symm
  · obtain ⟨before, after, hi, -, -, -⟩ := takeEligible_some he
    rw [hh] at hadmits ⊢
    refine ⟨if some c.serial = x.serial then c.losePoints else c, ?_, ?_, fun hs => ?_, fun _ e => ?_⟩
    · rw [joinInk_entry, dropOldest_entry, h, losePointsOf_opened]
    · split <;> rfl
    · have hx : x ∈ (p.queue d).items := by rw [hi]; exact List.mem_append_right _ List.mem_cons_self
      rw [if_neg fun hx' => hs d List.mem_cons_self x hx hx'.symm]
    · have : ¬ (e ∈ [d] ∧ ¬ p.admits e) := fun ⟨hm, hn⟩ => hn (List.mem_singleton.1 hm ▸ hadmits.1 rfl)
      split <;> exact (or_iff_left this).symm
  · rw [hh] at hadmits ⊢
    have hturn : ¬ p.admits d := fun ha => Bool.false_ne_true (hadmits.2 ha)
    refine ⟨{ c with suppressed := c.suppressed.insert d }, ?_, rfl, fun _ => rfl, fun _ e => ?_⟩
    · obtain ⟨_, _, _, hraise, -⟩ := raise_frame (overflowKind d)
        ⟨some (portOf d), none, none, some c0.seat, []⟩
        ((p.updateEntry i fun c => { c with suppressed := c.suppressed.insert d }).countQueue d
          fun k => { k with beginDiscards := bump k.beginDiscards })
      simp only [raiseOverflow]
      rw [hraise]
      show (p.updateEntry i _).entry i = _
      rw [Part.updateEntry, Part.entry_setEntry_same, h]
      rfl
    · rw [DestSet.has_insert, Bool.or_eq_true, decide_eq_true_eq, List.mem_singleton, or_comm]
      exact or_congr_right ⟨fun he => ⟨he, he ▸ hturn⟩, And.left⟩

/-- The hands of a BEGIN, one after the other. -/
theorem handBegins_entry {i : Fin 48} {a : Assembly} (c0 : StrokeCore) (r : InkRecord) (l : List Dest)
    (hl : l.Nodup) {c : StrokeCore} {p : Part} (h : p.entry i = .opened c a) :
    ∃ c', BegunEntry l i c a p (l.foldl (handBegin i c0 r) p) c' := by
  induction l generalizing c p with
  | nil => exact ⟨c, h, rfl, fun _ => rfl, fun _ d => by simp⟩
  | cons d t ih =>
    obtain ⟨hdt, ht⟩ := List.nodup_cons.1 hl
    have hto := handBegin_handedTo i c0 r p d
    obtain ⟨c1, h1⟩ := handBegin_entry c0 r d h
    obtain ⟨c2, h2⟩ := ih ht h1.entry
    have hserial : c1.serial = c.serial := by rw [h1.core]
    have hne : ∀ e ∈ t, e ≠ d := fun e he hd => hdt (hd ▸ he)
    refine ⟨c2, h2.entry, h2.core.trans (by rw [h1.core]), fun hs => ?_, fun hc e => ?_⟩
    · refine (h2.points fun e he x hx => ?_).trans (h1.points fun e he => ?_)
      · rw [hto.others e (hne e he)] at hx
        rw [hserial]
        exact hs e (List.mem_cons_of_mem d he) x hx
      · rw [List.mem_singleton.1 he]
        exact hs d List.mem_cons_self
    · have hadmits : e ∈ t → (¬ (handBegin i c0 r p d).admits e ↔ ¬ p.admits e) := fun he =>
        not_congr (hto.agreesOn (hne e he) hc).admits
      rw [h2.suppressed (hto.chosen hc) e, h1.suppressed hc e, and_congr_right hadmits, or_assoc, ← or_and_right,
        List.mem_singleton, List.mem_cons]

end Sys2Proof.Machine
end

section
/-! SUPPORT. The begin of a stroke (R92 to R95): the id the allocator gives, the entry it takes, and what an admitted
touch-down makes of the part. -/

namespace Sys2Proof.Machine

/-! ### The allocator (R92) -/

/-- Counting upward from an id in range, 65535 followed by 1. -/
theorem iterate_nextIdAfter {v : Nat} (h1 : 1 ≤ v) (h2 : v ≤ 65535) (n : Nat) :
    nextIdAfter^[n] v = (v - 1 + n) % 65535 + 1 := by
  induction n with
  | zero =>
    rw [Function.iterate_zero_apply]
    omega
  | succ n ih =>
    rw [Function.iterate_succ_apply', ih, nextIdAfter]
    split <;> omega

/-- The search gives the first value not held, when one is met in time. -/
theorem findId_first (held : List Nat) (fuel v : Nat) (h : ∃ n, n < fuel ∧ nextIdAfter^[n] v ∉ held) :
    ∃ n, n < fuel ∧ findId held fuel v = nextIdAfter^[n] v ∧ nextIdAfter^[n] v ∉ held ∧
      ∀ m, m < n → nextIdAfter^[m] v ∈ held := by
  induction fuel generalizing v with
  | zero =>
    obtain ⟨n, hn, -⟩ := h
    exact absurd hn (Nat.not_lt_zero n)
  | succ fuel ih =>
    rw [findId]
    by_cases hv : v ∈ held
    · obtain ⟨n, hn, hfree⟩ := h
      cases n with
      | zero => exact absurd hv hfree
      | succ n =>
        obtain ⟨k, hk, he, hnot, hall⟩ := ih (nextIdAfter v) ⟨n, by omega, hfree⟩
        refine ⟨k + 1, by omega, (if_pos hv).trans he, hnot, fun m hm => ?_⟩
        cases m with
        | zero => exact hv
        | succ m => exact hall m (by omega)
    · exact ⟨0, by omega, if_neg hv, hv, nofun⟩

/-- Of more values than are held, counted upward, one is not held. -/
theorem exists_not_held {held : List Nat} {v k : Nat} (h1 : 1 ≤ v) (h2 : v ≤ 65535) (hk : k ≤ 65535)
    (hlen : held.length < k) : ∃ n, n < k ∧ nextIdAfter^[n] v ∉ held := by
  by_contra hall
  push Not at hall
  have hnodup : ((List.range k).map fun n => nextIdAfter^[n] v).Nodup := by
    refine List.Nodup.map_on (fun m hm n hn heq => ?_) List.nodup_range
    rw [iterate_nextIdAfter h1 h2, iterate_nextIdAfter h1 h2] at heq
    rw [List.mem_range] at hm hn
    omega
  have hsub : ((List.range k).map fun n => nextIdAfter^[n] v) ⊆ held := by
    intro w hw
    obtain ⟨n, hn, rfl⟩ := List.mem_map.1 hw
    exact hall n (List.mem_range.1 hn)
  have := (hnodup.subperm hsub).length_le
  rw [List.length_map, List.length_range] at this
  omega

/-- With a FREE entry and the history list within its limit, at most 303 ids are held. -/
theorem length_heldIds {p : Part} {i : Fin 48} (hf : p.entry i = .free)
    (hh : p.history.list.length ≤ Config.historyLimit) : p.heldIds.length ≤ 303 := by
  have hmem : Entry.free ∈ p.assembler.entries.toList := by
    rw [toList_eq_map]
    exact List.mem_map.2 ⟨i, mem_indexes i, hf⟩
  have hlt : (p.assembler.entries.toList.filterMap Entry.core?).length < p.assembler.entries.toList.length :=
    List.length_filterMap_lt_length_iff_exists.2 ⟨.free, hmem, rfl⟩
  have hsize : p.assembler.entries.toList.length = 48 := Vector.length_toList
  simp only [Part.heldIds, List.length_append, List.length_map]
  simp only [Config.historyLimit] at hh
  omega

/-- The allocator gives the first id not held, and one in 1 to 65535 (R92). -/
theorem allocatedId_first {p : Part} {i : Fin 48} (hf : p.entry i = .free)
    (hh : p.history.list.length ≤ Config.historyLimit) (h1 : 1 ≤ p.assembler.nextId)
    (h2 : p.assembler.nextId ≤ 65535) : ∃ n, n < 305 ∧
      p.allocatedId = nextIdAfter^[n] p.assembler.nextId ∧ p.allocatedId ∉ p.heldIds ∧
      (∀ m, m < n → nextIdAfter^[m] p.assembler.nextId ∈ p.heldIds) ∧
      1 ≤ p.allocatedId ∧ p.allocatedId ≤ 65535 := by
  have hlen : p.heldIds.length < 305 := Nat.lt_of_le_of_lt (length_heldIds hf hh) (by omega)
  obtain ⟨n, hn, he, hnot, hall⟩ := findId_first p.heldIds 305 p.assembler.nextId
    (exists_not_held h1 h2 (by omega) hlen)
  have he : p.allocatedId = nextIdAfter^[n] p.assembler.nextId := he
  refine ⟨n, hn, he, he ▸ hnot, hall, ?_⟩
  rw [he, iterate_nextIdAfter h1 h2]
  omega

/-! ### The entry (R94) -/

theorem isOccupied_eq_false {e : Entry} : e.isOccupied = false ↔ e = .free := by
  cases e <;> simp [Entry.isOccupied, Entry.core?]

/-- The lowest-numbered FREE entry is found. -/
theorem lowestFree_eq {p : Part} {i : Fin 48} (hf : p.entry i = .free)
    (hlow : ∀ j, j < i → p.entry j ≠ .free) : p.lowestFree = some i := by
  rw [Part.lowestFree, List.find?_eq_some_iff_getElem]
  refine ⟨by rw [isOccupied_eq_false.2 hf]; rfl, i.val, by simp [indexes], by simp [indexes], fun j hj => ?_⟩
  have hocc : (p.entry ⟨j, hj.trans i.isLt⟩).isOccupied = true :=
    Bool.ne_false_iff.1 (mt isOccupied_eq_false.1 (hlow ⟨j, hj.trans i.isLt⟩ hj))
  simp [indexes, hocc]

/-! ### An admitted touch-down (R93, R94) -/

theorem contactSample_admitted {seat : Fin 72} {p : Part} {s : Sample} {layer : Fin 8} {isPrivate : Bool}
    {i : Fin 48} (src : ErrorSource) (hopen : (p.seat seat).openEntry = none)
    (hlock : (p.seat seat).lockout = none) (he : evaluate p seat s = .ok (layer, isPrivate))
    (hfree : p.lowestFree = some i) :
    contactSample seat s src p =
      placeStroke i (newStroke seat s layer isPrivate (abortWindow seat p)).1
        (newStroke seat s layer isPrivate (abortWindow seat p)).2 (abortWindow seat p) := by
  have ho : ((abortWindow seat p).seat seat).openEntry = none := hopen
  have hl : ((abortWindow seat p).seat seat).lockout = none := hlock
  have hf : (abortWindow seat p).lowestFree = some i := hfree
  simp only [contactSample, ho, hl, touchDown, evaluate_abortWindow, he, beginStroke, hf]

/-- The emptying of the estimator leaves the stored fields, of which a stroke takes its snapshot (R53, R64). -/
theorem newStroke_abortWindow (seat : Fin 72) (s : Sample) (layer : Fin 8) (isPrivate : Bool) (p : Part) :
    newStroke seat s layer isPrivate (abortWindow seat p) = newStroke seat s layer isPrivate p := by
  have hset : ((abortWindow seat p).calibrationSet (p.identity seat).calibrationSet).stored =
      (p.calibrationSet (p.identity seat).calibrationSet).stored := by
    rw [abortWindow, Part.calibrationSet_set, if_pos rfl]
    rfl
  unfold newStroke
  simp only [show (abortWindow seat p).identity seat = p.identity seat from rfl, hset]
  rfl

/-- The part after the begin of a stroke: its blocks are those of the part it was placed in, but for what handing
its BEGIN to the queues changes, and the count of strokes begun. -/
theorem placeStroke_blocks (i : Fin 48) (c : StrokeCore) (a : Assembly) (p : Part) :
    (placeStroke i c a p).assembler.nextId = nextIdAfter c.id ∧
      ((placeStroke i c a p).seat c.seat).openEntry = some i ∧
      ((placeStroke i c a p).layer c.layer).openCount = (p.layer c.layer).openCount + 1 ∧
      (placeStroke i c a p).assembler.counters.begun = min 65535 (p.assembler.counters.begun + 1) := by
  have hstep : InkStep (p.placed i c a)
      (c.dests.toList.foldl (handBegin i c (beginRecord c a)) (p.placed i c a)) :=
    .foldl (handBegin_inkStep i c (beginRecord c a)) _ _
  rw [placeStroke_eq]
  refine ⟨hstep.nextId, ?_, ?_, ?_⟩
  · show Seat.openEntry (look _ c.seat) = _
    rw [Part.countStrokes_seats, hstep.seats]
    exact congrArg Seat.openEntry (look_put_same ..)
  · show Layer.openCount (look _ c.layer) = _
    rw [Part.countStrokes_layers, hstep.layers]
    show ((p.placed i c a).layer c.layer).openCount = _
    rw [Part.placed_layer, if_pos rfl]
  · show bump _ = _
    rw [hstep.counters]
    rfl

/-- The entry that a stroke is placed in, its BEGIN handed to every destination. -/
theorem placeStroke_begunEntry (i : Fin 48) (c : StrokeCore) (a : Assembly) (p : Part) :
    ∃ c', BegunEntry c.dests.toList i c a (p.placed i c a) (placeStroke i c a p) c' := by
  have h : (p.placed i c a).entry i = .opened c a := look_put_same ..
  obtain ⟨c', h'⟩ := handBegins_entry c (beginRecord c a) c.dests.toList (toList_nodup c.dests) h
  exact ⟨c', h'.entry, h'.core, h'.points, h'.suppressed⟩

/-- A stroke that has been placed leaves what the queues and their errors hold. -/
theorem Part.placed_agreesOn (p : Part) (i : Fin 48) (c : StrokeCore) (a : Assembly) (d : Dest) :
    AgreesOn d p (p.placed i c a) := ⟨rfl, rfl, rfl, rfl, fun _ => .rfl⟩

/-- The BEGIN of a stroke that is placed is handed to every destination (R95). -/
theorem placeStroke_handed (i : Fin 48) (c : StrokeCore) (a : Assembly) {p : Part} (h : p.RoomChosen) :
    Handed (fun d => c.dests.has d = true) (fun _ => beginRecord c a) c.serial
      (fun k =>
        { k with counters := { k.counters with beginDiscards := min 65535 (k.counters.beginDiscards + 1) } })
      p (placeStroke i c a p) := by
  have hfold := handed_of_foldl (handBegin_handedTo i c (beginRecord c a)) c.dests.toList
    (toList_nodup c.dests) (p := p.placed i c a) (h.congr rfl rfl rfl rfl)
  rw [placeStroke_eq]
  exact hfold.congr (fun d => (c.dests.mem_toList d).symm) (p.placed_agreesOn i c a) rfl rfl

/-- Settles O21: the id by `allocatedId_first`, the entry by `placeStroke_begunEntry`, the other blocks by
`placeStroke_blocks`, and the queues by `placeStroke_handed`. -/
theorem admittedTouchDownBeginsAStroke : Obligations.AdmittedTouchDownBeginsAStroke := by
  intro p seat s src layer isPrivate i hopen hlock he hfree hlow hids q ident b set cal anchor
  obtain ⟨-, -, -, hid, -, hid1, hid2⟩ := allocatedId_first hfree hids.history hids.next.1 hids.next.2
  obtain ⟨n, hn⟩ : ∃ n, n = newStroke seat s layer isPrivate p := ⟨_, rfl⟩
  have hq : q = placeStroke i n.1 n.2 (abortWindow seat p) := by
    rw [hn, ← newStroke_abortWindow]
    exact contactSample_admitted src hopen hlock he (lowestFree_eq hfree hlow)
  clear_value q
  subst hq
  have hagree : ∀ d, AgreesOn d p ((abortWindow seat p).placed i n.1 n.2) := fun d =>
    ⟨rfl, rfl, rfl, rfl, fun _ => .rfl⟩
  obtain ⟨hnext, hseat, hlayer, hcount⟩ := placeStroke_blocks i n.1 n.2 (abortWindow seat p)
  obtain ⟨c, hc⟩ := placeStroke_begunEntry i n.1 n.2 (abortWindow seat p)
  obtain ⟨lost, hlost⟩ : ∃ b, c.flags.pointsLost = b := ⟨_, rfl⟩
  obtain ⟨sup, hsup⟩ : ∃ t, c.suppressed = t := ⟨_, rfl⟩
  have hcore := hc.core
  rw [hlost, hsup] at hcore
  subst hcore
  subst hn
  refine ⟨_, _, hc.entry, rfl, rfl, rfl, rfl, rfl, rfl, rfl, rfl, rfl, hid, hid1, hid2, hnext, rfl, rfl, rfl,
    rfl, rfl, rfl, rfl, rfl, rfl, rfl, rfl, rfl, rfl, rfl, rfl, fun hr => ?_, hseat, hlayer, hcount,
    fun hroom => ⟨?_, fun d => ?_⟩⟩
  · refine hc.points fun d _ x hx hserial => ?_
    exact Nat.lt_irrefl _ (hr.itemsOlder d x _ hx hserial)
  · have hhanded := placeStroke_handed i (newStroke seat s layer isPrivate p).1
      (newStroke seat s layer isPrivate p).2 (p := abortWindow seat p) (hroom.congr rfl rfl rfl rfl)
    exact hhanded.congr (fun _ => .rfl) (fun d => ⟨rfl, rfl, rfl, rfl, fun _ => .rfl⟩) rfl rfl
  · rw [hc.suppressed (hroom.congr rfl rfl rfl rfl) d, (hagree d).admits, DestSet.mem_toList]
    have hnone : ¬ (newStroke seat s layer isPrivate p).1.suppressed.has d = true := by
      rw [show (newStroke seat s layer isPrivate p).1.suppressed = DestSet.empty from rfl, DestSet.has_empty]
      exact Bool.false_ne_true
    exact or_iff_right hnone

end Sys2Proof.Machine
end

section
/-! SUPPORT. The windows and averages of a stage (R73, R76, R77), and the interleaved point order (R87). -/

namespace Sys2Proof.Machine

/-! ### Averages and windows (R73, R76) -/

/-- An average is the floor of the mean plus one half when the count is even: it differs from the mean by half a
unit at most, and from above by less than that when the count is odd. -/
theorem averageOf_near {l : List Nat} (hne : l ≠ []) :
    2 * l.length * averageOf l ≤ 2 * l.sum + l.length ∧
      2 * l.sum < 2 * l.length * averageOf l + l.length + (if l.length % 2 = 0 then 0 else 1) := by
  have hpos : 0 < l.length := List.length_pos_iff.2 hne
  have hlow : l.length * averageOf l ≤ l.sum + l.length / 2 := Nat.mul_div_le ..
  have hhigh : l.sum + l.length / 2 < l.length * averageOf l + l.length := Nat.lt_mul_div_succ _ hpos
  rw [Nat.mul_assoc]
  split <;> omega

/-- A window that is not full takes the point at its end. -/
theorem enterWindow_of_lt {n : Nat} {w : List XY} (h : w.length < n) (q : XY) :
    enterWindow n w q = w ++ [q] := by
  have hdrop : (w ++ [q]).length - n = 0 := by
    rw [List.length_append, List.length_singleton]
    omega
  rw [enterWindow, hdrop, List.drop_zero]

/-- A full window loses its oldest point. -/
theorem enterWindow_of_full {n : Nat} {w : List XY} (hn : 1 ≤ n) (h : w.length = n) (q : XY) :
    enterWindow n w q = w.tail ++ [q] := by
  cases w with
  | nil => exact absurd h (by rw [List.length_nil]; omega)
  | cons x t =>
    have hdrop : (x :: t ++ [q]).length - n = 1 := by
      rw [List.length_append, List.length_singleton, h]
      omega
    rw [enterWindow, hdrop]
    rfl

/-- Settles O29: the average's span by `averageOf_mem` and its rounding by `averageOf_near`, the window by whether it is
full. -/
theorem averagesRoundToNearestWithinTheWindow : Obligations.AveragesRoundToNearestWithinTheWindow := by
  refine ⟨fun l low high hne h => ?_, fun n w q hn => ⟨fun h => enterWindow_of_lt h q, fun h => ?_⟩,
    fun a q => rfl⟩
  · obtain ⟨hlow, hhigh⟩ := averageOf_mem hne h
    exact ⟨hlow, hhigh, averageOf_near hne⟩
  · refine ⟨enterWindow_of_full hn h q, ?_⟩
    rw [length_enterWindow]
    omega

/-! ### The interleaved order (R87) -/

theorem length_evens {α : Type} (l : List α) : (evens l).length = (l.length + 1) / 2 := by
  induction l using evens.induct with
  | case1 => simp [evens]
  | case2 a => simp [evens]
  | case3 a b rest ih =>
    simp only [evens, List.length_cons, ih]
    omega

/-- The k-th point at an even position stood at 2k. -/
theorem getElem?_evens {α : Type} (l : List α) (k : Nat) : (evens l)[k]? = l[2 * k]? := by
  induction l using evens.induct generalizing k with
  | case1 => rfl
  | case2 a => cases k <;> rfl
  | case3 a b rest ih =>
    cases k with
    | zero => rfl
    | succ k => exact ih k

/-- The k-th point at an odd position stood at 2k + 1. -/
theorem getElem?_odds {α : Type} (l : List α) (k : Nat) : (odds l)[k]? = l[2 * k + 1]? := by
  induction l using odds.induct generalizing k with
  | case1 => rfl
  | case2 a => rfl
  | case3 a b rest ih =>
    cases k with
    | zero => rfl
    | succ k => exact ih k

/-- The interleaved order loses and repeats no point. -/
theorem interleave_perm {α : Type} (l : List α) : (interleave l).Perm l := by
  induction l using evens.induct with
  | case1 => exact .refl _
  | case2 a => exact .refl _
  | case3 a b rest ih => exact .cons a (List.perm_middle.trans (ih.cons b))

/-- Where the k-th point sent stood. -/
theorem getElem?_interleave {α : Type} (l : List α) (k : Nat) :
    (interleave l)[k]? =
      if k < (l.length + 1) / 2 then l[2 * k]? else l[2 * (k - (l.length + 1) / 2) + 1]? := by
  rw [interleave, List.getElem?_append, length_evens, getElem?_evens, getElem?_odds]

/-- Settles O30: the even positions come first (`getElem?_evens`), then the odd ones (`getElem?_odds`). -/
theorem interleavedOrderIsRestored : Obligations.InterleavedOrderIsRestored :=
  fun l => ⟨interleave_perm l, fun k _ => getElem?_interleave l k⟩

end Sys2Proof.Machine
end

section
/-! SUPPORT. The codes and byte layouts of what the part sends (R177 to R179): numbers and sets, ink records, frames of
the room link, notices, and reply bodies as pieces one after the other. -/

namespace Sys2Proof.Machine

/-! ### Codes of fields and sets (R177) -/

/-- A 32-bit field is sent with its most significant byte first. -/
theorem be32_append (a b c d : Byte) : be32 (a ++ b ++ c ++ d) = [a, b, c, d] := by
  have ha : (a ++ b ++ c ++ d).extractLsb' 24 8 = a := by
    rw [BitVec.extractLsb'_append_eq_of_le (by decide), BitVec.extractLsb'_append_eq_of_le (by decide)]
    exact BitVec.extractLsb'_append_eq_left
  have hb : (a ++ b ++ c ++ d).extractLsb' 16 8 = b := by
    rw [BitVec.extractLsb'_append_eq_of_le (by decide), BitVec.extractLsb'_append_eq_of_le (by decide)]
    exact BitVec.extractLsb'_append_eq_right
  have hc : (a ++ b ++ c ++ d).extractLsb' 8 8 = c := by
    rw [BitVec.extractLsb'_append_eq_of_le (by decide)]
    exact BitVec.extractLsb'_append_eq_right
  have hd : (a ++ b ++ c ++ d).extractLsb' 0 8 = d := BitVec.extractLsb'_append_eq_right
  show [(a ++ b ++ c ++ d).extractLsb' 24 8, (a ++ b ++ c ++ d).extractLsb' 16 8,
    (a ++ b ++ c ++ d).extractLsb' 8 8, (a ++ b ++ c ++ d).extractLsb' 0 8] = _
  rw [ha, hb, hc, hd]

theorem getLsbD_layerBit (i k : Fin 8) : (1#8 <<< i.val).getLsbD k.val = decide (k = i) := by
  revert i k
  decide

/-- A layer entered in a set's byte, when it is a member, sets its own bit. -/
theorem getLsbD_enterLayer (member : Bool) (acc : Byte) (i k : Fin 8) :
    (if member then acc ||| (1#8 <<< i.val) else acc).getLsbD k.val =
      (acc.getLsbD k.val || decide (k = i) && member) := by
  cases member
  · simp
  · rw [if_pos rfl, BitVec.getLsbD_or, getLsbD_layerBit, Bool.and_true]

/-- The layers entered in a set's byte one after the other. -/
theorem getLsbD_enterLayers (member : Fin 8 → Bool) (l : List (Fin 8)) (acc : Byte) (k : Fin 8) :
    (l.foldl (fun acc i => if member i then acc ||| (1#8 <<< i.val) else acc) acc).getLsbD k.val =
      (acc.getLsbD k.val || decide (k ∈ l) && member k) := by
  induction l generalizing acc with
  | nil => simp
  | cons i t ih =>
    rw [List.foldl_cons, ih, getLsbD_enterLayer]
    by_cases hk : k = i
    · subst hk
      cases member k <;> simp
    · simp [hk]

/-- A layer set's byte has one bit for each member. -/
theorem LayerSet.getLsbD_code (s : LayerSet) (l : Fin 8) : s.code.getLsbD l.val = s.has l := by
  rw [LayerSet.code, getLsbD_enterLayers]
  simp [mem_indexes, LayerSet.has]

theorem codesStand : CodesStand where
  half := be16_read16
  tick := be32_append
  roles := rfl
  actions := rfl
  defaults := rfl
  lockouts := rfl
  monitor := rfl
  layers := rfl
  orders := rfl
  policies := rfl
  priorities := rfl
  severities := rfl
  ports := rfl
  destSets := fun ⟨a, b, c⟩ => by revert a b c; decide
  roleSets := fun ⟨a, b, c⟩ => by revert a b c; decide
  toolSets := fun ⟨a, b, c, d⟩ => by revert a b c d; decide
  layerSets := LayerSet.getLsbD_code
  tools := rfl
  reasons := rfl
  flags := fun ⟨a, b, c⟩ => by revert a b c; decide
  statuses := rfl
  causes := rfl
  loads := rfl
  origins := rfl
  kinds := rfl

/-! ### Ink records, notices and frames of the room link (R171, R178, R179) -/

/-- The points of a record stand in the order its order field names (R87, R88). -/
theorem sentOrder_sentAs (order : PointOrder) (pts : List Point) :
    SentAs order pts (sentOrder order pts) := by
  cases order with
  | sequential => exact ⟨rfl, fun _ _ => rfl⟩
  | interleaved => exact ⟨(interleave_perm pts).length_eq, fun k _ => getElem?_interleave pts k⟩

theorem length_pointBytes (pts : List Point) : (pts.flatMap Point.bytes).length = 5 * pts.length := by
  have hpoint : (fun q : Point => q.bytes.length) = fun _ => 5 := rfl
  rw [List.length_flatMap, hpoint, List.map_const', List.sum_replicate, smul_eq_mul, Nat.mul_comm]

theorem InkRecord.laidOut_bytes (r : InkRecord) : r.LaidOut r.bytes := by
  cases r with
  | strokeBegin id l seat tool colour isPrivate anchor tick => exact ⟨rfl, rfl⟩
  | strokeEnd id final reason flags count => exact ⟨rfl, rfl⟩
  | retract id l => rfl
  | layer l event => cases event <;> rfl
  | points id order pts =>
    have hsent := sentOrder_sentAs order pts
    refine ⟨?_, sentOrder order pts, hsent, ?_⟩
    · show ([0x12] ++ halfBytes id ++ [order.code, byteOf pts.length] ++ _).length = _
      rw [List.length_append, length_pointBytes, hsent.1]
      rfl
    · cases order <;> rfl

theorem Notice.laidOut_bytes (n : Notice) : n.LaidOut n.bytes := by
  cases n <;> rfl

/-- A frame of the room link is laid out by R178. -/
theorem roomFrame_laidOut (kind channel : Byte) (dest seq : Half) (content : List Byte) :
    RoomLaidOut kind channel dest seq content (roomFrame kind channel dest seq content) := by
  have hframe : roomFrame kind channel dest seq content =
      framed kind channel dest (seq.extractLsb' 8 8) (seq.extractLsb' 0 8) (content.length + 10) content := rfl
  have hlen := length_framed kind channel dest (seq.extractLsb' 8 8) (seq.extractLsb' 0 8)
    (content.length + 10) content
  rw [hframe]
  refine ⟨hlen, ?_, ?_, codeMatches_framed ..⟩
  · rw [take_framed, hlen]
    rfl
  · rw [drop_framed, List.take_left']
    rfl

/-! ### Pieces of a body (R177) -/

theorem Pieces.nil : Pieces [] [] := rfl

/-- A piece, and the pieces after it. -/
theorem Pieces.cons {piece : List Byte → Prop} {rest : List (List Byte → Prop)} {front back : List Byte}
    (h : piece front) (hr : Pieces rest back) : Pieces (piece :: rest) (front ++ back) :=
  ⟨front, back, rfl, h, hr⟩

theorem Pieces.last {piece : List Byte → Prop} {bytes : List Byte} (h : piece bytes) :
    Pieces [piece] bytes := ⟨bytes, [], (List.append_nil _).symm, h, rfl⟩

/-- Items laid out one after the other. -/
theorem Pieces.flatMap {α : Type} {item : α → List Byte → Prop} {encode : α → List Byte}
    (h : ∀ x, item x (encode x)) (l : List α) : Pieces (l.map item) (l.flatMap encode) := by
  induction l with
  | nil => exact .nil
  | cons x t ih => exact .cons (h x) ih

theorem listBytes_laidOut {α : Type} {item : α → List Byte → Prop} {encode : α → List Byte}
    (h : ∀ x, item x (encode x)) (l : List α) : ListLaidOut item l (listBytes encode l) :=
  .cons (front := [byteOf l.length]) rfl (.flatMap h l)

/-- A list whose items have one layout each. -/
theorem listBytes_layout {α : Type} {encode layout : α → List Byte} (h : ∀ x, encode x = layout x)
    (l : List α) : ListLaidOut (fun x b => b = layout x) l (listBytes encode l) :=
  listBytes_laidOut (item := fun x b => b = layout x) h l

/-- The entries of a table laid out one after the other. -/
theorem table_laidOut {α : Type} {n : Nat} {item : α → List Byte → Prop} {encode : α → List Byte}
    (h : ∀ x, item x (encode x)) (v : Vector α n) :
    Pieces ((indexes n).map fun i => item (look v i)) (v.toList.flatMap encode) := by
  rw [toList_eq_map, List.flatMap_map]
  exact .flatMap (fun i => h (look v i)) (indexes n)

theorem optionBytes_laidOut {α : Type} (width : Nat) (encode : α → List Byte) (o : Option α) :
    OptionLaidOut width encode (optionBytes width encode o) o := by
  cases o with
  | some a => rfl
  | none => exact ⟨absentBytes width, by rw [absentBytes, List.length_map, List.length_range], rfl⟩

/-! ### Reply bodies (R169, R177) -/

theorem IdentityEntry.laidOut_bytes (e : IdentityEntry) : e.LaidOut e.bytes := by
  simp only [IdentityEntry.bytes, List.append_assoc]
  exact .cons rfl (.cons (optionBytes_laidOut ..) (.cons (optionBytes_laidOut ..)
    (.cons (optionBytes_laidOut ..) (.last (optionBytes_laidOut ..)))))

theorem Rule.bytes_eq (r : Rule) : r.bytes = ruleLayout r := by
  rw [Rule.bytes, ruleLayout]
  cases r.layerMatch <;> rfl

theorem QueueReport.laidOut_bytes (q : QueueReport) : q.LaidOut q.bytes := by
  have hbytes : q.bytes = (halfBytes q.level ++ halfBytes q.capacity ++ halfBytes q.watermark
      ++ [q.policy.code, flagByte q.atWatermark] ++ be16 q.nextSeq)
      ++ (optionBytes 6 (fun h => be16 h.1 ++ be32 h.2) q.head ++ ([byteOf q.waitingLength]
      ++ (optionBytes 1 (fun i => [byteOf i.val]) q.waitingHead ++ q.counters.bytes))) := by
    simp only [QueueReport.bytes, List.append_assoc]
  rw [hbytes]
  exact .cons rfl (.cons (optionBytes_laidOut ..) (.cons rfl (.cons (optionBytes_laidOut ..) (.last rfl))))

theorem StrokeReport.bytes_eq (r : StrokeReport) : r.bytes = strokeLayout r := by
  rw [StrokeReport.bytes, strokeLayout]
  cases r.ending <;> rfl

theorem SeatReport.laidOut_bytes (s : SeatReport) : s.LaidOut s.bytes := by
  have hbytes : s.bytes = (halfBytes s.accepted ++ halfBytes s.missing)
      ++ (optionBytes 1 (fun l => [Lockout.code l]) s.lockout ++ [flagByte s.hasOpenStroke]) :=
    List.append_assoc ..
  rw [hbytes]
  exact .cons rfl (.cons (optionBytes_laidOut ..) (.last rfl))

theorem LogRecord.laidOut_bytes (l : LogRecord) : l.LaidOut l.bytes := by
  have hbytes : l.bytes = [kindByte l.kind] ++ (optionBytes 1 (fun q => [Port.code q]) l.source.port
      ++ (optionBytes 1 (fun c => [byteOf c]) l.source.channel ++ (optionBytes 2 be16 l.source.address
      ++ (optionBytes 1 (fun s => [byteOf s.val]) l.source.seat
      ++ (be32 l.tick ++ [oneByte l.source.header.length] ++ l.source.header))))) := by
    simp only [LogRecord.bytes, listBytes, List.flatMap_singleton', List.append_assoc]
    rfl
  rw [hbytes]
  exact .cons rfl (.cons (optionBytes_laidOut ..) (.cons (optionBytes_laidOut ..)
    (.cons (optionBytes_laidOut ..) (.cons (optionBytes_laidOut ..) (.last rfl)))))

theorem ErrorsReport.laidOut_bytes (r : ErrorsReport) : r.LaidOut r.bytes := by
  simp only [ErrorsReport.bytes, List.append_assoc]
  refine .cons (table_laidOut (item := fun x b => b = [yesByte x.status, yesByte x.mask, x.severity.code]
    ++ twoBytes x.counter) (fun _ => rfl) r.items) (.cons ?_ (.cons ?_ (.last ?_)))
  · cases r.alertLow <;> rfl
  · cases r.log with
    | none => rfl
    | some l => exact ⟨l.bytes, rfl, l.laidOut_bytes⟩
  · cases r.save <;> rfl

theorem QueuesReport.laidOut_bytes (r : QueuesReport) : (ReplyBody.queues r).LaidOut r.bytes := by
  simp only [QueuesReport.bytes, List.append_assoc]
  refine .cons r.display.laidOut_bytes (.cons r.fanout.laidOut_bytes (.cons r.record.laidOut_bytes
    (.cons rfl (.cons ?_ (.last rfl)))))
  cases r.offer with
  | none => exact ⟨_, rfl⟩
  | reply => rfl
  | fanout => rfl

theorem CountersReport.laidOut_bytes (r : CountersReport) : (ReplyBody.counters r).LaidOut r.bytes := by
  refine .cons ?_ (.last (listBytes_laidOut SeatReport.laidOut_bytes r.seats))
  simp only [LinkCounters.bytes, RefusalCounters.bytes, StrokeCounters.bytes, linkLayout, List.append_assoc]
  rfl

theorem LayerReport.laidOut_bytes (rows : Vector LayerReport 8) :
    (ReplyBody.layers rows).LaidOut (ReplyBody.layers rows).bytes :=
  table_laidOut (item := fun (x : LayerReport) b => b = [x.state.code] ++ modeLayout x.mode ++ [oneByte x.openCount,
    oneByte x.endingCount, yesByte x.congested, x.atWatermark.code]) (fun _ => rfl) rows

theorem StrokesReport.laidOut_bytes (r : StrokesReport) :
    (ReplyBody.strokes r).LaidOut (ReplyBody.strokes r).bytes := by
  have hbytes : (ReplyBody.strokes r).bytes = ([byteOf r.occupied, byteOf r.roomOccupied]
      ++ halfBytes r.nextId) ++ (listBytes StrokeReport.bytes r.entries
      ++ optionBytes 1 (fun i => [byteOf i.val]) r.resume) := List.append_assoc ..
  rw [hbytes]
  exact .cons rfl (.cons (listBytes_layout StrokeReport.bytes_eq _) (.last (optionBytes_laidOut ..)))

theorem widthBytes_laidOut (w : Vector Nat 16) :
    (widthBytes w).length = 16 ∧ ∀ i : Fin 16, (widthBytes w)[i.val]? = some (oneByte (look w i)) := by
  refine ⟨by rw [widthBytes, List.length_map, Vector.length_toList], fun i => ?_⟩
  simp [widthBytes, look, Vector.get_eq_getElem, oneByte, byteOf]

/-- A reply's body has its owning rule's fields in order, each by R177. -/
theorem ReplyBody.laidOut_bytes (body : ReplyBody) : body.LaidOut body.bytes := by
  cases body with
  | identity e => exact e.laidOut_bytes
  | rule r => exact r.bytes_eq
  | ruleRead r d n => exact congrArg (· ++ _) r.bytes_eq
  | calibration s e => exact .cons rfl (.last (optionBytes_laidOut ..))
  | calibrationRead s e count window =>
    simp only [ReplyBody.bytes, List.append_assoc]
    exact .cons rfl (.cons (optionBytes_laidOut ..) (.last rfl))
  | setList l => exact listBytes_layout (fun _ => rfl) l
  | widthTable w => exact widthBytes_laidOut w
  | layers rows => exact LayerReport.laidOut_bytes rows
  | queues r => exact r.laidOut_bytes
  | strokes r => exact r.laidOut_bytes
  | counters r => exact r.laidOut_bytes
  | history l n u =>
    simp only [ReplyBody.bytes, List.append_assoc]
    exact .cons (listBytes_layout (fun _ => rfl) l) (.last rfl)
  | errors r => exact r.laidOut_bytes
  | kindList l => exact listBytes_layout (fun _ => rfl) l
  | empty | defaultAction | page | skip | cancelled | monitor | timing | canvas | layerMode | layerState
  | absentLayer | layerRoom | layerEnded | layerCleared | queueSettings | priority | flushed | undone
  | lacking | errorMask | errorSeverity => rfl

end Sys2Proof.Machine
end

section
/-! SUPPORT. The room egress (R149 to R152): the choice between two heads, the bridge's signal, and an acceptance. -/

namespace Sys2Proof.Machine

/-! ### The choice (R150) -/

theorem choice_replies_only {p : Part} (hr : p.agent.replies ≠ []) (hf : p.queues.fanout.items = []) :
    p.choice = .reply := by
  obtain ⟨r, rs, h⟩ := List.exists_cons_of_ne_nil hr
  simp only [Part.choice, h, hf]

theorem choice_fanout_only {p : Part} (hr : p.agent.replies = []) (hf : p.queues.fanout.items ≠ []) :
    p.choice = .fanout := by
  obtain ⟨f, fs, h⟩ := List.exists_cons_of_ne_nil hf
  simp only [Part.choice, hr, h]

/-- Between two heads the priority mode decides, and between ages the fan-out head must be the older. -/
theorem choice_both {p : Part} {r : ReplyItem} {rs : List ReplyItem} {f : QueueItem} {fs : List QueueItem}
    (hr : p.agent.replies = r :: rs) (hf : p.queues.fanout.items = f :: fs) :
    p.choice =
      if p.egress.priority = .oldestFirst ∧ (p.tick - r.tick).toNat < (p.tick - f.tick).toNat then .fanout
      else .reply := by
  simp only [Part.choice, hr, hf]
  cases p.egress.priority with
  | replyFirst => exact (if_neg fun ⟨h, _⟩ => nomatch h).symm
  | oldestFirst => exact if_congr (by simp [age]) rfl rfl

/-! ### What follows an event at the room egress (R146, R148, R150) -/

/-- The display and record egress have nothing to send: what follows an event is the room egress choice. -/
theorem settle_roomChoose {p : Part} (hd : p.queues.display.items ≠ [] → 1 ≤ p.egress.credit →
      p.egress.displayBusy = true)
    (hr : p.queues.record.items ≠ [] → p.egress.recorderReady = true → p.egress.recordBusy = true) :
    settle p = if p.inReset = true then p else roomChoose p := by
  have hdisplay : displayPump p = p := by
    apply displayPump_self
    by_contra hn
    obtain ⟨hi, hc, hb⟩ := not_or.1 hn |>.imp_right not_or.1
    exact hb (hd hi (Nat.one_le_iff_ne_zero.2 hc))
  have hrecord : recordPump p = p := by
    apply recordPump_self
    by_contra hn
    obtain ⟨hi, hy, hb⟩ := not_or.1 hn |>.imp_right not_or.1
    exact hb (hr hi (Bool.not_eq_false _ ▸ hy))
  rw [settle, hdisplay, hrecord]

/-- A part that differs from a settled one at the room egress and in what it sends alone is left the choice to
make. -/
theorem Part.Settled.roomChoose {p q : Part} (h : p.Settled) (hphase : q.phase = p.phase)
    (hd : q.queues.display = p.queues.display) (hr : q.queues.record = p.queues.record)
    (he : q.egress = { p.egress with bridgeReady := q.egress.bridgeReady, offer := q.egress.offer }) :
    settle q = if p.inReset = true then q else Sys2Proof.Machine.roomChoose q := by
  have hreset : q.inReset = p.inReset := by rw [Part.inReset, hphase]; rfl
  rw [← hreset]
  by_cases hin : q.inReset = true
  · rw [if_pos hin, settle, if_pos hin]
  · rw [settle_roomChoose]
    · rw [hd, he]
      exact h.display (by rw [← hreset]; simpa using hin)
    · rw [hr, he]
      exact h.record (by rw [← hreset]; simpa using hin)

/-! ### The bridge's signal (R151) -/

theorem exec_bridgeReadyChange {p q : Part} {ready : Bool} (h : settle (setBridgeReady ready p) = q)
    (rest : List Instr) : exec (.bridgeReadyChange ready) ⟨p, rest⟩ = .next ⟨q, rest⟩ := by
  rw [← h]
  rfl

/-- The signal falling withdraws the offer. -/
theorem exec_bridgeReady_falls {p : Part} (h : p.Settled) (rest : List Instr) :
    exec (.bridgeReadyChange false) ⟨p, rest⟩ = .next ⟨
      { p with egress := { p.egress with bridgeReady := false, offer := .none } }, rest⟩ := by
  refine exec_bridgeReadyChange ?_ rest
  rw [h.roomChoose (q := setBridgeReady false p) rfl rfl rfl rfl]
  split
  · rfl
  · exact roomChoose_self nofun

/-- The signal rising makes a choice where nothing is under offer, outside a reset (log entry 9). -/
theorem exec_bridgeReady_rises {p : Part} (h : p.Settled) (rest : List Instr) :
    exec (.bridgeReadyChange true) ⟨p, rest⟩ = .next ⟨
      { p with
        egress :=
          { p.egress with
            bridgeReady := true
            offer :=
              if p.egress.offer = .none ∧ p.inReset = false then p.choice else p.egress.offer } }, rest⟩ := by
  refine exec_bridgeReadyChange ?_ rest
  rw [h.roomChoose (q := setBridgeReady true p) rfl rfl rfl rfl]
  cases hin : p.inReset with
  | true => simp [setBridgeReady]
  | false =>
    have hchoice : (setBridgeReady true p).choice = p.choice := choice_congr rfl rfl rfl rfl
    rw [if_neg Bool.false_ne_true, roomChoose_eq]
    simp only [hchoice, setBridgeReady_egress_offer, setBridgeReady_egress_bridgeReady, and_true, if_true]
    rfl

/-! ### An acceptance (R151, R152) -/

/-- An acceptance leaves nothing under offer, and the choice made then stands. -/
theorem exec_bridgeAccept {p q : Part} (hin : p.inReset = false) (h : p.Settled) (hphase : q.phase = p.phase)
    (hd : q.queues.display = p.queues.display) (hr : q.queues.record = p.queues.record)
    (he : q.egress = { p.egress with offer := .none }) (hb : p.egress.bridgeReady = true)
    (haccept : bridgeAccept p = roomChoose q) (rest : List Instr) :
    exec .bridgeAccept ⟨p, rest⟩ =
      .next ⟨{ q with egress := { q.egress with offer := q.choice } }, rest⟩ := by
  have hchosen : roomChoose q = { q with egress := { q.egress with offer := q.choice } } :=
    if_pos ⟨by rw [he], by rw [he]; exact hb⟩
  have hsettle : settle (roomChoose q) = roomChoose q := by
    rw [h.roomChoose (q := roomChoose q) ((roomChoose_phase q).trans hphase)
      (by rw [roomChoose_queues, hd]) (by rw [roomChoose_queues, hr]) (by rw [hchosen, he]), roomChoose_idem,
      ite_self]
  show event bridgeAccept ⟨p, rest⟩ = _
  rw [event_next rest hin, haccept, hsettle, hchosen]

/-- The departure of the fan-out head, with no END waiting on the queue (R140). -/
theorem depart_fanout {p : Part} {head : QueueItem} {tail : List QueueItem}
    (hi : p.queues.fanout.items = head :: tail) (hw : p.queues.fanout.waiting = []) :
    (depart .fanout .room fanoutFrame p).setOffer .none = fanoutSent head tail p := by
  simp [depart, serveWaiting, Part.queue, Queues.get, Part.setQueue, Queues.set, Part.countQueue, hi, hw, send,
    fanoutSent, bump, satAdd, Config.counterMax, Part.setOffer]

/-- Settles O36: the choice by its lemmas, the bridge's signal and the acceptance by what is left to settle, the bytes
by the layout lemmas. -/
theorem bridgeTakesTheFrameUnderOffer : Obligations.BridgeTakesTheFrameUnderOffer := by
  intro p rest
  refine ⟨fun hr hf => (choice_none_iff p).2 ⟨hr, hf⟩, choice_replies_only, choice_fanout_only,
    fun r rs f fs => choice_both, fun h => ⟨exec_bridgeReady_falls h rest, exec_bridgeReady_rises h rest⟩,
    fun hin h hb => ⟨fun head tail ho hr => ?_, fun head tail ho hi hw => ?_⟩, codesStand,
    InkRecord.laidOut_bytes, Notice.laidOut_bytes, ReplyBody.laidOut_bytes, fun item => ?_,
    fun dest kind tag status body seq tick => ?_, fun n seq tick => ?_⟩
  · refine exec_bridgeAccept hin h (q := { p with
      agent := { p.agent with replies := tail }
      egress := { p.egress with offer := .none }
      sent := p.sent ++ [⟨.room, head.bytes⟩] }) rfl rfl rfl rfl hb ?_ rest
    simp only [bridgeAccept, ho, acceptReply, hr]
    rfl
  · refine exec_bridgeAccept hin h (q := fanoutSent head tail p) rfl rfl rfl rfl hb ?_ rest
    simp only [bridgeAccept, ho, depart_fanout hi hw]
  · exact roomFrame_laidOut ..
  · exact roomFrame_laidOut ..
  · exact roomFrame_laidOut ..

end Sys2Proof.Machine
end

section
/-! SUPPORT. The POINTS and the END of a stroke handed to several queues (R81, R103, R135 to R139): what each hand makes
of its queue and of the stroke's entry, and what they make together. -/

namespace Sys2Proof.Machine

/-! ### Entries whose stroke may have lost points (R106, R137) -/

/-- A stroke's shared fields stand, or the stroke has gained POINTS_LOST. -/
def StrokeCore.MayLose (c d : StrokeCore) : Prop := d = c ∨ d = c.losePoints

/-- An entry stands, or its stroke has gained POINTS_LOST. -/
def Entry.MayLose (x y : Entry) : Prop := y = x ∨ y = x.mapCore StrokeCore.losePoints

theorem StrokeCore.MayLose.trans {c d e : StrokeCore} (h1 : c.MayLose d) (h2 : d.MayLose e) : c.MayLose e := by
  rcases h1 with rfl | rfl
  · exact h2
  · rcases h2 with rfl | rfl
    · exact .inr rfl
    · exact .inr rfl

theorem StrokeCore.MayLose.flags {c d : StrokeCore} (h : c.MayLose d) :
    d = { c with flags := { c.flags with pointsLost := d.flags.pointsLost } } := by
  rcases h with rfl | rfl <;> rfl

/-- POINTS_LOST, once set, stays. -/
theorem StrokeCore.MayLose.stays {c d : StrokeCore} (h : c.MayLose d) (hc : c.flags.pointsLost = true) :
    d.flags.pointsLost = true := by
  rcases h with rfl | rfl
  · exact hc
  · rfl

theorem Entry.MayLose.refl (x : Entry) : x.MayLose x := .inl rfl

theorem Entry.MayLose.trans {x y z : Entry} (h1 : x.MayLose y) (h2 : y.MayLose z) : x.MayLose z := by
  rcases h1 with rfl | rfl
  · exact h2
  · rcases h2 with rfl | rfl
    · exact .inr rfl
    · cases x <;> exact .inr rfl

theorem Entry.MayLose.losePointsOf (serial : Option Nat) (x : Entry) : x.MayLose (x.losePointsOf serial) := by
  cases x with
  | free => exact .inl rfl
  | opened c a => by_cases h : some c.serial = serial <;> simp [MayLose, Entry.losePointsOf, mapCore, h]
  | ending c e => by_cases h : some c.serial = serial <;> simp [MayLose, Entry.losePointsOf, mapCore, h]

theorem Entry.MayLose.opened {c : StrokeCore} {a : Assembly} {y : Entry}
    (h : (Entry.opened c a).MayLose y) : ∃ c', y = .opened c' a ∧ c.MayLose c' := by
  rcases h with rfl | rfl
  · exact ⟨c, rfl, .inl rfl⟩
  · exact ⟨c.losePoints, rfl, .inr rfl⟩

theorem Entry.MayLose.ending {c : StrokeCore} {e : Ending} {y : Entry}
    (h : (Entry.ending c e).MayLose y) : ∃ c', y = .ending c' e ∧ c.MayLose c' := by
  rcases h with rfl | rfl
  · exact ⟨c, rfl, .inl rfl⟩
  · exact ⟨c.losePoints, rfl, .inr rfl⟩

/-! ### One hand of a record (R136, R137) -/

/-- The two outcomes of handing a record to a queue: a queue that admits it takes it, a stroke losing points only
where there was no room; any other queue does not, and nothing changes. -/
theorem handInk_outcome (d : Dest) (r : InkRecord) (serial : Nat) (seat : Fin 72) (p : Part) :
    (p.admits d ∧ ∃ q, handInk d r serial seat p = (true, q) ∧
      (∀ turned, HandedTo d r serial turned p q) ∧ (∀ j, (p.entry j).MayLose (q.entry j)) ∧
      (p.hasRoom d = true → ∀ j, q.entry j = p.entry j)) ∨
    (¬ p.admits d ∧ handInk d r serial seat p = (false, p)) := by
  have hadmits := handInk_takes d r serial seat p
  rcases handInk_cases d r serial seat p with ⟨hr, h⟩ | ⟨hr, hp, x, rest, he, h⟩ | ⟨-, -, h⟩
  · have hsame := joinInk_entry d r (some serial) p
    exact .inl ⟨.inl hr, _, h, handedTo_of_room hr r serial, fun j => .inl (hsame j), fun _ => hsame⟩
  · refine .inl ⟨hadmits.1 (by rw [h]), _, h, handedTo_of_drop hr hp he r serial seat, fun j => ?_,
      fun hroom => absurd hroom (by rw [hr]; exact Bool.false_ne_true)⟩
    rw [joinInk_entry, dropOldest_entry]
    exact .losePointsOf x.serial (p.entry j)
  · exact .inr ⟨fun ha => Bool.false_ne_true (by rw [← hadmits.2 ha, h]), h⟩

theorem raiseOverflow_entry (d : Dest) (seat : Fin 72) (p : Part) (j : Fin 48) :
    (raiseOverflow d seat p).entry j = p.entry j := by
  obtain ⟨a, o, e, h, -⟩ := raise_frame (overflowKind d) ⟨some (portOf d), none, none, some seat, []⟩ p
  rw [raiseOverflow, h]
  rfl

/-- A queue that does not take a record, and what has been noted of that before it raises its error. -/
theorem handedTo_of_raise {d : Dest} {p q : Part} {turned : InkQueue → InkQueue} (h : ¬ p.admits d)
    (r : InkRecord) (serial : Nat) (seat : Fin 72) (hd : q.queue d = turned (p.queue d))
    (hothers : ∀ e, e ≠ d → q.queue e = p.queue e) (herrors : q.errors = p.errors)
    (hheld : q.queues.held = p.queues.held) (htick : q.tick = p.tick) (hkeep : KeepsOffer p q) :
    HandedTo d r serial turned p (raiseOverflow d seat q) := by
  have hroom : ¬ p.hasRoom d = true := fun hr => h (.inl hr)
  have hraise := raise_inkStep (overflowKind d) ⟨some (portOf d), none, none, some seat, []⟩ q
  have hoffer : KeepsOffer p (raiseOverflow d seat q) := hkeep.trans (.raise _ _ _)
  refine ⟨fun ha => absurd ha h, fun _ => (raiseOverflow_queue ..).trans hd,
    fun e he => (raiseOverflow_queue ..).trans (hothers e he), ?_, fun e he => ?_, hraise.held.trans hheld,
    hraise.tick.trans htick, hoffer.chosen, fun _ => hoffer⟩
  · rw [raiseOverflow_items, if_pos rfl, if_neg hroom, herrors]
  · rw [raiseOverflow_items, if_neg he, herrors]

/-- Where the queues were, they are after a change of the stroke table. -/
theorem HandedTo.withAssembler {d : Dest} {r : InkRecord} {serial : Nat} {turned : InkQueue → InkQueue}
    {p q : Part} (h : HandedTo d r serial turned p q) (b : Assembler) :
    HandedTo d r serial turned p { q with assembler := b } :=
  ⟨fun ha => ⟨(h.joins ha).fits, (h.joins ha).replaces⟩, h.turns, h.others, h.raised, h.quiet, h.held, h.tick,
    h.chosen, fun hd => ⟨(h.offer hd).chosen, (h.offer hd).fanout⟩⟩

/-- No queue's level falls when a record is handed out. -/
theorem HandedTo.level_le {d : Dest} {r : InkRecord} {serial : Nat} {turned : InkQueue → InkQueue} {p q : Part}
    (h : HandedTo d r serial turned p q) (ht : ∀ k, (turned k).items = k.items) (e : Dest) :
    p.level e ≤ q.level e := by
  unfold Part.level
  by_cases he : e = d
  · subst he
    by_cases ha : p.admits e
    · obtain ⟨hfits, hreplaces⟩ := h.joins ha
      cases hroom : p.hasRoom e with
      | true =>
        rw [hfits hroom, List.length_append]
        exact Nat.le_add_right ..
      | false =>
        obtain ⟨before, gone, after, hitems, -, -, hq⟩ := hreplaces hroom
        rw [hq, hitems]
        simp only [List.length_append, List.length_cons, List.length_nil]
        omega
    · rw [h.turns ha, ht]
  · rw [h.others e he]

/-! ### POINTS handed out (R81, R106, R138) -/

/-- A queue that has turned points away (R138, R139). -/
def InkQueue.discardPoints (k : InkQueue) : InkQueue :=
  { k with counters := { k.counters with pointsDiscards := min 65535 (k.counters.pointsDiscards + 1) } }

theorem handPoints_handedTo (i : Fin 48) (c : StrokeCore) (order : PointOrder) (pts : List Point) (p : Part)
    (d : Dest) :
    HandedTo d (.points c.id (orderFor order d) pts) c.serial InkQueue.discardPoints p
      (handPoints i c order pts p d) := by
  rcases handInk_outcome d (.points c.id (orderFor order d) pts) c.serial c.seat p with
    ⟨-, q, h, hto, -⟩ | ⟨hn, h⟩
  · simp only [handPoints, h]
    exact hto _
  · simp only [handPoints, h]
    exact handedTo_of_turn hn _ c.serial i c.seat StrokeCore.losePoints
      fun k => { k with pointsDiscards := bump k.pointsDiscards }

theorem handPoints_mayLose (i : Fin 48) (c : StrokeCore) (order : PointOrder) (pts : List Point) (p : Part)
    (d : Dest) (j : Fin 48) : (p.entry j).MayLose ((handPoints i c order pts p d).entry j) := by
  rcases handInk_outcome d (.points c.id (orderFor order d) pts) c.serial c.seat p with
    ⟨-, q, h, -, hlose, -⟩ | ⟨-, h⟩
  · simp only [handPoints, h]
    exact hlose j
  · simp only [handPoints, h]
    rw [raiseOverflow_entry, Part.countQueue, Part.entry_setQueue, Part.updateEntry, Part.entry_setEntry]
    split
    · next hj => rw [hj]; exact .inr rfl
    · exact .inl rfl

/-- A queue that turns the points away gives the stroke POINTS_LOST. -/
theorem handPoints_lost {i : Fin 48} {c : StrokeCore} {a : Assembly} {p : Part} {d : Dest} (c0 : StrokeCore)
    (order : PointOrder) (pts : List Point) (h : p.entry i = .opened c a) (hn : ¬ p.admits d) :
    (handPoints i c0 order pts p d).entry i = .opened c.losePoints a := by
  rcases handInk_outcome d (.points c0.id (orderFor order d) pts) c0.serial c0.seat p with
    ⟨ha, -⟩ | ⟨-, hh⟩
  · exact absurd ha hn
  · simp only [handPoints, hh]
    rw [raiseOverflow_entry, Part.countQueue, Part.entry_setQueue, Part.updateEntry, Part.entry_setEntry_same, h]
    rfl

/-- A queue with room for the points changes no entry. -/
theorem handPoints_kept {p : Part} {d : Dest} (i : Fin 48) (c : StrokeCore) (order : PointOrder)
    (pts : List Point) (hr : p.hasRoom d = true) (j : Fin 48) :
    (handPoints i c order pts p d).entry j = p.entry j := by
  rcases handInk_outcome d (.points c.id (orderFor order d) pts) c.serial c.seat p with
    ⟨-, q, h, -, -, hkept⟩ | ⟨hn, -⟩
  · simp only [handPoints, h]
    exact hkept hr j
  · exact absurd (.inl hr) hn

/-- The entry of an OPEN stroke whose points have been handed to some destinations. -/
structure PointsHanded (l : List Dest) (i : Fin 48) (c : StrokeCore) (a : Assembly) (p q : Part)
    (c' : StrokeCore) : Prop where
  entry : q.entry i = .opened c' a
  core : c.MayLose c'
  lost : p.RoomChosen → (∃ d ∈ l, ¬ p.admits d) → c'.flags.pointsLost = true
  kept : p.RoomChosen → (∀ d ∈ l, p.hasRoom d = true) → c' = c

/-- The hands of the points, one after the other. -/
theorem handPoints_foldl {i : Fin 48} {a : Assembly} (c0 : StrokeCore) (order : PointOrder) (pts : List Point)
    (l : List Dest) (hl : l.Nodup) {c : StrokeCore} {p : Part} (h : p.entry i = .opened c a) :
    ∃ c', PointsHanded l i c a p (l.foldl (handPoints i c0 order pts) p) c' := by
  induction l generalizing c p with
  | nil => exact ⟨c, h, .inl rfl, fun _ ⟨_, hd, _⟩ => absurd hd List.not_mem_nil, fun _ _ => rfl⟩
  | cons d t ih =>
    obtain ⟨hdt, ht⟩ := List.nodup_cons.1 hl
    have hto := handPoints_handedTo i c0 order pts p d
    have hfirst := handPoints_mayLose i c0 order pts p d i
    rw [h] at hfirst
    obtain ⟨c1, h1, hc1⟩ := hfirst.opened
    obtain ⟨c2, h2⟩ := ih ht h1
    have hagree : p.RoomChosen → ∀ e ∈ t, AgreesOn e p (handPoints i c0 order pts p d) := fun hc e he =>
      hto.agreesOn (fun hd => hdt (hd ▸ he)) hc
    refine ⟨c2, h2.entry, hc1.trans h2.core, fun hc ⟨e, he, hn⟩ => ?_, fun hc hroom => ?_⟩
    · rcases List.mem_cons.1 he with rfl | he
      · have hlost := handPoints_lost c0 order pts h hn
        rw [h1] at hlost
        cases hlost
        exact h2.core.stays rfl
      · exact h2.lost (hto.chosen hc) ⟨e, he, mt (hagree hc e he).admits.1 hn⟩
    · have hkept := handPoints_kept i c0 order pts (hroom d List.mem_cons_self) i
      rw [h1, h] at hkept
      cases hkept
      exact h2.kept (hto.chosen hc) fun e he =>
        (hagree hc e he).hasRoom.trans (hroom e (List.mem_cons_of_mem d he))

/-! ### The END handed out (R103, R106, R138) -/

theorem updateEnding_eq (p : Part) (i : Fin 48) (f : Ending → Ending) :
    p.updateEnding i f = { p with assembler := (p.updateEnding i f).assembler } := by
  unfold Part.updateEnding
  cases p.entry i <;> rfl

theorem entry_updateEnding {p : Part} {i : Fin 48} {c : StrokeCore} {e : Ending} (h : p.entry i = .ending c e)
    (f : Ending → Ending) : (p.updateEnding i f).entry i = .ending c (f e) := by
  unfold Part.updateEnding
  rw [h]
  exact Part.entry_setEntry_same ..

theorem entry_updateEnding_other {i j : Fin 48} (p : Part) (f : Ending → Ending) (hj : j ≠ i) :
    (p.updateEnding i f).entry j = p.entry j := by
  unfold Part.updateEnding
  split
  · exact Part.entry_setEntry_other _ _ hj
  · rfl

/-- The part in which an END has been set to wait on a queue, before the queue raises its error (R103, R139). -/
def Part.endWaits (p : Part) (i : Fin 48) (d : Dest) : Part :=
  let p2 := p.updateEnding i fun e => { e with waitsOn := e.waitsOn.insert d }
  let p3 := p2.setQueue d { p2.queue d with waiting := (p2.queue d).waiting ++ [i] }
  p3.countQueue d fun k => { k with endWaits := bump k.endWaits }

/-- A queue on which the END of an entry waits (R103, R139). -/
def InkQueue.awaitEnd (i : Fin 48) (k : InkQueue) : InkQueue :=
  { k with
    waiting := k.waiting ++ [i]
    counters := { k.counters with endWaits := min 65535 (k.counters.endWaits + 1) } }

theorem handEnd_handedTo (i : Fin 48) (c : StrokeCore) (r : InkRecord) (p : Part) (d : Dest) :
    HandedTo d r c.serial (InkQueue.awaitEnd i) p (handEnd i c r p d) := by
  rcases handInk_outcome d r c.serial c.seat p with ⟨-, q, h, hto, -⟩ | ⟨hn, h⟩
  · simp only [handEnd, h]
    rw [updateEnding_eq]
    exact (hto _).withAssembler _
  · simp only [handEnd, h]
    refine handedTo_of_raise (q := p.endWaits i d) hn r c.serial c.seat ?_ (fun e he => ?_) ?_ ?_ ?_ ?_
    all_goals rw [Part.endWaits, updateEnding_eq]
    · simp only [Part.countQueue, Part.queue_setQueue_same]
      rfl
    · rw [Part.countQueue, Part.queue_setQueue_other _ _ he, Part.queue_setQueue_other _ _ he]
      rfl
    · rfl
    · exact (Queues.held_set ..).trans (Queues.held_set ..)
    · rfl
    · cases d <;> exact .of_blocks rfl rfl rfl

/-- Other entries stand while an END is handed out, or their strokes lose points. -/
theorem handEnd_mayLose {i j : Fin 48} (c : StrokeCore) (r : InkRecord) (p : Part) (d : Dest) (hj : j ≠ i) :
    (p.entry j).MayLose ((handEnd i c r p d).entry j) := by
  rcases handInk_outcome d r c.serial c.seat p with ⟨-, q, h, -, hlose, -⟩ | ⟨-, h⟩
  · simp only [handEnd, h]
    rw [entry_updateEnding_other _ _ hj]
    exact hlose j
  · simp only [handEnd, h]
    rw [raiseOverflow_entry]
    exact .inl (entry_updateEnding_other _ _ hj)

/-- The entry of a stroke whose END has been handed to some destinations: delivered where it was taken, waiting
where it was not. -/
structure EndHanded (l : List Dest) (i : Fin 48) (c : StrokeCore) (e : Ending) (p q : Part) (c' : StrokeCore)
    (e' : Ending) : Prop where
  entry : q.entry i = .ending c' e'
  core : c.MayLose c'
  kept : p.RoomChosen → (∀ d ∈ l, p.hasRoom d = true) → c' = c
  ending : e' = { e with waitsOn := e'.waitsOn, delivered := e'.delivered }
  waits : p.RoomChosen → ∀ d, e'.waitsOn.has d = true ↔ e.waitsOn.has d = true ∨ d ∈ l ∧ ¬ p.admits d
  delivered : p.RoomChosen → ∀ d, e'.delivered.has d = true ↔ e.delivered.has d = true ∨ d ∈ l ∧ p.admits d

theorem has_insert_iff (s : DestSet) (d x : Dest) {P : Dest → Prop} (hd : P d) :
    (s.insert d).has x = true ↔ s.has x = true ∨ x ∈ [d] ∧ P x := by
  rw [DestSet.has_insert, Bool.or_eq_true, decide_eq_true_eq, List.mem_singleton, or_comm]
  exact or_congr_right ⟨fun hx => ⟨hx, hx ▸ hd⟩, And.left⟩

theorem has_iff_of_not (s : DestSet) (d x : Dest) {P : Dest → Prop} (hd : ¬ P d) :
    s.has x = true ↔ s.has x = true ∨ x ∈ [d] ∧ P x :=
  (or_iff_left fun ⟨hx, hp⟩ => hd (List.mem_singleton.1 hx ▸ hp)).symm

/-- One hand of an END. -/
theorem handEnd_entry {i : Fin 48} {c : StrokeCore} {e : Ending} {p : Part} (c0 : StrokeCore) (r : InkRecord)
    (d : Dest) (h : p.entry i = .ending c e) :
    ∃ c' e', EndHanded [d] i c e p (handEnd i c0 r p d) c' e' := by
  rcases handInk_outcome d r c0.serial c0.seat p with ⟨ha, q, hh, -, hlose, hkept⟩ | ⟨hn, hh⟩
  · have hlose := hlose i
    rw [h] at hlose
    obtain ⟨c', hc', hl⟩ := hlose.ending
    refine ⟨c', { e with delivered := e.delivered.insert d }, ?_, hl, fun _ hr => ?_, rfl,
      fun _ x => has_iff_of_not _ d x (P := fun x => ¬ p.admits x) (not_not_intro ha),
      fun _ x => has_insert_iff _ d x ha⟩
    · simp only [handEnd, hh]
      exact entry_updateEnding hc' _
    · have hsame := hkept (hr d List.mem_cons_self) i
      rw [hc', h] at hsame
      cases hsame
      rfl
  · refine ⟨c, { e with waitsOn := e.waitsOn.insert d }, ?_, .inl rfl, fun _ _ => rfl, rfl,
      fun _ x => has_insert_iff _ d x (P := fun x => ¬ p.admits x) hn, fun _ x => has_iff_of_not _ d x hn⟩
    simp only [handEnd, hh]
    rw [raiseOverflow_entry]
    exact entry_updateEnding h _

/-- The hands of an END, one after the other. -/
theorem handEnd_foldl {i : Fin 48} (c0 : StrokeCore) (r : InkRecord) (l : List Dest) (hl : l.Nodup)
    {c : StrokeCore} {e : Ending} {p : Part} (h : p.entry i = .ending c e) :
    ∃ c' e', EndHanded l i c e p (l.foldl (handEnd i c0 r) p) c' e' := by
  induction l generalizing c e p with
  | nil => exact ⟨c, e, h, .inl rfl, fun _ _ => rfl, rfl, fun _ d => by simp, fun _ d => by simp⟩
  | cons d t ih =>
    obtain ⟨hdt, ht⟩ := List.nodup_cons.1 hl
    have hto := handEnd_handedTo i c0 r p d
    obtain ⟨c1, e1, h1⟩ := handEnd_entry c0 r d h
    obtain ⟨c2, e2, h2⟩ := ih ht h1.entry
    have hagree : p.RoomChosen → ∀ x ∈ t, AgreesOn x p (handEnd i c0 r p d) := fun hc x hx =>
      hto.agreesOn (fun hd => hdt (hd ▸ hx)) hc
    refine ⟨c2, e2, h2.entry, h1.core.trans h2.core, fun hc hr => ?_, h2.ending.trans (by rw [h1.ending]),
      fun hc x => ?_, fun hc x => ?_⟩
    · rw [h2.kept (hto.chosen hc) fun x hx =>
        (hagree hc x hx).hasRoom.trans (hr x (List.mem_cons_of_mem d hx))]
      exact h1.kept hc fun x hx => hr x (List.mem_singleton.1 hx ▸ List.mem_cons_self)
    · rw [h2.waits (hto.chosen hc), h1.waits hc,
        and_congr_right fun hx => not_congr (hagree hc x hx).admits, or_assoc, ← or_and_right,
        List.mem_singleton, List.mem_cons]
    · rw [h2.delivered (hto.chosen hc), h1.delivered hc, and_congr_right fun hx => (hagree hc x hx).admits,
        or_assoc, ← or_and_right, List.mem_singleton, List.mem_cons]

end Sys2Proof.Machine
end

section
/-! SUPPORT. The emission of pending points (R81) and the frame-mark flush (R82, R84, R130): which entries a flush
emits, and how it judges each layer once. -/

namespace Sys2Proof.Machine

/-! ### One emission (R81, R88) -/

theorem mem_targets (c : StrokeCore) (d : Dest) : d ∈ c.targets ↔ c.goesTo d := by
  rw [StrokeCore.targets, DestSet.mem_toList, StrokeCore.goesTo]
  cases d <;> simp [DestSet.minus, DestSet.has]

theorem orderFor_eq (order : PointOrder) (d : Dest) :
    orderFor order d = if d = .fanout then order else .sequential := by
  cases d <;> rfl

/-- Nothing is emitted from an empty list. -/
theorem emitPoints_none {i : Fin 48} {p : Part} {c : StrokeCore} {a : Assembly} (he : p.entry i = .opened c a)
    (hp : a.pending = []) : emitPoints i p = p := by
  simp only [emitPoints, he, hp]

/-- A list that is not empty is emptied, and its points are handed to the stroke's targets. -/
theorem emitPoints_hands {i : Fin 48} {p : Part} {c : StrokeCore} {a : Assembly} (he : p.entry i = .opened c a)
    (hp : a.pending ≠ []) :
    emitPoints i p = c.targets.foldl (handPoints i c (p.layer c.layer).mode.order a.pending)
      (p.setEntry i (.opened c { a with pending := [] })) := by
  obtain ⟨x, t, ht⟩ := List.exists_cons_of_ne_nil hp
  simp only [emitPoints, he, ht]

/-- An emission empties the list of its stroke, which may lose points. -/
theorem emitPoints_entry {i : Fin 48} {p : Part} {c : StrokeCore} {a : Assembly} (he : p.entry i = .opened c a) :
    ∃ c', (emitPoints i p).entry i = .opened c' { a with pending := [] } ∧ c.MayLose c' := by
  by_cases hp : a.pending = []
  · exact ⟨c, by rw [emitPoints_none he hp, he, ← hp], .inl rfl⟩
  · rw [emitPoints_hands he hp]
    obtain ⟨c', h⟩ := handPoints_foldl c (p.layer c.layer).mode.order a.pending c.targets (toList_nodup _)
      (Part.entry_setEntry_same p i (.opened c { a with pending := [] }))
    exact ⟨c', h.entry, h.core⟩

/-- What an emission may do, by whether its entry is an OPEN stroke with points pending. -/
theorem emitPoints_induction {P : Part → Prop} {i : Fin 48} {p : Part} (hsame : P p)
    (hset : ∀ c a, p.entry i = .opened c a → P (p.setEntry i (.opened c { a with pending := [] })))
    (hhand : ∀ c order pts q d, P q → P (handPoints i c order pts q d)) : P (emitPoints i p) := by
  unfold emitPoints
  split
  · next c a he =>
    split
    · exact hsame
    · exact List.foldlRecOn _ _ (hset c a he) fun q hq d _ => hhand c _ _ q d hq
  · exact hsame

/-- The other entries stand while points are emitted, or their strokes lose points. -/
theorem emitPoints_mayLose {i j : Fin 48} (p : Part) (hj : j ≠ i) :
    (p.entry j).MayLose ((emitPoints i p).entry j) :=
  emitPoints_induction (P := fun q => (p.entry j).MayLose (q.entry j)) (.refl _)
    (fun _ _ _ => .inl (Part.entry_setEntry_other p _ hj))
    fun c order pts q d h => h.trans (handPoints_mayLose i c order pts q d j)

/-- No queue's level falls when points are emitted. -/
theorem emitPoints_level (i : Fin 48) (p : Part) (d : Dest) : p.level d ≤ (emitPoints i p).level d :=
  emitPoints_induction (P := fun q => p.level d ≤ q.level d) le_rfl (fun _ _ _ => le_rfl)
    fun c order pts q e h => h.trans ((handPoints_handedTo i c order pts q e).level_le (fun _ => rfl) d)

/-- After an emission the room egress choice has been made, where it had been (R150). -/
theorem emitPoints_roomChosen (i : Fin 48) {p : Part} (h : p.RoomChosen) : (emitPoints i p).RoomChosen :=
  emitPoints_induction (P := Part.RoomChosen) h (fun _ _ _ => h.congr rfl rfl rfl rfl)
    fun c order pts q d => (handPoints_handedTo i c order pts q d).chosen

/-- A congested layer stays congested while points are emitted (R129). -/
theorem emitPoints_congested (i : Fin 48) {p : Part} {y : Fin 8} (h : p.congested y = true) :
    (emitPoints i p).congested y = true := by
  obtain ⟨d, hd, hw⟩ := (congested_iff p y).1 h
  have hstep := emitPoints_inkStep i p
  refine (congested_iff _ y).2 ⟨d, ?_, ?_⟩
  · rw [Part.layer, hstep.layers]
    exact hd
  · rw [hstep.watermark d]
    exact hw.trans (emitPoints_level i p d)

/-- The points of a stroke are handed to the destinations that are not suppressed, in the layer's order on the
fan-out. -/
theorem emitPoints_handed {i : Fin 48} {p : Part} {c : StrokeCore} {a : Assembly} (he : p.entry i = .opened c a)
    (hp : a.pending ≠ []) (hc : p.RoomChosen) :
    Handed c.goesTo
      (fun d => .points c.id (if d = .fanout then (p.layer c.layer).mode.order else .sequential) a.pending)
      c.serial InkQueue.discardPoints p (emitPoints i p) := by
  have hfold := handed_of_foldl (handPoints_handedTo i c (p.layer c.layer).mode.order a.pending) c.targets
    (toList_nodup _) (p := p.setEntry i (.opened c { a with pending := [] })) (hc.congr rfl rfl rfl rfl)
  simp only [orderFor_eq] at hfold
  rw [emitPoints_hands he hp]
  exact hfold.congr (fun d => (mem_targets c d).symm) (fun d => ⟨rfl, rfl, rfl, rfl, fun _ => .rfl⟩) rfl rfl

/-- The stroke whose points have been handed out. -/
theorem emitPoints_pointsHanded {i : Fin 48} {p : Part} {c : StrokeCore} {a : Assembly}
    (he : p.entry i = .opened c a) (hp : a.pending ≠ []) :
    ∃ c', PointsHanded c.targets i c { a with pending := [] }
      (p.setEntry i (.opened c { a with pending := [] })) (emitPoints i p) c' := by
  rw [emitPoints_hands he hp]
  exact handPoints_foldl c _ a.pending c.targets (toList_nodup _) (Part.entry_setEntry_same ..)

/-! ### Emissions one after the other -/

/-- The emissions of some entries, in order. -/
def emitAll (l : List (Fin 48)) (p : Part) : Part := l.foldl (fun r i => emitPoints i r) p

theorem emitAll_append (l : List (Fin 48)) (i : Fin 48) (p : Part) :
    emitAll (l ++ [i]) p = emitPoints i (emitAll l p) := List.foldl_concat ..

/-- The emissions empty the lists of their entries and leave the others' pending. -/
theorem emitAll_entry (l : List (Fin 48)) {i : Fin 48} {p : Part} {c : StrokeCore} {a : Assembly}
    (he : p.entry i = .opened c a) : ∃ c',
      (emitAll l p).entry i = .opened c' (if i ∈ l then { a with pending := [] } else a) ∧ c.MayLose c' := by
  induction l using List.reverseRecOn with
  | nil => exact ⟨c, he, .inl rfl⟩
  | append_singleton l j ih =>
    obtain ⟨c1, h1, hc1⟩ := ih
    rw [emitAll_append]
    by_cases hij : i = j
    · subst hij
      obtain ⟨c2, h2, hc2⟩ := emitPoints_entry h1
      refine ⟨c2, ?_, hc1.trans hc2⟩
      rw [h2, if_pos (List.mem_append_right _ List.mem_cons_self)]
      split <;> rfl
    · have hlose := emitPoints_mayLose (emitAll l p) hij
      rw [h1] at hlose
      obtain ⟨c2, h2, hc2⟩ := hlose.opened
      refine ⟨c2, ?_, hc1.trans hc2⟩
      rw [h2]
      simp only [List.mem_append, List.mem_singleton, hij, or_false]

theorem emitAll_congested (l : List (Fin 48)) {p : Part} {y : Fin 8} (h : p.congested y = true) :
    (emitAll l p).congested y = true :=
  List.foldlRecOn l (motive := fun q : Part => q.congested y = true) _ h fun _ hq i _ => emitPoints_congested i hq

/-- An entry is an OPEN stroke of a layer with points pending. -/
def Part.PointsWait (p : Part) (i : Fin 48) (y : Fin 8) : Prop :=
  ∃ c a, p.entry i = .opened c a ∧ a.pending ≠ [] ∧ c.layer = y

theorem Part.PointsWait.layer {p : Part} {i : Fin 48} {y z : Fin 8} (hy : p.PointsWait i y)
    (hz : p.PointsWait i z) : y = z := by
  obtain ⟨c, a, h, -, rfl⟩ := hy
  obtain ⟨d, b, h', -, rfl⟩ := hz
  cases h.symm.trans h'
  rfl

/-- An emission adds no points. -/
theorem pointsWait_of_emitAll {l : List (Fin 48)} {p : Part} {i : Fin 48} {y : Fin 8}
    (h : (emitAll l p).PointsWait i y) : ∃ z, p.PointsWait i z := by
  obtain ⟨c, b, he, hb, -⟩ := h
  obtain ⟨d, a, hp, rfl | rfl⟩ :=
    (AssembliesStand.foldl (fun q j => emitPoints_assembliesStand j q) l p).entries i c b he
  · exact ⟨d.layer, d, b, hp, hb, rfl⟩
  · exact absurd rfl hb

/-! ### The judgement of the layers (R130) -/

/-- An entry without points pending is passed over. -/
theorem flushEntry_passes {acc : Part × Vector (Option Bool) 8} {i : Fin 48}
    (h : ∀ y, ¬ acc.1.PointsWait i y) : flushEntry acc i = acc := by
  unfold flushEntry
  split
  · next c a he => exact if_pos (by_contra fun hp => h c.layer ⟨c, a, he, hp, rfl⟩)
  · rfl

/-- An entry with points pending follows the judgement of its layer, which is made now where none was made before. -/
theorem flushEntry_judges {acc : Part × Vector (Option Bool) 8} {i : Fin 48} {y : Fin 8}
    (h : acc.1.PointsWait i y) {b : Bool} (hb : (look acc.2 y).getD (acc.1.congested y) = b) :
    flushEntry acc i = (if b = true then acc.1 else emitPoints i acc.1, put acc.2 y (some b)) := by
  obtain ⟨c, a, he, hp, rfl⟩ := h
  simp only [flushEntry, he, if_neg hp, hb]
  cases b <;> rfl

/-- Where a flush has come to: `visited` are the entries it has come by, `out` those of them it has emitted. The layer
of an entry that has been emitted was judged not congested, that of one that keeps its points was judged congested;
each judgement was made at the layer's first entry with points, after the emissions of the entries before it. -/
structure FlushReached (p : Part) (visited out : List (Fin 48)) (acc : Part × Vector (Option Bool) 8) : Prop where
  part : acc.1 = emitAll out p
  sub : out.Sublist visited
  goes : ∀ i ∈ out, ∃ y, p.PointsWait i y ∧ look acc.2 y = some false
  stays : ∀ i ∈ visited, i ∉ out → ∀ y, p.PointsWait i y → look acc.2 y = some true
  full : ∀ y, look acc.2 y = some true → acc.1.congested y = true
  judged : ∀ y b, look acc.2 y = some b → ∃ i ∈ visited, p.PointsWait i y ∧
    (∀ j ∈ visited, j < i → ¬ p.PointsWait j y) ∧ (emitAll (out.filter (· < i)) p).congested y = b

namespace FlushReached

variable {p : Part} {visited out : List (Fin 48)} {acc : Part × Vector (Option Bool) 8}

theorem start (p : Part) : FlushReached p [] [] (p, fill 8 none) :=
  ⟨rfl, .refl _, nofun, nofun, fun y h => by simp at h, fun y b h => by simp at h⟩

/-- The judgement of a layer tells which of its entries with points were emitted. -/
theorem verdict (h : FlushReached p visited out acc) {i : Fin 48} {y : Fin 8} (hi : i ∈ visited)
    (hw : p.PointsWait i y) : look acc.2 y = some (decide (i ∉ out)) := by
  by_cases ho : i ∈ out
  · obtain ⟨z, hz, hj⟩ := h.goes i ho
    rw [hw.layer hz, hj]
    simp [ho]
  · rw [h.stays i hi ho y hw]
    simp [ho]

/-- An entry without points pending changes nothing. -/
theorem passes (h : FlushReached p visited out acc) {i : Fin 48} (hn : ∀ y, ¬ p.PointsWait i y) :
    FlushReached p (visited ++ [i]) out (flushEntry acc i) := by
  have hsame : flushEntry acc i = acc := by
    refine flushEntry_passes fun y hy => ?_
    rw [h.part] at hy
    obtain ⟨z, hz⟩ := pointsWait_of_emitAll hy
    exact hn z hz
  rw [hsame]
  refine ⟨h.part, h.sub.trans (List.sublist_append_left ..), h.goes, fun j hj ho y hw => ?_, h.full,
    fun y b hb => ?_⟩
  · rcases List.mem_append.1 hj with hj | hj
    · exact h.stays j hj ho y hw
    · exact absurd (List.mem_singleton.1 hj ▸ hw) (hn y)
  · obtain ⟨j, hj, hw, hfirst, hc⟩ := h.judged y b hb
    refine ⟨j, List.mem_append_left _ hj, hw, fun k hk hlt => ?_, hc⟩
    rcases List.mem_append.1 hk with hk | hk
    · exact hfirst k hk hlt
    · exact List.mem_singleton.1 hk ▸ hn y

/-- An entry with points pending is emitted or not by the judgement of its layer. -/
theorem judges (h : FlushReached p visited out acc) {i : Fin 48} (hlt : ∀ j ∈ visited, j < i) {y : Fin 8}
    (hw : p.PointsWait i y) : ∃ out', FlushReached p (visited ++ [i]) out' (flushEntry acc i) := by
  have hnot : i ∉ out := fun hi => lt_irrefl i (hlt i (h.sub.subset hi))
  have hwait : acc.1.PointsWait i y := by
    obtain ⟨c, a, he, hp, rfl⟩ := hw
    obtain ⟨c', he', hc'⟩ := emitAll_entry out he
    rw [if_neg hnot] at he'
    exact ⟨c', a, h.part ▸ he', hp, by rw [hc'.flags]⟩
  obtain ⟨b, hb⟩ : ∃ b, (look acc.2 y).getD (acc.1.congested y) = b := ⟨_, rfl⟩
  rw [flushEntry_judges hwait hb]
  have hlook : ∀ z v, look (put acc.2 y (some b)) z = some v →
      look acc.2 z = some v ∨ z = y ∧ v = b ∧ look acc.2 y = none := by
    intro z v hv
    rw [look_put] at hv
    split at hv
    · next hz =>
      cases hy : look acc.2 y with
      | none => exact .inr ⟨hz, (Option.some.inj hv).symm, rfl⟩
      | some w =>
        rw [hy] at hb
        exact .inl (by rw [hz, hy, ← hv, ← hb]; rfl)
    · exact .inl hv
  have hold : ∀ z v, look acc.2 z = some v → look (put acc.2 y (some b)) z = some v := by
    intro z v hv
    rw [look_put]
    split
    · next hz =>
      rw [← hz, hv] at hb
      exact congrArg some hb.symm
    · exact hv
  have hnew : look (put acc.2 y (some b)) y = some b := look_put_same ..
  obtain ⟨out', hpart, hsub, hmem, hfilter⟩ : ∃ out',
      (if b = true then acc.1 else emitPoints i acc.1) = emitAll out' p ∧ out'.Sublist (visited ++ [i]) ∧
      (∀ j, j ∈ out' ↔ j ∈ out ∨ j = i ∧ b = false) ∧
      ∀ k ∈ visited ++ [i], out'.filter (· < k) = out.filter (· < k) := by
    cases b with
    | true =>
      exact ⟨out, h.part, h.sub.trans (List.sublist_append_left ..), fun j => by simp, fun k _ => rfl⟩
    | false =>
      refine ⟨out ++ [i], ?_, h.sub.append_right [i], fun j => by simp, fun k hk => ?_⟩
      · rw [emitAll_append, ← h.part]
        rfl
      · have hle : ¬ i < k := by
          rcases List.mem_append.1 hk with hk | hk
          · exact (hlt k hk).not_gt
          · exact (List.mem_singleton.1 hk).not_gt
        simp [hle]
  refine ⟨out', hpart, hsub, fun j hj => ?_, fun j hj ho z hz => ?_, fun z hz => ?_, fun z v hv => ?_⟩
  · rcases (hmem j).1 hj with hj | ⟨rfl, rfl⟩
    · obtain ⟨z, hz, hj⟩ := h.goes j hj
      exact ⟨z, hz, hold z false hj⟩
    · exact ⟨y, hw, hnew⟩
  · obtain ⟨hout, hgoes⟩ := not_or.1 (mt (hmem j).2 ho)
    rcases List.mem_append.1 hj with hj | hj
    · exact hold z true (h.stays j hj hout z hz)
    · rw [List.mem_singleton.1 hj] at hz hgoes
      rw [← hw.layer hz, hnew, Bool.eq_true_of_not_eq_false fun hf => hgoes ⟨rfl, hf⟩]
  · have hbefore : acc.1.congested z = true := by
      rcases hlook z true hz with hz | ⟨rfl, rfl, hnone⟩
      · exact h.full z hz
      · rw [hnone] at hb
        exact hb
    split
    · exact hbefore
    · exact emitPoints_congested i hbefore
  · rcases hlook z v hv with hv | ⟨rfl, rfl, hnone⟩
    · obtain ⟨k, hk, hkw, hfirst, hc⟩ := h.judged z v hv
      refine ⟨k, List.mem_append_left _ hk, hkw, fun j hj hjk => ?_, ?_⟩
      · rcases List.mem_append.1 hj with hj | hj
        · exact hfirst j hj hjk
        · exact absurd (List.mem_singleton.1 hj ▸ hjk) (hlt k hk).not_gt
      · rw [hfilter k (List.mem_append_left _ hk)]
        exact hc
    · have hall : out.filter (· < i) = out :=
        List.filter_eq_self.2 fun j hj => decide_eq_true (hlt j (h.sub.subset hj))
      refine ⟨i, List.mem_append_right _ List.mem_cons_self, hw, fun j hj hji hjw => ?_, ?_⟩
      · rcases List.mem_append.1 hj with hj | hj
        · rw [h.verdict hj hjw] at hnone
          cases hnone
        · exact absurd (List.mem_singleton.1 hj ▸ hji) (lt_irrefl i)
      · rw [hfilter i (List.mem_append_right _ List.mem_cons_self), hall, ← h.part, ← hb, hnone]
        rfl

/-- A flush comes to the end of the entries it has still to visit. -/
theorem foldl (rest : List (Fin 48)) (h : FlushReached p visited out acc)
    (hlt : (visited ++ rest).Pairwise (· < ·)) :
    ∃ out', FlushReached p (visited ++ rest) out' (rest.foldl flushEntry acc) := by
  induction rest generalizing visited out acc with
  | nil => exact ⟨out, by rwa [List.append_nil]⟩
  | cons i t ih =>
    obtain ⟨out', h'⟩ : ∃ out', FlushReached p (visited ++ [i]) out' (flushEntry acc i) := by
      by_cases hw : ∃ y, p.PointsWait i y
      · obtain ⟨y, hw⟩ := hw
        exact h.judges (fun j hj => (List.pairwise_append.1 hlt).2.2 j hj i List.mem_cons_self) hw
      · exact ⟨out, h.passes (not_exists.1 hw)⟩
    rw [List.append_cons] at hlt ⊢
    exact ih h' hlt

end FlushReached

theorem indexes_pairwise (n : Nat) : (indexes n).Pairwise (· < ·) := List.pairwise_lt_finRange n

/-- What a frame-mark flush emits and what it judges (R82, R130). -/
theorem flushPoints_reached (p : Part) : ∃ out acc,
    flushPoints p = acc.1 ∧ FlushReached p (indexes 48) out acc := by
  obtain ⟨out, h⟩ := FlushReached.foldl (visited := []) (indexes 48) (.start p)
    (by rw [List.nil_append]; exact indexes_pairwise 48)
  rw [List.nil_append] at h
  exact ⟨out, _, rfl, h⟩

namespace FlushReached

variable {p : Part} {out : List (Fin 48)} {acc : Part × Vector (Option Bool) 8}
  (h : FlushReached p (indexes 48) out acc) {i : Fin 48} {y : Fin 8}
include h

/-- The flush emits points of layers that were not congested when it began. -/
theorem uncongested (hi : i ∈ out) (hw : p.PointsWait i y) : p.congested y = false := by
  have hy : look acc.2 y = some false := by
    rw [h.verdict (mem_indexes i) hw]
    simp [hi]
  obtain ⟨k, -, -, -, hc⟩ := h.judged y false hy
  exact Bool.eq_false_of_not_eq_true fun hcong => by
    rw [emitAll_congested _ hcong] at hc
    cases hc

/-- The flush leaves points of layers that are congested when it has ended. -/
theorem congested (hi : i ∉ out) (hw : p.PointsWait i y) : acc.1.congested y = true :=
  h.full y (h.stays i (mem_indexes i) hi y hw)

/-- The strokes of a layer follow one judgement. -/
theorem follows (hw : p.PointsWait i y) {j : Fin 48} (hj : p.PointsWait j y) : j ∈ out ↔ i ∈ out := by
  have hsame := (h.verdict (mem_indexes j) hj).symm.trans (h.verdict (mem_indexes i) hw)
  simpa using hsame

/-- The judgement of a layer is made at its first entry with points, after the emissions of the entries before. -/
theorem judged_first (hw : p.PointsWait i y) (hfirst : ∀ j, j < i → ¬ p.PointsWait j y) :
    i ∈ out ↔ (emitAll (out.filter (· < i)) p).congested y = false := by
  obtain ⟨k, -, hk, hkfirst, hc⟩ := h.judged y _ (h.verdict (mem_indexes i) hw)
  have hki : k = i := le_antisymm (not_lt.1 fun hlt => hkfirst i (mem_indexes i) hlt hw)
    (not_lt.1 fun hlt => hfirst k hlt hk)
  rw [hki] at hc
  rw [hc]
  simp

end FlushReached

/-- Settles O24: one emission by `emitPoints_handed` and `emitPoints_pointsHanded`, the flush by
`flushPoints_reached`. -/
theorem markFlushSparesCongestedLayers : Obligations.MarkFlushSparesCongestedLayers := by
  refine ⟨congested_iff, fun p i c a he => ⟨emitPoints_none he, fun hp hc => ⟨emitPoints_handed he hp hc, ?_⟩⟩,
    fun p i c a he => ?_, fun p => ?_⟩
  · obtain ⟨c', h⟩ := emitPoints_pointsHanded he hp
    have hchosen : (p.setEntry i (.opened c { a with pending := [] })).RoomChosen := hc.congr rfl rfl rfl rfl
    refine ⟨c', h.entry, h.core.flags, fun ⟨d, hd, hn⟩ => ?_, h.core.stays, fun hr => ?_⟩
    · exact h.lost hchosen ⟨d, (mem_targets c d).2 hd, hn⟩
    · exact h.kept hchosen fun d hd => hr d ((mem_targets c d).1 hd)
  · obtain ⟨out, acc, hflush, h⟩ := flushPoints_reached p
    obtain ⟨c', he', hc'⟩ := emitAll_entry out he
    rw [hflush]
    refine ⟨c', _, h.part ▸ he', by rw [hc'.flags], fun hcong => ?_, fun hcong => ?_, by split <;> rfl⟩
    · split
      · next hi =>
        by_contra hp
        rw [h.uncongested hi ⟨c, a, he, Ne.symm hp, rfl⟩] at hcong
        cases hcong
      · rfl
    · split
      · rfl
      · next hi =>
        by_contra hp
        rw [h.congested hi ⟨c, a, he, hp, rfl⟩] at hcong
        cases hcong
  · obtain ⟨out, acc, hflush, h⟩ := flushPoints_reached p
    rw [hflush]
    refine ⟨out, (indexes_pairwise 48).sublist h.sub, h.part, fun i hi => ?_, fun i c a he hp hi => ?_,
      fun i c a he hp hfirst => ⟨?_, fun j d b hd hb hlayer => ?_⟩⟩
    · obtain ⟨y, hw, -⟩ := h.goes i hi
      obtain ⟨c, a, he, hp, rfl⟩ := hw
      exact ⟨c, a, he, hp, h.uncongested hi ⟨c, a, he, hp, rfl⟩⟩
    · have hw : p.PointsWait i c.layer := ⟨c, a, he, hp, rfl⟩
      refine ⟨h.congested hi hw, fun j hj d b hd hlayer => ?_⟩
      obtain ⟨y, ⟨d', b', hd', hb, rfl⟩, -⟩ := h.goes j hj
      cases hd.symm.trans hd'
      exact hi ((h.follows hw ⟨d, b, hd, hb, hlayer⟩).1 hj)
    · exact h.judged_first ⟨c, a, he, hp, rfl⟩ fun j hj ⟨d, b, hd, hb, hlayer⟩ => hfirst j d b hj hd hb hlayer
    · exact h.follows ⟨c, a, he, hp, rfl⟩ ⟨d, b, hd, hb, hlayer⟩

end Sys2Proof.Machine
end

section
/-! SUPPORT. The end of an OPEN stroke (R101 to R105, R111, R115, R158): its steps, the summary it leaves or the queues
it waits on, and what follows for its seat, its layer and the other entries. -/

namespace Sys2Proof.Machine

/-! ### The history list (R158) -/

theorem History.append_of_room {h : History} (hl : h.list.length < 256) (s : Summary) :
    h.append s = ⟨h.list ++ [s], h.unread + 1, h.overrun⟩ := if_neg (Nat.not_le.2 hl)

/-- A full list whose oldest summary is unread loses it unread. -/
theorem History.append_overruns {h : History} (hl : h.list.length = 256) (hu : h.unread = 256) (s : Summary) :
    h.append s = ⟨h.list.drop 1 ++ [s], 256, min 65535 (h.overrun + 1)⟩ := by
  have hlimit : Config.historyLimit ≤ h.list.length := hl.ge
  rw [History.append, if_pos hlimit, if_pos (by rw [hl, hu]), hu]
  rfl

theorem History.append_pushes {h : History} (hl : h.list.length = 256) (hu : h.unread < 256) (s : Summary) :
    h.append s = ⟨h.list.drop 1 ++ [s], h.unread + 1, h.overrun⟩ := by
  have hlimit : Config.historyLimit ≤ h.list.length := hl.ge
  rw [History.append, if_pos hlimit, if_neg (by omega)]

/-! ### Destination sets -/

theorem destSet_ext {s t : DestSet} (h : ∀ d, s.has d = true ↔ t.has d = true) : s = t := by
  obtain ⟨a, b, c⟩ := s
  obtain ⟨a', b', c'⟩ := t
  have h1 : a = a' := Bool.eq_iff_iff.2 (h .display)
  have h2 : b = b' := Bool.eq_iff_iff.2 (h .fanout)
  have h3 : c = c' := Bool.eq_iff_iff.2 (h .record)
  rw [h1, h2, h3]

theorem has_minus (s t : DestSet) (d : Dest) : (s.minus t).has d = true ↔ s.has d = true ∧ t.has d = false := by
  cases d <;> simp [DestSet.minus, DestSet.has]

/-! ### The steps of an end (R101) -/

/-- A stroke's shared fields with its final point counted and boxed (R102). -/
def StrokeCore.finished (c : StrokeCore) (final : Point) : StrokeCore :=
  { c with count := bump c.count, box := c.box.grow final }

/-- The END record of a stroke (R101). -/
def endRecord (reason : EndReason) (c : StrokeCore) (final : Point) : InkRecord :=
  .strokeEnd c.id final reason c.flags c.count

/-- The ENDING state in which an END is handed out (R103). -/
def endingOf (reason : EndReason) (c : StrokeCore) (final : Point) (now : Tick) : Ending :=
  ⟨reason, now, endRecord reason c final, DestSet.empty, DestSet.empty⟩

/-- The part when the END of a stroke is to be handed out: the layer told, the entry ENDING (R101, R115). -/
def Part.ended (p : Part) (i : Fin 48) (reason : EndReason) (c : StrokeCore) (final : Point) : Part :=
  (p.setLayer c.layer (p.layer c.layer).strokeEnded).setEntry i (.ending c (endingOf reason c final p.tick))

/-- An emission does not read the seats, and leaves them. -/
theorem emitPoints_withSeats (i : Fin 48) (p : Part) (seats : Vector Seat 72) :
    emitPoints i { p with seats := seats } = { emitPoints i p with seats := seats } :=
  (emitPoints_blind i p id (fun _ => seats) id).symm

/-- The part in which the END of an OPEN stroke is handed out: its points emitted, its seat without it. -/
def Part.closing (p : Part) (i : Fin 48) (reason : EndReason) (seat : Fin 72) (c : StrokeCore) (final : Point) :
    Part :=
  ({ emitPoints i p with seats := put p.seats seat { p.seat seat with openEntry := none } } : Part).ended i
    reason c final

/-- An end emits the points, hands the END to the targets, completes or waits, and is counted. -/
theorem endStroke_eq (reason : EndReason) {p : Part} {i : Fin 48} {c sent : StrokeCore} {a : Assembly}
    (he : p.entry i = .opened c a)
    (hs : (emitPoints i p).entry i = .opened sent { a with pending := [] }) :
    endStroke reason p i =
      (deliverEnd i (sent.finished a.lastContact)
        (endRecord reason (sent.finished a.lastContact) a.lastContact)
        (p.closing i reason c.seat (sent.finished a.lastContact) a.lastContact)).countStrokes
          fun k => k.countEnd reason := by
  have hseats : emitPoints i (p.setSeat c.seat { p.seat c.seat with openEntry := none }) =
      { emitPoints i p with seats := put p.seats c.seat { p.seat c.seat with openEntry := none } } :=
    emitPoints_withSeats ..
  have hopen : ({ emitPoints i p with
      seats := put p.seats c.seat { p.seat c.seat with openEntry := none } } : Part).entry i =
        .opened sent { a with pending := [] } := hs
  simp only [endStroke, he, hseats, hopen]
  rfl

theorem Part.closing_entry (p : Part) (i : Fin 48) (reason : EndReason) (seat : Fin 72) (c : StrokeCore)
    (final : Point) :
    (p.closing i reason seat c final).entry i = .ending c (endingOf reason c final p.tick) := by
  rw [← (emitPoints_inkStep i p).tick]
  exact Part.entry_setEntry_same ..

theorem Part.closing_agreesOn (p : Part) (i : Fin 48) (reason : EndReason) (seat : Fin 72) (c : StrokeCore)
    (final : Point) (d : Dest) : AgreesOn d (emitPoints i p) (p.closing i reason seat c final) :=
  ⟨rfl, rfl, rfl, rfl, fun _ => .rfl⟩

/-- What step 6 of an end makes of the ENDs handed out: the stroke completes, or waits and is counted. -/
theorem deliverEnd_eq {i : Fin 48} {c : StrokeCore} {r : InkRecord} {p : Part} {c' : StrokeCore} {e' : Ending}
    (h : (c.targets.foldl (handEnd i c r) p).entry i = .ending c' e') :
    deliverEnd i c r p =
      if e'.waitsOn.isEmpty = true then
        { (c.targets.foldl (handEnd i c r) p).setEntry i .free with
          history := (c.targets.foldl (handEnd i c r) p).history.append (summaryOf c' e') }
      else (c.targets.foldl (handEnd i c r) p).countStrokes fun k => { k with endWaits := bump k.endWaits } := by
  simp only [deliverEnd, h, complete_eq h]

theorem EndHanded.congr {l : List Dest} {i : Fin 48} {c c' : StrokeCore} {e e' : Ending} {p p' q : Part}
    (h : EndHanded l i c e p q c' e') (hp : ∀ d, AgreesOn d p' p) (hc : p'.RoomChosen → p.RoomChosen) :
    EndHanded l i c e p' q c' e' where
  entry := h.entry
  core := h.core
  kept hc' hr := h.kept (hc hc') fun d hd => (hp d).hasRoom.trans (hr d hd)
  ending := h.ending
  waits hc' d := by rw [h.waits (hc hc') d, (hp d).admits]
  delivered hc' d := by rw [h.delivered (hc hc') d, (hp d).admits]

/-- The END of an OPEN stroke has been handed out: `sent` are the stroke's shared fields when its points have been
emitted, `q` is the part after the hands, in which the entry is ENDING with `c'` and `e'`. -/
structure EndHandedOut (reason : EndReason) (i : Fin 48) (c : StrokeCore) (a : Assembly) (p : Part)
    (sent c' : StrokeCore) (e' : Ending) (q : Part) : Prop where
  emitted : (emitPoints i p).entry i = .opened sent { a with pending := [] }
  core : c.MayLose sent
  entry : EndHanded c.targets i (sent.finished a.lastContact)
    (endingOf reason (sent.finished a.lastContact) a.lastContact p.tick) (emitPoints i p) q c' e'
  others : ∀ j, j ≠ i → (p.entry j).MayLose (q.entry j)
  blocks : EndStep i (p.closing i reason c.seat (sent.finished a.lastContact) a.lastContact) q
  handed : p.RoomChosen → Handed c.goesTo
    (fun _ => endRecord reason (sent.finished a.lastContact) a.lastContact) c.serial (InkQueue.awaitEnd i)
    (emitPoints i p) q
  ends : endStroke reason p i =
    (if e'.waitsOn.isEmpty = true then
      { q.setEntry i .free with history := q.history.append (summaryOf c' e') }
    else q.countStrokes fun k => { k with endWaits := bump k.endWaits }).countStrokes
      fun k => k.countEnd reason

/-- The end of an OPEN stroke hands its END out. -/
theorem endStroke_handsOut (reason : EndReason) {p : Part} {i : Fin 48} {c : StrokeCore} {a : Assembly}
    (he : p.entry i = .opened c a) : ∃ sent c' e' q, EndHandedOut reason i c a p sent c' e' q := by
  obtain ⟨sent, hs, hcore⟩ := emitPoints_entry he
  have htargets : (sent.finished a.lastContact).targets = c.targets := by rw [hcore.flags]; rfl
  have hserial : (sent.finished a.lastContact).serial = c.serial := by rw [hcore.flags]; rfl
  obtain ⟨r, hr⟩ : ∃ r, r = endRecord reason (sent.finished a.lastContact) a.lastContact := ⟨_, rfl⟩
  have hclosing := p.closing_agreesOn i reason c.seat (sent.finished a.lastContact) a.lastContact
  have hchosen : (emitPoints i p).RoomChosen →
      (p.closing i reason c.seat (sent.finished a.lastContact) a.lastContact).RoomChosen := fun h =>
    h.congr rfl rfl rfl rfl
  obtain ⟨c', e', h⟩ := handEnd_foldl (sent.finished a.lastContact) r c.targets (toList_nodup _)
    (p.closing_entry i reason c.seat (sent.finished a.lastContact) a.lastContact)
  refine ⟨sent, c', e', _, hs, hcore, h.congr hclosing hchosen, fun j hj => ?_,
    .foldl (handEnd_endStep i (sent.finished a.lastContact) r) c.targets _, fun hc => ?_, ?_⟩
  · have hbefore : ((p.closing i reason c.seat (sent.finished a.lastContact) a.lastContact).entry j) =
        (emitPoints i p).entry j := Part.entry_setEntry_other _ _ hj
    refine (emitPoints_mayLose p hj).trans ?_
    rw [← hbefore]
    exact List.foldlRecOn c.targets (motive := fun q : Part => Entry.MayLose _ (q.entry j)) _ (.refl _)
      fun q hq d _ => hq.trans (handEnd_mayLose _ r q d hj)
  · have hfold := handed_of_foldl (handEnd_handedTo i (sent.finished a.lastContact) r) c.targets
      (toList_nodup _) (hchosen (emitPoints_roomChosen i hc))
    rw [hserial, hr] at hfold
    rw [hr]
    exact hfold.congr (fun d => (mem_targets c d).symm) hclosing rfl rfl
  · rw [← htargets] at h
    rw [endStroke_eq reason he hs, ← hr, deliverEnd_eq h.entry, htargets]

/-! ### What an end makes of the blocks (R91, R111, R115) -/

theorem countEnd_ended (k : StrokeCounters) (reason : EndReason) (n : Nat) (r : EndReason) :
    ({ k.countEnd reason with endWaits := n } : StrokeCounters).ended r =
      if r = reason then min 65535 (k.ended r + 1) else k.ended r := by
  cases reason <;> cases r <;> rfl

/-- The counter of a reason advances when a stroke ends for it, and no other's does. -/
theorem StrokeEnded.counter {reason : EndReason} {i : Fin 48} {c : StrokeCore} {p q : Part}
    (h : StrokeEnded reason i c p q) (r : EndReason) : q.assembler.counters.ended r =
      if r = reason then min 65535 (p.assembler.counters.ended r + 1) else p.assembler.counters.ended r := by
  obtain ⟨n, hn⟩ := h.counters
  rw [hn, countEnd_ended]

/-- The layer of the last OPEN stroke closes when it is DRAINING (R115, R122). -/
theorem strokeEnded_closes {y : Layer} (hs : y.state = .draining) (hn : y.openCount = 1) :
    y.strokeEnded.state = .closed := if_pos ⟨hs, by rw [hn]⟩

namespace EndHandedOut

variable {reason : EndReason} {i : Fin 48} {c : StrokeCore} {a : Assembly} {p : Part} {sent c' : StrokeCore}
  {e' : Ending} {q : Part} (h : EndHandedOut reason i c a p sent c' e' q)
include h

theorem layer (l : Fin 8) : (endStroke reason p i).layer l =
    if l = c.layer then (p.layer c.layer).strokeEnded else p.layer l := by
  have hends : (endStroke reason p i).layers = q.layers := by
    rw [h.ends]
    split <;> rfl
  have hsent : (sent.finished a.lastContact).layer = c.layer := by rw [h.core.flags]; rfl
  have hclosing : q.layers = put (emitPoints i p).layers (sent.finished a.lastContact).layer
      ((emitPoints i p).layer (sent.finished a.lastContact).layer).strokeEnded := by
    rw [h.blocks.fixed]
    rfl
  rw [Part.layer, hends, hclosing, hsent, look_put, Part.layer, (emitPoints_inkStep i p).layers]
  rfl

theorem entry_other {j : Fin 48} (hj : j ≠ i) : (p.entry j).MayLose ((endStroke reason p i).entry j) := by
  have hends : (endStroke reason p i).entry j = q.entry j := by
    rw [h.ends]
    split
    · exact Part.entry_setEntry_other q _ hj
    · rfl
  rw [hends]
  exact h.others j hj

theorem history : q.history = p.history := by
  rw [h.blocks.fixed]
  exact (emitPoints_inkStep i p).history

theorem counters : q.assembler.counters = p.assembler.counters := by
  rw [h.blocks.fixed]
  exact (emitPoints_inkStep i p).counters

/-- What has been handed to the queues stands at the end. -/
theorem handed_end (hc : p.RoomChosen) : Handed c.goesTo
    (fun _ => endRecord reason (sent.finished a.lastContact) a.lastContact) c.serial (InkQueue.awaitEnd i)
    (emitPoints i p) (endStroke reason p i) := by
  refine (h.handed hc).congr (fun _ => .rfl) (fun d => ⟨rfl, rfl, rfl, rfl, fun _ => .rfl⟩) ?_ ?_
  all_goals
    rw [h.ends]
    split <;> rfl

/-- A stroke whose END waits for no queue leaves its summary and a FREE entry (R105). -/
theorem completes (hw : e'.waitsOn.isEmpty = true) :
    (endStroke reason p i).entry i = .free ∧
      (endStroke reason p i).history = p.history.append (summaryOf c' e') ∧
      (endStroke reason p i).assembler.counters.endWaits = p.assembler.counters.endWaits := by
  rw [h.ends, if_pos hw, ← h.history, ← h.counters]
  refine ⟨Part.entry_setEntry_same q i .free, rfl, ?_⟩
  cases reason <;> rfl

/-- A stroke whose END waits for some queue stays ENDING, and is counted (R103, R111). -/
theorem waits (hw : e'.waitsOn.isEmpty = false) :
    (endStroke reason p i).entry i = .ending c' e' ∧ (endStroke reason p i).history = p.history ∧
      (endStroke reason p i).assembler.counters.endWaits = min 65535 (p.assembler.counters.endWaits + 1) := by
  rw [h.ends, if_neg (by rw [hw]; exact Bool.false_ne_true), ← h.history, ← h.counters]
  refine ⟨h.entry.entry, rfl, ?_⟩
  cases reason <;> rfl

/-- The END waits where it was not taken. -/
theorem waitsOn_iff (hc : p.RoomChosen) (d : Dest) :
    e'.waitsOn.has d = true ↔ c.goesTo d ∧ ¬ (emitPoints i p).admits d := by
  rw [h.entry.waits (emitPoints_roomChosen i hc), mem_targets]
  exact or_iff_right (Bool.not_eq_true _ ▸ DestSet.has_empty d)

/-- The END is delivered where it does not wait. -/
theorem delivered_eq (hc : p.RoomChosen) :
    e'.delivered = (c.dests.minus c.suppressed).minus e'.waitsOn := by
  refine destSet_ext fun d => ?_
  have hd : e'.delivered.has d = true ↔ c.goesTo d ∧ (emitPoints i p).admits d := by
    rw [h.entry.delivered (emitPoints_roomChosen i hc), mem_targets]
    exact or_iff_right (Bool.not_eq_true _ ▸ DestSet.has_empty d)
  have hw : e'.waitsOn.has d = false ↔ ¬ (c.goesTo d ∧ ¬ (emitPoints i p).admits d) := by
    rw [← h.waitsOn_iff hc, Bool.not_eq_true]
  rw [hd, has_minus, has_minus, hw, StrokeCore.goesTo]
  tauto

theorem waitsOn_empty (hc : p.RoomChosen) (ha : ∀ d, c.goesTo d → (emitPoints i p).admits d) :
    e'.waitsOn.isEmpty = true :=
  (DestSet.isEmpty_iff _).2 fun d =>
    Bool.eq_false_of_not_eq_true fun hd => ((h.waitsOn_iff hc d).1 hd).2 (ha d ((h.waitsOn_iff hc d).1 hd).1)

/-- The END carries the last contact point, the reason, the flags then set and the count with the final point. -/
theorem record_eq : endRecord reason (sent.finished a.lastContact) a.lastContact =
    .strokeEnd c.id a.lastContact reason sent.flags (min 65535 (c.count + 1)) := by
  rw [h.core.flags]
  rfl

/-- The stroke's final point is counted and boxed, and of its other fields only the flags may differ. -/
theorem core_eq : c' =
    { c with
      count := min 65535 (c.count + 1)
      box := c.box.grow a.lastContact
      flags := c'.flags } := by
  rcases h.core with rfl | rfl <;> rcases h.entry.core with rfl | rfl <;> rfl

theorem ending_eq (hc : p.RoomChosen) : e' =
    ⟨reason, p.tick, .strokeEnd c.id a.lastContact reason sent.flags (min 65535 (c.count + 1)), e'.waitsOn,
      (c.dests.minus c.suppressed).minus e'.waitsOn⟩ := by
  rw [← h.delivered_eq hc, ← h.record_eq]
  exact h.entry.ending

/-- The summary of a stroke whose END was taken everywhere (R157). -/
theorem summary_eq (hc : p.RoomChosen) (hw : e'.waitsOn.isEmpty = true) : summaryOf c' e' =
    ⟨c.id, c.seat, c.layer, c.tool, c.colour, c.box.grow a.lastContact, min 65535 (c.count + 1), reason,
      c'.flags, c.beginTick, p.tick, c.dests.minus c.suppressed, false⟩ := by
  have hdelivered : e'.delivered = c.dests.minus c.suppressed := by
    rw [h.delivered_eq hc]
    exact destSet_ext fun d => by rw [has_minus, (DestSet.isEmpty_iff _).1 hw d, and_iff_left rfl]
  rw [← hdelivered]
  have hcore := h.core_eq
  have hending := h.entry.ending
  generalize hf : c'.flags = f at hcore ⊢
  generalize hd : e'.delivered = dl at hending ⊢
  rw [hcore, hending]
  rfl

end EndHandedOut

/-- Settles O23: the history list by its three cases, the end by `endStroke_handsOut` and what it makes of the seat, the
layer, the counters, the entries and the queues. -/
theorem strokeEndLeavesTheTable : Obligations.StrokeEndLeavesTheTable := by
  refine ⟨fun h s => ⟨fun hl => History.append_of_room hl s, fun oldest others hl hn => ?_⟩, ?_⟩
  · have hlen : h.list.length = 256 := by rw [hl, List.length_cons, hn]
    have hdrop : h.list.drop 1 = others := by rw [hl]; rfl
    rw [← hdrop]
    exact ⟨fun hu => History.append_overruns hlen hu s, fun hu => History.append_pushes hlen hu s⟩
  intro reason p i c a he q
  have hended := endStroke_ended reason he
  obtain ⟨sent, c', e', r, h⟩ := endStroke_handsOut reason he
  refine ⟨?_, ?_, fun s hs => ?_, ?_, fun hs hn => ?_, fun l hl => ?_, hended.counter, fun j d b hj hd => ?_,
    ?_⟩
  · cases hw : e'.waitsOn.isEmpty with
    | true => exact .inl (h.completes hw).1
    | false =>
      refine .inr ⟨c', e', (h.waits hw).1, ?_, ?_, ?_, hw⟩
      · rw [h.entry.core.flags, h.core.flags]
        rfl
      · rw [h.entry.ending]
        rfl
      · rw [h.entry.ending]
        rfl
  · rw [hended.seat, if_pos rfl]
  · rw [hended.seat, if_neg hs]
  · rw [h.layer, if_pos rfl]
    rfl
  · rw [h.layer, if_pos rfl]
    exact strokeEnded_closes hs hn
  · rw [h.layer, if_neg hl]
  · have hlose := h.entry_other hj
    rw [hd] at hlose
    obtain ⟨d', hd', hcore⟩ := hlose.opened
    refine ⟨d', hd', ?_⟩
    rw [hcore.flags]
    exact ⟨rfl, rfl, rfl⟩
  · intro hc e final count box targets
    refine ⟨sent, h.emitted, h.record_eq ▸ h.handed_end hc, fun ha => ?_, fun ⟨d, hd, hn⟩ => ?_⟩
    · have hw := h.waitsOn_empty hc ha
      obtain ⟨hfree, hhistory, hcount⟩ := h.completes hw
      refine ⟨hfree, hcount, c'.flags, congrArg StrokeCore.flags h.entry.core.flags, h.entry.core.stays,
        fun hr => ?_, hhistory.trans (congrArg p.history.append (h.summary_eq hc hw))⟩
      rw [h.entry.kept (emitPoints_roomChosen i hc) fun d hd => hr d ((mem_targets c d).1 hd)]
      rfl
    · have hw : e'.waitsOn.isEmpty = false := Bool.eq_false_of_not_eq_true fun hw =>
        Bool.false_ne_true (((DestSet.isEmpty_iff _).1 hw d).symm.trans ((h.waitsOn_iff hc d).2 ⟨hd, hn⟩))
      obtain ⟨hending, hhistory, hcount⟩ := h.waits hw
      exact ⟨c', e'.waitsOn, hending.trans (congrArg (Entry.ending c') (h.ending_eq hc)), h.waitsOn_iff hc,
        h.core_eq, hhistory, hcount⟩

end Sys2Proof.Machine
end

section
/-! SUPPORT. The stroke ids that are held (R92): by occupied entries and by summaries. -/

namespace Sys2Proof.Machine

/-- An id is held by an occupied entry or by a summary. -/
theorem mem_heldIds {p : Part} {v : Nat} : v ∈ p.heldIds ↔
    (∃ i c, (p.entry i).core? = some c ∧ c.id = v) ∨ ∃ s ∈ p.history.list, s.id = v := by
  rw [Part.heldIds, List.mem_append, List.mem_map, List.mem_map, toList_eq_map]
  refine or_congr_left ⟨?_, ?_⟩
  · rintro ⟨c, hc, hv⟩
    obtain ⟨e, he, hc⟩ := List.mem_filterMap.1 hc
    obtain ⟨i, -, rfl⟩ := List.mem_map.1 he
    exact ⟨i, c, hc, hv⟩
  · rintro ⟨i, c, hc, hv⟩
    exact ⟨c, List.mem_filterMap.2 ⟨_, List.mem_map.2 ⟨i, mem_indexes i, rfl⟩, hc⟩, hv⟩

/-- An entry with shared fields is OPEN or ENDING (R89). -/
theorem core_eq_some {x : Entry} {c : StrokeCore} :
    x.core? = some c ↔ (∃ a, x = .opened c a) ∨ ∃ e, x = .ending c e := by
  cases x <;> simp [Entry.core?]

/-- Settles O22: the held ids by `mem_heldIds`, the allocator by `allocatedId_first`. -/
theorem allocatorFindsTheFirstFreeId : Obligations.AllocatorFindsTheFirstFreeId := by
  refine ⟨rfl, fun v hv => if_neg (by omega), fun p v => ?_, fun p i hf hh h1 h2 =>
    allocatedId_first hf hh h1 h2⟩
  rw [mem_heldIds, ← or_assoc]
  refine or_congr_left ⟨?_, ?_⟩
  · rintro ⟨i, c, hc, hv⟩
    rcases core_eq_some.1 hc with ⟨a, ha⟩ | ⟨e, he⟩
    · exact .inl ⟨i, c, a, ha, hv⟩
    · exact .inr ⟨i, c, e, he, hv⟩
  · rintro (⟨i, c, a, ha, hv⟩ | ⟨i, c, e, he, hv⟩)
    · exact ⟨i, c, core_eq_some.2 (.inl ⟨a, ha⟩), hv⟩
    · exact ⟨i, c, core_eq_some.2 (.inr ⟨e, he⟩), hv⟩

end Sys2Proof.Machine
end

section
/-! SUPPORT. What the laws of the stroke table and of the record order read of a part, and which operations leave it:
the register (seats, strokes, layers, ids) and the ledger (queued records, waiting lists, serial numbers). -/

namespace Sys2Proof.Machine

/-! ### What the laws read of an entry -/

/-- What seats, layers and ids read of an occupied entry (R90 to R92, R115): whether it is OPEN, and its stroke's id,
seat and layer. -/
structure StrokeRole where
  isOpen : Bool
  id : Nat
  seat : Fin 72
  layer : Fin 8

/-- The role of a stroke with given shared fields. -/
def StrokeCore.role (c : StrokeCore) (isOpen : Bool) : StrokeRole := ⟨isOpen, c.id, c.seat, c.layer⟩

def Entry.role : Entry → Option StrokeRole
  | .free => none
  | .opened c _ => some (c.role true)
  | .ending c _ => some (c.role false)

/-- What the queues read of an occupied entry (R104, R141): its stroke's serial number, and the ending state of one
that is ENDING. -/
def Entry.claim : Entry → Option (Nat × Option Ending)
  | .free => none
  | .opened c _ => some (c.serial, none)
  | .ending c e => some (c.serial, some e)

theorem Entry.Like.role {x y : Entry} (h : x.Like y) : y.role = x.role := by
  cases h with
  | free => rfl
  | opened hc => rw [hc]; rfl
  | ending hc => rw [hc]; rfl

theorem Entry.Like.claim {x y : Entry} (h : x.Like y) : y.claim = x.claim := by
  cases h with
  | free => rfl
  | opened hc => rw [hc]; rfl
  | ending hc => rw [hc]; rfl

/-! ### The register and the ledger -/

/-- What the laws of seats, stroke table, layers and ids read stands from one part to another. -/
structure RegisterStands (p q : Part) : Prop where
  references : ∀ s, (q.seat s).openEntry = (p.seat s).openEntry
  lockouts : ∀ s, (q.seat s).lockout = (p.seat s).lockout
  roles : ∀ i, (q.entry i).role = (p.entry i).role
  states : ∀ l, (q.layer l).state = (p.layer l).state
  counts : ∀ l, (q.layer l).openCount = (p.layer l).openCount
  ids : q.history.list.map Summary.id = p.history.list.map Summary.id
  nextId : q.assembler.nextId = p.assembler.nextId

/-- What the laws of the waiting lists and of the record order read stands from one part to another. -/
structure LedgerStands (p q : Part) : Prop where
  items : ∀ d, (q.queue d).items = (p.queue d).items
  waiting : ∀ d, (q.queue d).waiting = (p.queue d).waiting
  held : q.queues.held = p.queues.held
  claims : ∀ i, (q.entry i).claim = (p.entry i).claim
  nextSerial : q.assembler.nextSerial = p.assembler.nextSerial

theorem RegisterStands.refl (p : Part) : RegisterStands p p :=
  ⟨fun _ => rfl, fun _ => rfl, fun _ => rfl, fun _ => rfl, fun _ => rfl, rfl, rfl⟩

theorem RegisterStands.trans {p q r : Part} (h1 : RegisterStands p q) (h2 : RegisterStands q r) :
    RegisterStands p r where
  references s := (h2.references s).trans (h1.references s)
  lockouts s := (h2.lockouts s).trans (h1.lockouts s)
  roles i := (h2.roles i).trans (h1.roles i)
  states l := (h2.states l).trans (h1.states l)
  counts l := (h2.counts l).trans (h1.counts l)
  ids := h2.ids.trans h1.ids
  nextId := h2.nextId.trans h1.nextId

theorem LedgerStands.refl (p : Part) : LedgerStands p p :=
  ⟨fun _ => rfl, fun _ => rfl, rfl, fun _ => rfl, rfl⟩

theorem LedgerStands.trans {p q r : Part} (h1 : LedgerStands p q) (h2 : LedgerStands q r) :
    LedgerStands p r where
  items d := (h2.items d).trans (h1.items d)
  waiting d := (h2.waiting d).trans (h1.waiting d)
  held := h2.held.trans h1.held
  claims i := (h2.claims i).trans (h1.claims i)
  nextSerial := h2.nextSerial.trans h1.nextSerial

/-- Both the register and the ledger stand. -/
structure BooksStand (p q : Part) : Prop where
  register : RegisterStands p q
  ledger : LedgerStands p q

namespace BooksStand

theorem refl (p : Part) : BooksStand p p := ⟨.refl p, .refl p⟩

theorem trans {p q r : Part} (h1 : BooksStand p q) (h2 : BooksStand q r) : BooksStand p r :=
  ⟨h1.register.trans h2.register, h1.ledger.trans h2.ledger⟩

/-- The blocks read stand. -/
theorem of_blocks {p q : Part} (hs : q.seats = p.seats) (ha : q.assembler = p.assembler)
    (hl : q.layers = p.layers) (hq : q.queues = p.queues) (hh : q.history = p.history) : BooksStand p q := by
  have hseat : ∀ s, q.seat s = p.seat s := fun s => congrArg (look · s) hs
  have hentry : ∀ i, q.entry i = p.entry i := fun i => congrArg (fun b : Assembler => look b.entries i) ha
  have hlayer : ∀ l, q.layer l = p.layer l := fun l => congrArg (look · l) hl
  have hqueue : ∀ d, q.queue d = p.queue d := fun d => congrArg (Queues.get · d) hq
  exact ⟨⟨fun s => by rw [hseat], fun s => by rw [hseat], fun i => by rw [hentry], fun l => by rw [hlayer],
    fun l => by rw [hlayer], by rw [hh], by rw [ha]⟩,
    fun d => by rw [hqueue], fun d => by rw [hqueue], by rw [hq], fun i => by rw [hentry], by rw [ha]⟩

/-- The blocks read stood when an operation began that leaves both. -/
theorem after {p q r : Part} (h : BooksStand q r) (hs : q.seats = p.seats) (ha : q.assembler = p.assembler)
    (hl : q.layers = p.layers) (hq : q.queues = p.queues) (hh : q.history = p.history) : BooksStand p r :=
  (of_blocks hs ha hl hq hh).trans h

/-- A change of the seats that leaves references and lockouts. -/
theorem withSeats {p q : Part} (hs : ∀ s, (q.seat s).openEntry = (p.seat s).openEntry ∧
      (q.seat s).lockout = (p.seat s).lockout) (ha : q.assembler = p.assembler)
    (hl : q.layers = p.layers) (hq : q.queues = p.queues) (hh : q.history = p.history) : BooksStand p q := by
  have h : BooksStand p { q with seats := p.seats } := of_blocks rfl ha hl hq hh
  exact ⟨{ h.register with references := fun s => (hs s).1, lockouts := fun s => (hs s).2 }, { h.ledger with }⟩

theorem setSeat (p : Part) (s : Fin 72) {v : Seat} (ho : v.openEntry = (p.seat s).openEntry)
    (hk : v.lockout = (p.seat s).lockout) : BooksStand p (p.setSeat s v) := by
  refine .withSeats (fun t => ?_) rfl rfl rfl rfl
  rw [Part.seat_setSeat]
  split
  · next h => rw [h]; exact ⟨ho, hk⟩
  · exact ⟨rfl, rfl⟩

/-- A change of one entry that leaves what the laws read of it. -/
theorem setEntry (p : Part) (i : Fin 48) {e : Entry} (hr : e.role = (p.entry i).role)
    (hc : e.claim = (p.entry i).claim) : BooksStand p (p.setEntry i e) := by
  refine ⟨{ RegisterStands.refl p with roles := fun j => ?_ }, { LedgerStands.refl p with claims := fun j => ?_ }⟩
  all_goals rw [Part.entry_setEntry]; split
  · next h => rw [h]; exact hr
  · rfl
  · next h => rw [h]; exact hc
  · rfl

/-- A change of the queues that leaves records, waiting lists and held slots. -/
theorem withQueues (p : Part) {v : Queues} (h : ∀ d, (v.get d).items = (p.queue d).items ∧
    (v.get d).waiting = (p.queue d).waiting) (hv : v.held = p.queues.held) :
    BooksStand p { p with queues := v } :=
  ⟨{ RegisterStands.refl p with }, { LedgerStands.refl p with items := fun d => (h d).1, waiting := fun d => (h d).2, held := hv }⟩

theorem setQueue (p : Part) (d : Dest) {v : InkQueue} (hi : v.items = (p.queue d).items)
    (hw : v.waiting = (p.queue d).waiting) : BooksStand p (p.setQueue d v) := by
  refine .withQueues p (fun e => ?_) (Queues.held_set ..)
  rw [Queues.get_set]
  split
  · next h => rw [h]; exact ⟨hi, hw⟩
  · exact ⟨rfl, rfl⟩

end BooksStand

/-! ### Operations that leave both -/

theorem raise_booksStand (k : ErrorKind) (src : ErrorSource) (p : Part) : BooksStand p (raise k src p) := by
  obtain ⟨a, o, e, h, -⟩ := raise_frame k src p
  rw [h]
  exact .of_blocks rfl rfl rfl rfl rfl

theorem notice_booksStand (n : Notice) (p : Part) : BooksStand p (notice n p) := by
  obtain ⟨a, o, h, -⟩ := notice_frame n p
  rw [h]
  exact .of_blocks rfl rfl rfl rfl rfl

theorem joinReply_booksStand (f : ReplyFrame) (p : Part) : BooksStand p (joinReply f p) := by
  obtain ⟨o, h⟩ := joinReply_eq f p
  rw [h]
  exact .of_blocks rfl rfl rfl rfl rfl

theorem roomChoose_booksStand (p : Part) : BooksStand p (roomChoose p) := by
  rw [roomChoose_eq]
  exact .of_blocks rfl rfl rfl rfl rfl

theorem countQueue_booksStand (d : Dest) (f : QueueCounters → QueueCounters) (p : Part) :
    BooksStand p (p.countQueue d f) := .setQueue p d rfl rfl

theorem countStrokes_booksStand (f : StrokeCounters → StrokeCounters) (p : Part) :
    BooksStand p (p.countStrokes f) :=
  ⟨⟨fun _ => rfl, fun _ => rfl, fun _ => rfl, fun _ => rfl, fun _ => rfl, rfl, rfl⟩,
    fun _ => rfl, fun _ => rfl, rfl, fun _ => rfl, rfl⟩

theorem countLink_booksStand (port : Port) (f : LinkCounters → LinkCounters) (p : Part) :
    BooksStand p (p.countLink port f) := by cases port <;> exact .of_blocks rfl rfl rfl rfl rfl

/-- A stroke that receives GAP (R8). -/
theorem gapStroke_booksStand (seat : Fin 72) (p : Part) : BooksStand p (gapStroke seat p) := by
  unfold gapStroke
  split
  · split
    · next c a he => exact .setEntry p _ (by rw [he]; rfl) (by rw [he]; rfl)
    · exact .refl p
  · exact .refl p

theorem checkSequence_booksStand (seat : Fin 72) (seq : Byte) (src : ErrorSource) (p : Part) :
    BooksStand p (checkSequence seat seq src p) := by
  unfold checkSequence
  simp only
  split
  · exact .setSeat p seat rfl rfl
  · split
    · exact .setSeat p seat rfl rfl
    · refine BooksStand.trans (.setSeat p seat ?_ ?_) ((raise_booksStand _ _ _).trans (gapStroke_booksStand seat _))
      · rfl
      · rfl

theorem armQuiet_booksStand (seat : Fin 72) (p : Part) : BooksStand p (armQuiet seat p) := .setSeat p seat rfl rfl

theorem loseMark_booksStand (p : Part) : BooksStand p (loseMark p) := by
  unfold loseMark
  split
  · exact (raise_booksStand _ _ _).after rfl rfl rfl rfl rfl
  · exact .refl p

theorem grantCredit_booksStand (count : Byte) (p : Part) : BooksStand p (grantCredit count p) := by
  unfold grantCredit
  simp only
  split
  · exact (raise_booksStand _ _ _).after rfl rfl rfl rfl rfl
  · exact .of_blocks rfl rfl rfl rfl rfl

theorem saveComplete_booksStand (success : Bool) (p : Part) : BooksStand p (saveComplete success p) := by
  unfold saveComplete
  split
  · exact .refl p
  · simp only
    split
    · exact (notice_booksStand _ _).after rfl rfl rfl rfl rfl
    · exact ((notice_booksStand _ _).trans (raise_booksStand _ _ _)).after rfl rfl rfl rfl rfl

theorem loadComplete_booksStand (p : Part) : BooksStand p (loadComplete p) := by
  have hload : ∀ img, BooksStand p (p.loaded img) := fun _ => .of_blocks rfl rfl rfl rfl rfl
  unfold loadComplete
  split
  · unfold finishLoad
    simp only
    split
    · exact (hload _).trans (notice_booksStand _ _)
    · exact ((hload _).trans (notice_booksStand _ _)).trans (raise_booksStand _ _ _)
  · exact .refl p

/-- A point taken by an OPEN stroke changes the count, the box and the assembly state alone (R79). -/
theorem takePoint_core (q : Point) (c : StrokeCore) (a : Assembly) :
    (takePoint q c a).1 = { c with count := (takePoint q c a).1.count, box := (takePoint q c a).1.box } := by
  rcases takePoint_cases q c a with ⟨-, h⟩ | ⟨-, -, h⟩ | ⟨-, -, h⟩ <;> rw [h]

/-- A change of the history list that leaves its ids. -/
theorem BooksStand.withHistory (p : Part) {h : History}
    (hi : h.list.map Summary.id = p.history.list.map Summary.id) : BooksStand p { p with history := h } :=
  ⟨{ RegisterStands.refl p with ids := hi }, { LedgerStands.refl p with }⟩

/-- The element changed first keeps what the change leaves. -/
theorem map_changeFirst {α β : Type} {test : α → Bool} {f : α → α} {g : α → β} (hg : ∀ a, g (f a) = g a)
    {l l' : List α} {a : α} (h : changeFirst test f l = some (a, l')) : l'.map g = l.map g := by
  induction l generalizing l' with
  | nil => cases h
  | cons x t ih =>
    unfold changeFirst at h
    split at h
    · cases h
      simp [hg]
    · obtain ⟨r, hr, he⟩ := Option.map_eq_some_iff.1 h
      cases he
      rw [List.map_cons, List.map_cons, ih hr]

/-- A summary that is retracted keeps its id (R162). -/
theorem map_id_retractNewest {test : Summary → Bool} {l l' : List Summary} {m : Summary}
    (h : retractNewest test l = some (m, l')) : l'.map Summary.id = l.map Summary.id := by
  obtain ⟨r, hr, he⟩ := Option.map_eq_some_iff.1 h
  cases he
  have hsame := map_changeFirst (g := Summary.id) (fun _ => by rfl) hr
  rw [List.map_reverse, hsame, List.map_reverse, List.reverse_reverse]

end Sys2Proof.Machine
end

section
/-! SUPPORT. An induction over every command, packaged once: a property of the part that is kept by each operation on
strokes, queues and layers, and by what leaves register and ledger, is kept by every command. -/

namespace Sys2Proof.Machine

/-- Cleared counters leave both (R113). -/
theorem clearCounters_booksStand (seats : List (Fin 72)) (p : Part) : BooksStand p (p.clearCounters seats) := by
  have hseat : ∀ s, (p.clearCounters seats).seat s =
      if s ∈ seats then { p.seat s with accepted := 0, missing := 0 } else p.seat s := fun s => look_ofFn _ s
  refine ⟨⟨fun s => ?_, fun s => ?_, fun _ => rfl, fun _ => rfl, fun _ => rfl, rfl, rfl⟩,
    fun _ => rfl, fun _ => rfl, rfl, fun _ => rfl, rfl⟩
  all_goals rw [hseat]; split <;> rfl

/-- A property of the part that each operation on strokes, queues and layers keeps, and all that leaves the register
and the ledger. -/
structure Kept (I : Part → Prop) : Prop where
  reset : I resetPart
  books : ∀ {p q}, BooksStand p q → I p → I q
  emits : ∀ {p} i, I p → I (emitPoints i p)
  ends : ∀ {p} reason i, I p → I (endStroke reason p i)
  departs : ∀ {p} d link frame, I p → I (depart d link frame p)
  begins : ∀ {p} seat s layer isPrivate i, I p → (p.seat seat).openEntry = none →
    (p.seat seat).lockout = none → (p.layer layer).state = .opened → p.tableRoom seat = true →
    p.lowestFree = some i →
    I (placeStroke i (newStroke seat s layer isPrivate p).1 (newStroke seat s layer isPrivate p).2 p)
  locks : ∀ {p} seat reason, I p → (p.seat seat).openEntry = none →
    I (p.setSeat seat { p.seat seat with lockout := some reason })
  unlocks : ∀ {p} seat, I p → I (clearLockout seat p)
  joins : ∀ {p} r d, I p → I (joinIfRoom r p d)
  restates : ∀ {p} l st, I p → (st = .closed → (p.layer l).openCount = 0) →
    (st = .draining → 1 ≤ (p.layer l).openCount) → I (p.setLayerState l st)
  closes : ∀ {p} l, I p → I (layerCloseNow l p).2
  clears : ∀ {p} l, I p → I (layerClear l p).2
  flushes : ∀ {p} queue, I p → I (ownFlushQueue queue p).2

/-- A fold of operations that keep a property keeps it. -/
theorem foldl_keeps {I : Part → Prop} {α : Type} {f : Part → α → Part} (hf : ∀ {p} x, I p → I (f p x))
    (l : List α) {p : Part} (h : I p) : I (l.foldl f p) := List.foldlRecOn l f h fun _ hb a _ => hf a hb

namespace Kept

variable {I : Part → Prop} (hk : Kept I)
include hk

/-- Register and ledger stand where the blocks they are read of stand. -/
theorem blocks {p q : Part} (h : I p) (hs : q.seats = p.seats) (ha : q.assembler = p.assembler)
    (hl : q.layers = p.layers) (hq : q.queues = p.queues) (hh : q.history = p.history) : I q :=
  hk.books (.of_blocks hs ha hl hq hh) h

/-! ### What follows an event, and marks (R37 to R44, R145 to R151) -/

theorem settle {p : Part} (h : I p) : I (settle p) := by
  have display : ∀ {q}, I q → I (displayPump q) := fun {q} hq => by
    unfold displayPump
    split
    · exact hk.departs _ _ _ (hk.blocks hq rfl rfl rfl rfl rfl)
    · exact hq
  have record : ∀ {q}, I q → I (recordPump q) := fun {q} hq => by
    unfold recordPump
    split
    · exact hk.departs _ _ _ (hk.blocks hq rfl rfl rfl rfl rfl)
    · exact hq
  unfold Machine.settle
  split
  · exact h
  · exact hk.books (roomChoose_booksStand _) (record (display h))

theorem event {f : Part → Part} {p q : Part} {rest : List Instr} (h : I p) (hf : I (f p))
    (he : event f ⟨p, rest⟩ = .next ⟨q, rest⟩) : I q := by
  cases hr : p.inReset
  · rw [event_next rest hr] at he
    cases he
    exact hk.settle hf
  · rw [event_held rest hr] at he
    cases he
    exact h

theorem flushPoints {p : Part} (h : I p) : I (flushPoints p) := by
  obtain ⟨out, acc, hq, hr⟩ := flushPoints_reached p
  rw [hq, hr.part]
  exact foldl_keeps (fun i => hk.emits i) out h

theorem applyCommit (mark : Byte) (substitute : Bool) {p : Part} (h : I p) :
    I (applyCommit mark substitute p) := by
  have hcommitted : I p.committed := hk.blocks h rfl rfl rfl rfl rfl
  have hrevoked : I p.revoked := foldl_keeps (fun i => hk.ends .revoked i) _ hcommitted
  rw [applyCommit_eq]
  generalize p.revoked = r at hrevoked
  have hadjust : BooksStand r { r with seats := adjustSeats p.active r.active r.seats } :=
    .withSeats (fun s => by simp only [Part.seat, look_adjustSeats, and_self]) rfl rfl rfl rfl
  exact hk.books (notice_booksStand _ _) (hk.books hadjust hrevoked)

theorem markEffects (mark : Byte) (substitute : Bool) {p : Part} (h : I p) :
    I (markEffects mark substitute p) := by
  unfold Machine.markEffects
  split
  · have hdraw : I { p with freeDraws := p.freeDraws + 1 } := hk.blocks h rfl rfl rfl rfl rfl
    simp only
    split
    · exact hk.flushPoints (hk.applyCommit mark substitute hdraw)
    · exact hk.applyCommit mark substitute (hk.flushPoints hdraw)
  · rw [stepCountdown_eq]
    exact hk.flushPoints (hk.blocks h rfl rfl rfl rfl rfl)

theorem realMark (number : Byte) {p : Part} (h : I p) : I (realMark number p) :=
  hk.markEffects number false (hk.blocks h rfl rfl rfl rfl rfl)

theorem substituteMark {p : Part} (h : I p) : I (substituteMark p) :=
  hk.markEffects 0 true
    (hk.books ((loseMark_booksStand p).trans (.of_blocks rfl rfl rfl rfl rfl)) h)

theorem takeDisplayFrame (frame : List Byte) {p : Part} (h : I p) : I (takeDisplayFrame frame p) := by
  unfold Machine.takeDisplayFrame
  split
  · split
    · split
      · exact h
      · exact hk.realMark _ h
    · exact hk.books (grantCredit_booksStand _ p) h
    · split
      · exact h
      · exact hk.books (raise_booksStand _ _ p) h
  · split
    · exact h
    · exact hk.books (raise_booksStand _ _ p) h

/-! ### Samples (R93 to R99) -/

theorem strokeSample (i : Fin 48) (s : Sample) {p : Part} (h : I p) : I (strokeSample i s p) := by
  by_cases he : ∃ c a, p.entry i = .opened c a
  · obtain ⟨c, a, he⟩ := he
    rw [strokeSample_eq he]
    simp only
    have htaken : I (p.setEntry i (.opened
        (takePoint (condition a.calibration a.boundsX a.boundsY (p.widthTable c.tool) s).1
          (c.markClipped (condition a.calibration a.boundsX a.boundsY (p.widthTable c.tool) s).2) a).1
        (takePoint (condition a.calibration a.boundsX a.boundsY (p.widthTable c.tool) s).1
          (c.markClipped (condition a.calibration a.boundsX a.boundsY (p.widthTable c.tool) s).2) a).2)) := by
      refine hk.books (.setEntry p i ?_ ?_) h <;> rw [takePoint_core, he] <;> rfl
    split
    · exact htaken
    · exact hk.emits i htaken
  · unfold Machine.strokeSample
    split
    · next c a hc => exact absurd ⟨c, a, hc⟩ he
    · exact h

theorem touchDown (seat : Fin 72) (s : Sample) (src : ErrorSource) {p : Part} (h : I p)
    (ho : (p.seat seat).openEntry = none) (hl : (p.seat seat).lockout = none) :
    I (touchDown seat s src p) := by
  unfold Machine.touchDown
  split
  · next layer isPrivate he =>
    obtain ⟨-, -, hopen, hroom⟩ : ∃ o, o = (layer, isPrivate) ∧
        (p.layer layer).state = .opened ∧ p.tableRoom seat = true := by
      cases hd : p.decision seat s with
      | none => rw [evaluate_of_none hd] at he; cases he
      | some o =>
        rw [evaluate_of_some hd, checkLayer_ok_iff] at he
        obtain ⟨heq, -, hopen, hroom⟩ := he
        cases heq
        exact ⟨_, rfl, hopen, hroom⟩
    unfold beginStroke
    split
    · next i hi => exact hk.begins seat s layer isPrivate i h ho hl hopen hroom hi
    · exact h
  · next reason _ =>
    obtain ⟨a, o, e, hr⟩ := refusalTold_frame seat reason src (p.refuse seat reason)
    rw [refuseTouch_eq, hr]
    exact hk.blocks (hk.locks seat reason h ho) rfl rfl rfl rfl rfl

theorem contactSample (seat : Fin 72) (s : Sample) (src : ErrorSource) {p : Part} (h : I p) :
    I (contactSample seat s src p) := by
  have habort : I (abortWindow seat p) := hk.blocks h rfl rfl rfl rfl rfl
  unfold Machine.contactSample
  simp only
  split
  · exact hk.strokeSample _ s habort
  · exact hk.books (countStrokes_booksStand _ _) habort
  · next ho hl => exact hk.touchDown seat s src habort ho hl

theorem endSeatStroke (seat : Fin 72) (reason : EndReason) {p : Part} (h : I p) :
    I (endSeatStroke seat reason p) := by
  unfold Machine.endSeatStroke
  split
  · exact hk.ends reason _ h
  · exact h

theorem handleSample (seat : Fin 72) (src : ErrorSource) (s : Sample) {p : Part} (h : I p) :
    I (handleSample seat src p s) := by
  unfold Machine.handleSample
  split
  · exact hk.contactSample seat s src h
  · have hlift : I (clearLockout seat (Machine.endSeatStroke seat .lifted p)) :=
      hk.unlocks seat (hk.endSeatStroke seat .lifted h)
    unfold liftSample
    simp only
    split
    · exact hk.blocks hlift rfl rfl rfl rfl rfl
    · exact hlift

theorem quietExpire (seat : Fin 72) {p : Part} (h : I p) : I (quietExpire seat p) :=
  hk.unlocks seat (hk.endSeatStroke seat .abandoned (hk.books (.setSeat p seat rfl rfl) h))

/-! ### The receivers (R1 to R9) -/

theorem takeInk (port : Port) (seat : Fin 72) (seq : Byte) (samples : List Sample) (src : ErrorSource)
    {p : Part} (h : I p) : I (takeInk port seat seq samples src p) := by
  have hcount := hk.books (countLink_booksStand port (fun c => { c with inkTaken := bump c.inkTaken }) p) h
  have hseat : ∀ q : Part, BooksStand q
      (q.setSeat seat { q.seat seat with accepted := bump (q.seat seat).accepted }) :=
    fun q => .setSeat q seat rfl rfl
  exact foldl_keeps (fun s => hk.handleSample seat src s) samples (hk.books (armQuiet_booksStand seat _)
    (hk.books (checkSequence_booksStand seat seq src _) (hk.books (hseat _) hcount)))

/-- A request is taken, and its owner keeps the property (R167, R168). -/
theorem takeRequest {owner : Part → Answer} (ho : ∀ {p}, I p → I (owner p).2) (head : RequestHead)
    {p : Part} (h : I p) : I (takeRequest head owner p) := by
  have hold : ∀ (q : Part) (b : Bool), BooksStand q (q.holdReply b) := fun _ _ =>
    .of_blocks rfl rfl rfl rfl rfl
  unfold Machine.takeRequest
  split
  · exact hk.books (raise_booksStand _ _ p) h
  · split
    · exact hk.books (joinReply_booksStand _ p) h
    · have hdone := hk.books (hold _ false) (ho (hk.books (hold p true) h))
      unfold finish
      split
      · exact hk.books (joinReply_booksStand _ _) hdone
      · exact hdone

theorem receive (port : Port) (frame : List Byte) (ho : ∀ r {p}, I p → I (ownerOf r p).2) {p : Part}
    (h : I p) : I (receive port frame p) := by
  have hraise : ∀ kind src count, I (raise kind src (p.countLink port count)) := fun kind src count =>
    hk.books ((countLink_booksStand port count p).trans (raise_booksStand kind src _)) h
  unfold Machine.receive
  split
  · split
    · exact h
    · exact hraise _ _ _
  · split
    · split
      · exact h
      · exact hraise _ _ _
    · split
      · refine hk.takeRequest (fun {q} hq => ?_) _ h
        unfold answerBody
        split
        · exact hq
        · split
          · exact hq
          · split
            · exact hq
            · exact ho _ hq
      · unfold misplaced
        split
        · exact h
        · exact hk.books (raise_booksStand _ _ p) h
    · split
      · exact h
      · unfold takeInkFrame
        split
        · exact hk.takeInk _ _ _ _ _ h
        · exact hraise _ _ _

/-! ### Requests (section 10.3) -/

/-- The six actions of LAYER_CONTROL and its refusals (R118 to R124). -/
theorem ownLayerControl (layer action : Byte) {p : Part} (h : I p) : I (ownLayerControl layer action p).2 := by
  have key : ∀ f : Fin 8 → Part → Answer, (∀ l, I (f l p).2) → I (withLayer layer f p).2 := fun f hf => by
    unfold withLayer
    split
    · exact hf _
    · exact hk.blocks h rfl rfl rfl rfl rfl
  have opened : ∀ l, I (p.setLayerState l .opened) := fun l => hk.restates l _ h nofun nofun
  unfold Machine.ownLayerControl
  split
  · refine key _ fun l => ?_
    unfold layerOpen
    split
    · exact h
    · simp only
      split
      · exact h
      · exact foldl_keeps (fun d => hk.joins _ d) _ (opened l)
  split
  · refine key _ fun l => ?_
    unfold layerFreeze
    split
    · exact h
    · exact hk.restates l .frozen h nofun nofun
  split
  · refine key _ fun l => ?_
    unfold layerThaw
    split
    · exact h
    · exact opened l
  split
  · refine key _ fun l => ?_
    unfold layerClose
    split
    · exact h
    · exact h
    · refine hk.restates l _ h (fun hs => ?_) fun hs => ?_
      · by_contra hn
        rw [if_neg hn] at hs
        cases hs
      · by_contra hn
        rw [if_pos (by omega)] at hs
        cases hs
  split
  · exact key _ fun l => hk.closes l h
  split
  · exact key _ fun l => hk.clears l h
  · exact key _ fun l => h

theorem ownUndo (seat : Byte) {p : Part} (h : I p) : I (ownUndo seat p).2 := by
  unfold Machine.ownUndo undoSeat
  split
  · split
    · exact h
    · next m list hm =>
      simp only
      split
      · exact h
      · refine hk.books (.withHistory _ ?_) (foldl_keeps (fun d => hk.joins (.retract m.id m.layer) d) _ h)
        have hsame : (m.delivered.toList.foldl (joinIfRoom (.retract m.id m.layer)) p).history = p.history :=
          List.foldlRecOn (motive := fun q : Part => q.history = p.history) _ _ rfl fun q hq d _ => by
            rw [← hq]
            unfold joinIfRoom
            split
            · obtain ⟨o, ho⟩ := joinInk_eq d (.retract m.id m.layer) none q
              rw [ho]
            · rfl
        rw [hsame]
        exact map_id_retractNewest hm
  · exact h

/-- A reset, hard or soft (R170, R187). -/
theorem resetBlocks (phase : Phase) (p : Part) : I (resetBlocks phase p) :=
  hk.blocks hk.reset rfl rfl rfl rfl rfl

/-- The owner of a request keeps the property. -/
theorem ownerOf (r : Request) {p : Part} (h : I p) : I (ownerOf r p).2 := by
  have stand : ∀ {q : Part}, q.seats = p.seats → q.assembler = p.assembler → q.layers = p.layers →
      q.queues = p.queues → q.history = p.history → I q := fun hs ha hl hq hh =>
    hk.blocks h hs ha hl hq hh
  have withSets : ∀ v, I { p with conditioning := { p.conditioning with sets := v } } :=
    fun _ => stand rfl rfl rfl rfl rfl
  cases r with
  | layerControl layer action => exact hk.ownLayerControl layer action h
  | flushQueue queue => exact hk.flushes queue h
  | undo seat => exact hk.ownUndo seat h
  | resetPart =>
    have hmonitor : ∀ m, I { Machine.resetBlocks .ready p with monitor := m } := fun _ =>
      hk.blocks hk.reset rfl rfl rfl rfl rfl
    exact hk.books (notice_booksStand _ _) (hmonitor _)
  | setRoomPriority mode =>
    simp only [Machine.ownerOf, ownSetRoomPriority]
    split
    · exact h
    · exact hk.books (roomChoose_booksStand _) (stand rfl rfl rfl rfl rfl)
  | setLayerMode w =>
    simp only [Machine.ownerOf, ownSetLayerMode]
    split
    · exact h
    · next l _ =>
      split
      · exact h
      · split
        · exact h
        · next m _ =>
          have hlayer : ∀ k, ((p.setLayer l { p.layer l with mode := m }).layer k).state = (p.layer k).state ∧
              ((p.setLayer l { p.layer l with mode := m }).layer k).openCount = (p.layer k).openCount := fun k => by
            rw [Part.layer_setLayer]
            split
            · next hk => rw [hk]; exact ⟨rfl, rfl⟩
            · exact ⟨rfl, rfl⟩
          exact hk.books ⟨{ RegisterStands.refl p with
            states := fun k => (hlayer k).1, counts := fun k => (hlayer k).2 }, { LedgerStands.refl p with }⟩ h
  | setQueue queue watermark policy =>
    simp only [Machine.ownerOf, ownSetQueue]
    split
    · exact h
    · exact hk.books (.setQueue p _ rfl rfl) h
  | readQueues clear =>
    simp only [Machine.ownerOf, ownReadQueues]
    split
    · exact hk.books (.withQueues p (fun d => by cases d <;> exact ⟨rfl, rfl⟩) rfl) h
    · exact h
    · exact h
  | readCounters clear first count =>
    simp only [Machine.ownerOf, ownReadCounters]
    split
    · next seats _ =>
      exact hk.books (clearCounters_booksStand seats p) h
    · exact h
    · exact h
  | readHistory count =>
    simp only [Machine.ownerOf, ownReadHistory]
    have hunread : ∀ n, I { p with history := { p.history with unread := n } } := fun _ =>
      hk.books (.withHistory p rfl) h
    split
    · exact hunread _
    · exact h
  | cancelCommit => exact stand rfl rfl rfl rfl rfl
  | readLayers => exact h
  | readErrors => exact h
  | writeIdentity w =>
    simp only [Machine.ownerOf, ownWriteIdentity]
    repeat' split
    all_goals exact stand rfl rfl rfl rfl rfl
  | writeRule w =>
    simp only [Machine.ownerOf, ownWriteRule]
    repeat' split
    all_goals exact stand rfl rfl rfl rfl rfl
  | setDefaultAction page action =>
    simp only [Machine.ownerOf, ownSetDefaultAction]
    repeat' split
    all_goals exact stand rfl rfl rfl rfl rfl
  | selectPage page =>
    simp only [Machine.ownerOf, ownSelectPage]
    repeat' split
    all_goals exact stand rfl rfl rfl rfl rfl
  | commit skip =>
    simp only [Machine.ownerOf, ownCommit]
    repeat' split
    all_goals exact stand rfl rfl rfl rfl rfl
  | writeCalibration w =>
    simp only [Machine.ownerOf, ownWriteCalibration]
    repeat' split
    all_goals exact stand rfl rfl rfl rfl rfl
  | writeWidthTable tool entries =>
    simp only [Machine.ownerOf, ownWriteWidthTable]
    repeat' split
    all_goals exact stand rfl rfl rfl rfl rfl
  | setCanvas width height =>
    simp only [Machine.ownerOf, ownSetCanvas]
    repeat' split
    all_goals exact stand rfl rfl rfl rfl rfl
  | applyBaseline sets =>
    simp only [Machine.ownerOf, ownApplyBaseline]
    split
    · exact h
    · split
      · exact h
      · exact withSets _
  | discardStaged => simp only [Machine.ownerOf, ownDiscardStaged]; split <;> exact stand rfl rfl rfl rfl rfl
  | clearErrors kinds => simp only [Machine.ownerOf, ownClearErrors]; split <;> exact stand rfl rfl rfl rfl rfl
  | saveCalibration => simp only [Machine.ownerOf, ownSaveCalibration]; split <;> exact stand rfl rfl rfl rfl rfl
  | restoreFactory => simp only [Machine.ownerOf, ownRestoreFactory]; split <;> exact stand rfl rfl rfl rfl rfl
  | readIdentity seat copy =>
    simp only [Machine.ownerOf, ownReadIdentity]; split <;> exact stand rfl rfl rfl rfl rfl
  | readRule page index copy =>
    simp only [Machine.ownerOf, ownReadRule]; split <;> exact stand rfl rfl rfl rfl rfl
  | readMonitor clear => simp only [Machine.ownerOf, ownReadMonitor]; split <;> exact stand rfl rfl rfl rfl rfl
  | setTiming idle frame => simp only [Machine.ownerOf, ownSetTiming]; split <;> exact stand rfl rfl rfl rfl rfl
  | readCalibration set =>
    simp only [Machine.ownerOf, ownReadCalibration]; split <;> exact stand rfl rfl rfl rfl rfl
  | readWidthTable tool =>
    simp only [Machine.ownerOf, ownReadWidthTable]; split <;> exact stand rfl rfl rfl rfl rfl
  | readStrokes start => simp only [Machine.ownerOf, ownReadStrokes]; split <;> exact stand rfl rfl rfl rfl rfl
  | setErrorMask kind mask =>
    simp only [Machine.ownerOf, ownSetErrorMask]; split <;> exact stand rfl rfl rfl rfl rfl
  | setErrorSeverity kind severity =>
    simp only [Machine.ownerOf, ownSetErrorSeverity]; split <;> exact stand rfl rfl rfl rfl rfl

/-! ### Every command -/

theorem bridgeAccept {p : Part} (h : I p) : I (bridgeAccept p) := by
  have chosen : ∀ {q}, I q → I (roomChoose (q.setOffer .none)) := fun {q} hq =>
    hk.books ((roomChoose_booksStand _).after (p := q) rfl rfl rfl rfl rfl) hq
  unfold Machine.bridgeAccept
  split
  · exact h
  · refine chosen ?_
    unfold acceptReply
    split
    · exact h
    · exact hk.blocks h rfl rfl rfl rfl rfl
  · exact chosen (hk.departs _ _ _ h)

/-- Every command keeps the property. -/
theorem exec {c : Instr} {p q : Part} {rest : List Instr} (h : I p)
    (he : exec c ⟨p, rest⟩ = .next ⟨q, rest⟩) : I q := by
  cases hc : c.request? with
  | some x =>
    obtain ⟨req, r⟩ := x
    rw [exec_request hc] at he
    exact hk.event h (hk.takeRequest (hk.ownerOf r) _ h) he
  | none =>
    cases c with
    | powerOnReset => cases he; exact hk.blocks hk.reset rfl rfl rfl rfl rfl
    | resetnLow =>
      cases he
      unfold pinLow
      split
      · exact h
      · exact hk.resetBlocks _ p
    | resetEnd =>
      cases he
      refine hk.settle ?_
      unfold resetEnds
      split
      · exact hk.resetBlocks _ p
      · exact h
    | loadComplete => exact hk.event h (hk.books (loadComplete_booksStand p) h) he
    | boardLinkFrame frame => exact hk.event h (hk.receive .board frame hk.ownerOf h) he
    | roomLinkFrame frame => exact hk.event h (hk.receive .room frame hk.ownerOf h) he
    | quietExpiry seat =>
      refine hk.event h ?_ he
      split
      · exact hk.quietExpire seat h
      · exact h
    | frameMark number code => exact hk.event h (hk.takeDisplayFrame _ h) he
    | substituteMark =>
      refine hk.event h ?_ he
      split
      · exact hk.substituteMark h
      · exact h
    | creditGrant count code => exact hk.event h (hk.takeDisplayFrame _ h) he
    | displayFrameDiscard frame => exact hk.event h (hk.takeDisplayFrame _ h) he
    | displayTransmitEnd =>
      exact hk.event (f := fun p => { p with egress := { p.egress with displayBusy := false } }) h
        (hk.blocks h rfl rfl rfl rfl rfl) he
    | recordReadyChange asserted =>
      cases he
      exact hk.settle (hk.blocks h rfl rfl rfl rfl rfl)
    | recordTransmitEnd =>
      exact hk.event (f := fun p => { p with egress := { p.egress with recordBusy := false } }) h
        (hk.blocks h rfl rfl rfl rfl rfl) he
    | bridgeReadyChange ready =>
      cases he
      exact hk.settle (hk.blocks h rfl rfl rfl rfl rfl)
    | bridgeAccept => exact hk.event h (hk.bridgeAccept h) he
    | saveComplete success => exact hk.event h (hk.books (saveComplete_booksStand success p) h) he
    | unknownRequest req kind body =>
      refine hk.event h (hk.takeRequest (fun {q} hq => ?_) _ h) he
      unfold answerBody
      split
      · exact hq
      · split
        · exact hq
        · split
          · exact hq
          · exact hk.ownerOf _ hq
    | _ => cases hc

end Kept

end Sys2Proof.Machine
end

section
/-! SUPPORT. The laws of seats, stroke table, layers and ids said of the register, and the changes of the register
that keep them: a stroke begins, ends and leaves the table (R90 to R92, R94, R101, R105, R115). -/

namespace Sys2Proof.Machine

/-! ### Counting entries -/

/-- How many of different indexes satisfy a test, when the test changes at one. -/
theorem countP_change {α : Type} {l : List α} {i : α} {f g : α → Bool} (hl : l.Nodup) (hi : i ∈ l)
    (hfg : ∀ j, j ≠ i → g j = f j) : l.countP g + (f i).toNat = l.countP f + (g i).toNat := by
  obtain ⟨s, t, rfl⟩ := List.append_of_mem hi
  have hrest : ∀ j ∈ s ++ t, g j = f j := fun j hj => hfg j fun h =>
    (List.nodup_cons.1 (List.nodup_middle.1 hl)).1 (h ▸ hj)
  have hcons : ∀ h : α → Bool, (s ++ i :: t).countP h = (s ++ t).countP h + (h i).toNat := fun h => by
    rw [List.countP_append, List.countP_append, List.countP_cons, Nat.add_assoc]
    cases h i <;> rfl
  have hsame : (s ++ t).countP g = (s ++ t).countP f :=
    List.countP_congr fun j hj => by rw [hrest j hj]
  rw [hcons, hcons, hsame]
  omega

/-- The role of an entry's stroke (R89). -/
def Part.role (p : Part) (i : Fin 48) : Option StrokeRole := (p.entry i).role

/-- How many entries have a role that satisfies a test. -/
def Part.countRoles (p : Part) (f : Option StrokeRole → Bool) : Nat := (indexes 48).countP fun i => f (p.role i)

/-- Whether a role is that of a room seat's stroke (R90). -/
def ofRoomSeat (r : Option StrokeRole) : Bool := r.any fun r => isRoomSeat r.seat

/-- Whether a role is that of an OPEN stroke of a layer (R115). -/
def openOn (l : Fin 8) (r : Option StrokeRole) : Bool := r.any fun r => r.isOpen && decide (r.layer = l)

theorem countEntries_eq_countRoles (p : Part) {f : Entry → Bool} {g : Option StrokeRole → Bool}
    (h : ∀ x, f x = g x.role) : p.countEntries f = p.countRoles g := by
  rw [Part.countEntries, toList_eq_map, List.countP_map, Part.countRoles]
  exact List.countP_congr fun i _ => by rw [Function.comp_apply, h]; rfl

theorem countRoles_room (p : Part) : p.countEntries Entry.isRoomOccupied = p.countRoles ofRoomSeat :=
  countEntries_eq_countRoles p fun x => by cases x <;> rfl

theorem countRoles_open (p : Part) (l : Fin 8) :
    p.countEntries (Entry.isOpenOn l) = p.countRoles (openOn l) :=
  countEntries_eq_countRoles p fun x => by cases x <;> rfl

theorem role_eq_none {x : Entry} : x.role = none ↔ x = .free := by cases x <;> simp [Entry.role]

theorem Part.countRoles_congr {p q : Part} (h : ∀ j, q.role j = p.role j) (f : Option StrokeRole → Bool) :
    q.countRoles f = p.countRoles f :=
  List.countP_congr fun j _ => by rw [h]

/-- How the number of roles that satisfy a test follows a change of one role. -/
theorem Part.countRoles_change {p q : Part} {i : Fin 48} (h : ∀ j, j ≠ i → q.role j = p.role j)
    (f : Option StrokeRole → Bool) :
    q.countRoles f + (f (p.role i)).toNat = p.countRoles f + (f (q.role i)).toNat :=
  countP_change (f := fun i => f (p.role i)) (g := fun i => f (q.role i)) (indexes_nodup 48) (mem_indexes i)
    fun j hj => congrArg f (h j hj)

/-! ### The laws of the register -/

/-- The ids of the summaries in the history list (R92, R157). -/
def Part.summaryIds (p : Part) : List Nat := p.history.list.map Summary.id

/-- Seats, stroke table, layers and ids agree (R90, R91, R92, R115, R122). -/
structure RegisterSound (p : Part) : Prop where
  reference : ∀ s i, (p.seat s).openEntry = some i ↔ ∃ r, p.role i = some r ∧ r.isOpen = true ∧ r.seat = s
  exclusive : ∀ s, (p.seat s).openEntry = none ∨ (p.seat s).lockout = none
  share : p.countRoles ofRoomSeat ≤ 40
  count : ∀ l, (p.layer l).openCount = p.countRoles (openOn l)
  closed : ∀ l, (p.layer l).state = .closed → (p.layer l).openCount = 0
  draining : ∀ l, (p.layer l).state = .draining → 1 ≤ (p.layer l).openCount
  distinct : ∀ i j r r', p.role i = some r → p.role j = some r' → r.id = r'.id → i = j
  summaries : p.summaryIds.Nodup
  apart : ∀ i r, p.role i = some r → r.id ∉ p.summaryIds
  entryRange : ∀ i r, p.role i = some r → 1 ≤ r.id ∧ r.id ≤ 65535
  summaryRange : ∀ v ∈ p.summaryIds, 1 ≤ v ∧ v ≤ 65535
  next : 1 ≤ p.assembler.nextId ∧ p.assembler.nextId ≤ 65535
  limit : p.summaryIds.length ≤ 256

theorem role_eq_open {x : Entry} {s : Fin 72} :
    (∃ r, x.role = some r ∧ r.isOpen = true ∧ r.seat = s) ↔ ∃ c a, x = .opened c a ∧ c.seat = s := by
  cases x <;> simp [Entry.role, StrokeCore.role]

/-- The ids of the occupied entries, in index order. -/
theorem heldIds_eq (p : Part) :
    p.heldIds = ((indexes 48).filterMap fun i => (p.role i).map StrokeRole.id) ++ p.summaryIds := by
  rw [Part.heldIds, toList_eq_map, List.filterMap_map, List.map_filterMap]
  refine congrArg (· ++ p.summaryIds) (List.filterMap_congr fun i _ => ?_)
  show (p.entry i).core?.map _ = (p.entry i).role.map _
  cases p.entry i <;> rfl

theorem mem_entryIds {p : Part} {v : Nat} :
    v ∈ (indexes 48).filterMap (fun i => (p.role i).map StrokeRole.id) ↔ ∃ i r, p.role i = some r ∧ r.id = v := by
  simp only [List.mem_filterMap, mem_indexes, true_and, Option.map_eq_some_iff]

/-- Two entries do not hold one id. -/
def Part.IdsDiffer (p : Part) (i j : Fin 48) : Prop :=
  ∀ r r', p.role i = some r → p.role j = some r' → r.id ≠ r'.id

/-- No id is held twice exactly when entries have different ids, summaries do, and none has an id of the other. -/
theorem nodup_heldIds (p : Part) : p.heldIds.Nodup ↔
    (∀ i j r r', p.role i = some r → p.role j = some r' → r.id = r'.id → i = j) ∧ p.summaryIds.Nodup ∧
      ∀ i r, p.role i = some r → r.id ∉ p.summaryIds := by
  rw [heldIds_eq, List.nodup_append]
  refine and_congr ?_ (and_congr_right fun _ => ?_)
  · rw [List.Nodup, List.pairwise_filterMap]
    refine ⟨fun h i j r r' hi hj hid => ?_, fun h => ?_⟩
    · by_contra hne
      have hdiffer : (indexes 48).Pairwise p.IdsDiffer := h.imp fun hab r r' ha hb =>
        hab _ (by rw [ha]; rfl) _ (by rw [hb]; rfl)
      have hsymm : Std.Symm p.IdsDiffer := ⟨fun a b hab r r' hb ha hid => hab r' r ha hb hid.symm⟩
      exact hdiffer.forall (mem_indexes i) (mem_indexes j) hne r r' hi hj hid
    · refine (indexes_nodup 48).imp fun {i j} hne v hv w hw hvw => ?_
      obtain ⟨r, hi, rfl⟩ := Option.map_eq_some_iff.1 hv
      obtain ⟨r', hj, rfl⟩ := Option.map_eq_some_iff.1 hw
      exact hne (h i j r r' hi hj hvw)
  · refine ⟨fun h i r hi hm => h _ (mem_entryIds.2 ⟨i, r, hi, rfl⟩) _ hm rfl, fun h v hv w hw hvw => ?_⟩
    obtain ⟨i, r, hi, rfl⟩ := mem_entryIds.1 hv
    exact h i r hi (hvw ▸ hw)

/-- The laws of the register are those of seats, share, layers and ids. -/
theorem registerSound_iff (p : Part) :
    RegisterSound p ↔ p.SeatsAgree ∧ p.RoomShare ∧ p.LayersAgree ∧ p.IdsUnique := by
  have hlimit : p.summaryIds.length = p.history.list.length := List.length_map ..
  constructor
  · intro h
    refine ⟨⟨fun s i => (h.reference s i).trans role_eq_open, h.exclusive⟩, ?_, ⟨fun l => ?_, h.closed, h.draining⟩,
      (nodup_heldIds p).2 ⟨h.distinct, h.summaries, h.apart⟩, fun v hv => ?_, h.next, hlimit ▸ h.limit⟩
    · rw [Part.RoomShare, countRoles_room]
      exact h.share
    · rw [h.count, countRoles_open]
    · rw [heldIds_eq, List.mem_append, mem_entryIds] at hv
      rcases hv with ⟨i, r, hi, rfl⟩ | hv
      · exact h.entryRange i r hi
      · exact h.summaryRange v hv
  · rintro ⟨hseats, hshare, hlayers, hids⟩
    obtain ⟨hdistinct, hsummaries, hapart⟩ := (nodup_heldIds p).1 hids.nodup
    have hrange : ∀ v, (∃ i r, p.role i = some r ∧ r.id = v) ∨ v ∈ p.summaryIds → 1 ≤ v ∧ v ≤ 65535 := fun v hv =>
      hids.range v (by rw [heldIds_eq, List.mem_append, mem_entryIds]; exact hv)
    rw [Part.RoomShare, countRoles_room] at hshare
    exact ⟨fun s i => (hseats.reference s i).trans role_eq_open.symm, hseats.exclusive, hshare,
      fun l => (hlayers.count l).trans (countRoles_open p l), hlayers.closed, hlayers.draining, hdistinct, hsummaries,
      hapart, fun i r hi => hrange _ (.inl ⟨i, r, hi, rfl⟩), fun v hv => hrange v (.inr hv), hids.next,
      hlimit ▸ hids.history⟩

namespace RegisterSound

variable {p q : Part}

/-- A register that stands keeps its laws. -/
theorem stands (h : RegisterSound p) (hr : RegisterStands p q) : RegisterSound q := by
  have hrole : ∀ i, q.role i = p.role i := hr.roles
  have hids : q.summaryIds = p.summaryIds := hr.ids
  refine ⟨fun s i => ?_, fun s => ?_, ?_, fun l => ?_, fun l => ?_, fun l => ?_, ?_, ?_, ?_, ?_, ?_, ?_, ?_⟩
  all_goals simp only [hrole, hids, hr.references, hr.lockouts, hr.states, hr.counts, hr.nextId,
    Part.countRoles_congr hrole]
  exacts [h.reference s i, h.exclusive s, h.share, h.count l, h.closed l, h.draining l, h.distinct, h.summaries,
    h.apart, h.entryRange, h.summaryRange, h.next, h.limit]

/-- A change of lockouts that gives none to a seat with an open stroke (R91, R96). -/
theorem locked (h : RegisterSound p) (hs : ∀ s, (q.seat s).openEntry = (p.seat s).openEntry ∧
      ((q.seat s).openEntry = none ∨ (q.seat s).lockout = none))
    (ha : q.assembler = p.assembler) (hl : q.layers = p.layers) (hh : q.history = p.history) :
    RegisterSound q := by
  have hentry : ∀ i, q.role i = p.role i := fun i => congrArg (fun b : Assembler => (look b.entries i).role) ha
  have hseat : RegisterStands p { q with seats := p.seats } := ⟨fun _ => rfl, fun _ => rfl, hentry,
    fun l => congrArg (fun b : Vector Layer 8 => (look b l).state) hl,
    fun l => congrArg (fun b : Vector Layer 8 => (look b l).openCount) hl, by rw [hh], by rw [ha]⟩
  have hq := h.stands hseat
  exact { hq with
    reference := fun s i => by rw [(hs s).1]; exact hq.reference s i
    exclusive := fun s => (hs s).2 }

/-- A change of one layer's state that R115 and R122 allow. -/
theorem restated (h : RegisterSound p) {l : Fin 8} {st : LayerState}
    (hc : st = .closed → (p.layer l).openCount = 0) (hd : st = .draining → 1 ≤ (p.layer l).openCount) :
    RegisterSound (p.setLayerState l st) := by
  have hlayer : ∀ k, (p.setLayerState l st).layer k =
      if k = l then { p.layer l with state := st } else p.layer k := fun k => Part.layer_setLayer ..
  refine { h with
    count := fun k => ?_
    closed := fun k => ?_
    draining := fun k => ?_ }
  all_goals rw [hlayer]; split
  · next hk => exact hk ▸ h.count k
  · exact h.count k
  · exact hc
  · exact h.closed k
  · exact hd
  · exact h.draining k

/-- A stroke that is ENDING leaves the table, and its id goes to the end of the history list (R105, R158). -/
theorem freed (h : RegisterSound p) {i : Fin 48} {r : StrokeRole} {kept : List Nat} (hi : p.role i = some r)
    (ho : r.isOpen = false) (hs : q.seats = p.seats) (hl : q.layers = p.layers)
    (hfree : q.role i = none) (hother : ∀ j, j ≠ i → q.role j = p.role j)
    (hn : q.assembler.nextId = p.assembler.nextId) (hkept : kept.Sublist p.summaryIds)
    (hids : q.summaryIds = kept ++ [r.id]) (hlimit : q.summaryIds.length ≤ 256) : RegisterSound q := by
  have hseat : ∀ s, q.seat s = p.seat s := fun s => congrArg (look · s) hs
  have hlayer : ∀ l, q.layer l = p.layer l := fun l => congrArg (look · l) hl
  have hold : ∀ j r', q.role j = some r' → j ≠ i ∧ p.role j = some r' := fun j r' hj => by
    have hne : j ≠ i := fun hji => by rw [hji, hfree] at hj; cases hj
    exact ⟨hne, hother j hne ▸ hj⟩
  have hcount : ∀ l, q.countRoles (openOn l) = p.countRoles (openOn l) := fun l => by
    have := Part.countRoles_change hother (openOn l)
    rw [hi, hfree] at this
    simpa [openOn, ho] using this
  refine ⟨fun s j => ?_, fun s => ?_, ?_, fun l => ?_, fun l => ?_, fun l => ?_, fun j k r₁ r₂ hj hk => ?_, ?_,
    fun j r' hj => ?_, fun j r' hj => ?_, ?_, ?_, hlimit⟩
  · rw [hseat, h.reference s j]
    by_cases hji : j = i
    · subst hji
      rw [hi, hfree]
      simp [ho]
    · rw [hother j hji]
  · rw [hseat]
    exact h.exclusive s
  · have := Part.countRoles_change hother ofRoomSeat
    rw [hfree] at this
    simp only [ofRoomSeat, Option.any_none, Bool.toNat_false] at this
    have := h.share
    unfold ofRoomSeat at *
    omega
  · rw [hlayer, hcount, h.count]
  · rw [hlayer]
    exact h.closed l
  · rw [hlayer]
    exact h.draining l
  · exact h.distinct j k r₁ r₂ (hold j r₁ hj).2 (hold k r₂ hk).2
  · rw [hids, List.nodup_append]
    refine ⟨h.summaries.sublist hkept, List.nodup_singleton _, fun v hv w hw hvw => h.apart i r hi ?_⟩
    rw [← List.mem_singleton.1 hw, ← hvw]
    exact hkept.subset hv
  · obtain ⟨hji, hj⟩ := hold j r' hj
    rw [hids, List.mem_append, List.mem_singleton]
    rintro (hm | hm)
    · exact h.apart j r' hj (hkept.subset hm)
    · exact hji (h.distinct j i r' r hj hi hm)
  · exact h.entryRange j r' (hold j r' hj).2
  · rw [hids]
    intro v hv
    rcases List.mem_append.1 hv with hv | hv
    · exact h.summaryRange v (hkept.subset hv)
    · rw [List.mem_singleton.1 hv]
      exact h.entryRange i r hi
  · rw [hn]
    exact h.next

/-- An OPEN stroke becomes ENDING: its seat is without it, and its layer has been told (R101, R115). -/
theorem ended (h : RegisterSound p) {i : Fin 48} {r : StrokeRole} (hi : p.role i = some r)
    (ho : r.isOpen = true) (hnow : q.role i = some { r with isOpen := false })
    (hother : ∀ j, j ≠ i → q.role j = p.role j)
    (hs : ∀ s, q.seat s = if s = r.seat then { p.seat s with openEntry := none } else p.seat s)
    (hl : ∀ l, q.layer l = if l = r.layer then (p.layer r.layer).strokeEnded else p.layer l)
    (hn : q.assembler.nextId = p.assembler.nextId) (hids : q.summaryIds = p.summaryIds) : RegisterSound q := by
  have hold : ∀ j r', q.role j = some r' → ∃ r₀, p.role j = some r₀ ∧ r₀.id = r'.id := fun j r' hj => by
    by_cases hji : j = i
    · subst hji
      rw [hnow] at hj
      cases hj
      exact ⟨r, hi, rfl⟩
    · exact ⟨r', hother j hji ▸ hj, rfl⟩
  have hcount : ∀ l, q.countRoles (openOn l) + (decide (r.layer = l)).toNat = p.countRoles (openOn l) := fun l => by
    have := Part.countRoles_change hother (openOn l)
    rw [hi, hnow] at this
    simpa [openOn, ho] using this
  have hown : 1 ≤ (p.layer r.layer).openCount := by
    rw [h.count, ← hcount, decide_eq_true rfl]
    exact Nat.le_add_left ..
  refine ⟨fun s j => ?_, fun s => ?_, ?_, fun l => ?_, fun l hc => ?_, fun l hd => ?_,
    fun j k r₁ r₂ hj hk hid => ?_, ?_, fun j r' hj => ?_, fun j r' hj => ?_, ?_, ?_, ?_⟩
  · rw [hs]
    by_cases hji : j = i
    · subst hji
      have hnot : (p.seat s).openEntry = some j ↔ r.seat = s := by
        rw [h.reference, hi]
        simp [ho]
      rw [hnow]
      split
      · simp
      · next hne => simp [hnot, Ne.symm hne]
    · rw [hother j hji, ← h.reference]
      split
      · next hsr =>
        have : (p.seat s).openEntry = some i := (h.reference s i).2 ⟨r, hi, ho, hsr.symm⟩
        simp [this, Ne.symm hji]
      · rfl
  · rw [hs]
    split
    · exact .inl rfl
    · exact h.exclusive s
  · have := Part.countRoles_change hother ofRoomSeat
    rw [hi, hnow] at this
    exact (Nat.add_right_cancel this).le.trans h.share
  · rw [hl]
    have := hcount l
    split
    · next hlr =>
      subst hlr
      have hp := h.count r.layer
      rw [decide_eq_true rfl, Bool.toNat_true] at this
      show (p.layer r.layer).openCount - 1 = _
      omega
    · next hne =>
      rw [decide_eq_false (Ne.symm hne)] at this
      exact (h.count l).trans this.symm
  · rw [hl] at hc ⊢
    split
    · next hlr =>
      rw [if_pos hlr] at hc
      unfold Layer.strokeEnded at hc ⊢
      dsimp only at hc ⊢
      split at hc
      · next hdone => exact hdone.2
      · exact absurd (h.closed _ hc) (by omega)
    · next hne =>
      rw [if_neg hne] at hc
      exact h.closed l hc
  · rw [hl] at hd ⊢
    split
    · next hlr =>
      rw [if_pos hlr] at hd
      unfold Layer.strokeEnded at hd ⊢
      dsimp only at hd ⊢
      split at hd
      · cases hd
      · next hnot => exact Nat.one_le_iff_ne_zero.2 fun hz => hnot ⟨hd, hz⟩
    · next hne =>
      rw [if_neg hne] at hd
      exact h.draining l hd
  · obtain ⟨r₁', hj, he₁⟩ := hold j r₁ hj
    obtain ⟨r₂', hk, he₂⟩ := hold k r₂ hk
    exact h.distinct j k r₁' r₂' hj hk (he₁.trans (hid.trans he₂.symm))
  · rw [hids]
    exact h.summaries
  · obtain ⟨r₀, hj, he⟩ := hold j r' hj
    rw [hids, ← he]
    exact h.apart j r₀ hj
  · obtain ⟨r₀, hj, he⟩ := hold j r' hj
    rw [← he]
    exact h.entryRange j r₀ hj
  · rw [hids]
    exact h.summaryRange
  · rw [hn]
    exact h.next
  · rw [hids]
    exact h.limit

/-- A stroke begins in a FREE entry, with an id that nothing holds, on a layer that is OPEN (R94). -/
theorem begun (h : RegisterSound p) {i : Fin 48} {r : StrokeRole} (hi : p.role i = none) (ho : r.isOpen = true)
    (hnow : q.role i = some r) (hother : ∀ j, j ≠ i → q.role j = p.role j)
    (hfree : (p.seat r.seat).openEntry = none) (hlock : (p.seat r.seat).lockout = none)
    (hs : ∀ s, q.seat s = if s = r.seat then { p.seat s with openEntry := some i } else p.seat s)
    (hopen : (p.layer r.layer).state = .opened)
    (hl : ∀ l, q.layer l = if l = r.layer then
      { p.layer r.layer with openCount := (p.layer r.layer).openCount + 1 } else p.layer l)
    (hroom : isRoomSeat r.seat = true → p.countRoles ofRoomSeat < 40)
    (hnew : ∀ j r', p.role j = some r' → r'.id ≠ r.id) (hapart : r.id ∉ p.summaryIds)
    (hrange : 1 ≤ r.id ∧ r.id ≤ 65535) (hn : 1 ≤ q.assembler.nextId ∧ q.assembler.nextId ≤ 65535)
    (hids : q.summaryIds = p.summaryIds) : RegisterSound q := by
  have hold : ∀ j r', q.role j = some r' → j = i ∧ r' = r ∨ j ≠ i ∧ p.role j = some r' := fun j r' hj => by
    by_cases hji : j = i
    · subst hji
      exact .inl ⟨rfl, Option.some.inj (hj.symm.trans hnow)⟩
    · exact .inr ⟨hji, hother j hji ▸ hj⟩
  have hcount : ∀ l, q.countRoles (openOn l) = p.countRoles (openOn l) + (decide (r.layer = l)).toNat := fun l => by
    have := Part.countRoles_change hother (openOn l)
    rw [hi, hnow] at this
    simpa [openOn, ho] using this
  refine ⟨fun s j => ?_, fun s => ?_, ?_, fun l => ?_, fun l => ?_, fun l => ?_, fun j k r₁ r₂ hj hk hid => ?_, ?_,
    fun j r' hj => ?_, fun j r' hj => ?_, ?_, hn, ?_⟩
  · rw [hs]
    by_cases hji : j = i
    · subst hji
      have hnot : (p.seat s).openEntry ≠ some j := fun hs => by
        obtain ⟨r', hj, -⟩ := (h.reference s j).1 hs
        rw [hi] at hj
        cases hj
      rw [hnow]
      split
      · next hsr => simp [hsr, ho]
      · next hne => simp [hnot, Ne.symm hne]
    · rw [hother j hji, ← h.reference]
      split
      · next hsr => rw [hsr, hfree]; simp [Ne.symm hji]
      · rfl
  · rw [hs]
    split
    · next hsr => exact .inr (hsr ▸ hlock)
    · exact h.exclusive s
  · have := Part.countRoles_change hother ofRoomSeat
    rw [hi, hnow] at this
    have hshare := h.share
    simp only [ofRoomSeat, Option.any_none, Option.any_some, Bool.toNat_false, Nat.add_zero] at this hroom hshare ⊢
    cases hr : isRoomSeat r.seat
    · rw [hr, Bool.toNat_false] at this
      omega
    · rw [hr, Bool.toNat_true] at this
      have := hroom hr
      omega
  · rw [hl, hcount]
    split
    · next hlr => rw [hlr, decide_eq_true rfl, ← h.count]; rfl
    · next hne => rw [decide_eq_false (Ne.symm hne), ← h.count]; rfl
  · rw [hl]
    split
    · exact fun hc => by rw [hopen] at hc; cases hc
    · exact h.closed l
  · rw [hl]
    split
    · exact fun hc => by rw [hopen] at hc; cases hc
    · exact h.draining l
  · rcases hold j r₁ hj with ⟨rfl, rfl⟩ | ⟨-, hj⟩ <;> rcases hold k r₂ hk with ⟨rfl, rfl⟩ | ⟨-, hk⟩
    · rfl
    · exact absurd hid.symm (hnew k r₂ hk)
    · exact absurd hid (hnew j r₁ hj)
    · exact h.distinct j k r₁ r₂ hj hk hid
  · rw [hids]
    exact h.summaries
  · rw [hids]
    rcases hold j r' hj with ⟨-, rfl⟩ | ⟨-, hj⟩
    · exact hapart
    · exact h.apart j r' hj
  · rcases hold j r' hj with ⟨-, rfl⟩ | ⟨-, hj⟩
    · exact hrange
    · exact h.entryRange j r' hj
  · rw [hids]
    exact h.summaryRange
  · rw [hids]
    exact h.limit

end RegisterSound

end Sys2Proof.Machine
end

section
/-! SUPPORT. Every operation on strokes, queues and layers keeps the laws of the register (R90 to R92, R115, R122), and
so every command does. -/

namespace Sys2Proof.Machine

/-! ### Operations that leave the register -/

theorem InkStep.registerStands {p q : Part} (h : InkStep p q) : RegisterStands p q where
  references s := by rw [Part.seat, Part.seat, h.seats]
  lockouts s := by rw [Part.seat, Part.seat, h.seats]
  roles i := (h.entries i).role
  states l := by rw [Part.layer, Part.layer, h.layers]
  counts l := by rw [Part.layer, Part.layer, h.layers]
  ids := by rw [h.history]
  nextId := h.nextId

/-- The hands of an END leave the register, once its entry is ENDING. -/
theorem EndStep.registerStands {p q : Part} {i : Fin 48} {c : StrokeCore} {e : Ending} (h : EndStep i p q)
    (hi : p.entry i = .ending c e) : RegisterStands p q where
  references s := by rw [h.fixed]; rfl
  lockouts s := by rw [h.fixed]; rfl
  roles j := by
    by_cases hj : j = i
    · subst hj
      obtain ⟨c', w, d, hq, hl⟩ := h.entry c e hi
      rw [hq, hi]
      exact (Entry.Like.ending (e := e) hl).role
    · exact (h.others j hj).role
  states l := by rw [h.fixed]; rfl
  counts l := by rw [h.fixed]; rfl
  ids := by rw [h.fixed]
  nextId := by rw [h.fixed]

theorem setQueue_registerStands (p : Part) (d : Dest) (v : InkQueue) : RegisterStands p (p.setQueue d v) :=
  ⟨fun _ => rfl, fun _ => rfl, fun _ => rfl, fun _ => rfl, fun _ => rfl, rfl, rfl⟩

theorem send_registerStands (link : Link) (frame : List Byte) (p : Part) :
    RegisterStands p (send link frame p) :=
  ⟨fun _ => rfl, fun _ => rfl, fun _ => rfl, fun _ => rfl, fun _ => rfl, rfl, rfl⟩

theorem holdSlots_registerStands (p : Part) (held : DestSet) : RegisterStands p (p.holdSlots held) :=
  ⟨fun _ => rfl, fun _ => rfl, fun _ => rfl, fun _ => rfl, fun _ => rfl, rfl, rfl⟩

theorem joinInk_registerStands (d : Dest) (r : InkRecord) (serial : Option Nat) (p : Part) :
    RegisterStands p (joinInk d r serial p) := by
  obtain ⟨o, h⟩ := joinInk_eq d r serial p
  rw [h]
  exact ⟨fun _ => rfl, fun _ => rfl, fun _ => rfl, fun _ => rfl, fun _ => rfl, rfl, rfl⟩

theorem joinIfRoom_registerStands (r : InkRecord) (p : Part) (d : Dest) :
    RegisterStands p (joinIfRoom r p d) := by
  unfold joinIfRoom
  split
  · exact joinInk_registerStands d r none p
  · exact .refl p

/-- A change of an entry's ending state leaves its role. -/
theorem updateEnding_registerStands (i : Fin 48) (f : Ending → Ending) (p : Part) :
    RegisterStands p (p.updateEnding i f) := by
  unfold Part.updateEnding
  split
  · next c e he =>
    refine { RegisterStands.refl p with roles := fun j => ?_ }
    rw [Part.entry_setEntry]
    split
    · next hj => rw [hj, he]; rfl
    · rfl
  · exact .refl p

/-! ### Begin, end and completion -/

theorem Part.placed_seat (p : Part) (i : Fin 48) (c : StrokeCore) (a : Assembly) (s : Fin 72) :
    (p.placed i c a).seat s =
      if s = c.seat then { p.seat s with openEntry := some i } else p.seat s := by
  have h : (p.placed i c a).seat s =
      (p.setSeat c.seat { p.seat c.seat with openEntry := some i }).seat s := rfl
  rw [h, Part.seat_setSeat]
  split
  · next hs => rw [hs]
  · rfl

theorem Part.placed_entry (p : Part) (i : Fin 48) (c : StrokeCore) (a : Assembly) (j : Fin 48) :
    (p.placed i c a).entry j = if j = i then .opened c a else p.entry j :=
  Part.entry_setEntry p i j (.opened c a)

theorem Part.closing_seat (p : Part) (i : Fin 48) (reason : EndReason) (seat : Fin 72) (c : StrokeCore)
    (final : Point) (s : Fin 72) : (p.closing i reason seat c final).seat s =
      if s = seat then { p.seat s with openEntry := none } else p.seat s := by
  have h : (p.closing i reason seat c final).seat s =
      (p.setSeat seat { p.seat seat with openEntry := none }).seat s := rfl
  rw [h, Part.seat_setSeat]
  split
  · next hs => rw [hs]
  · rfl

theorem History.append_list (h : History) (s : Summary) : ∃ kept, kept.Sublist h.list ∧
    (h.append s).list = kept ++ [s] ∧ (h.list.length ≤ 256 → (h.append s).list.length ≤ 256) := by
  by_cases hl : h.list.length < 256
  · rw [History.append_of_room hl]
    exact ⟨h.list, .refl _, rfl, fun _ => by simpa using hl⟩
  · have hdrop : (h.append s).list = h.list.drop 1 ++ [s] := by
      have hfull : Config.historyLimit ≤ h.list.length := Nat.not_lt.1 hl
      rw [History.append, if_pos hfull]
      split <;> rfl
    refine ⟨_, List.drop_sublist 1 _, hdrop, fun h256 => ?_⟩
    rw [hdrop, List.length_append, List.length_drop, List.length_singleton]
    omega

/-- A completion keeps the laws (R105). -/
theorem RegisterSound.complete {p : Part} (h : RegisterSound p) (i : Fin 48) :
    RegisterSound (complete i p) := by
  by_cases he : ∃ c e, p.entry i = .ending c e
  · obtain ⟨c, e, he⟩ := he
    rw [complete_eq he]
    obtain ⟨kept, hkept, hlist, hlimit⟩ := p.history.append_list (summaryOf c e)
    have hids : (p.history.append (summaryOf c e)).list.map Summary.id = kept.map Summary.id ++ [c.id] := by
      rw [hlist, List.map_append]
      rfl
    have hlength : ((p.history.append (summaryOf c e)).list.map Summary.id).length ≤ 256 := by
      rw [List.length_map]
      exact hlimit (by simpa [Part.summaryIds] using h.limit)
    exact h.freed (i := i) (r := c.role false) (kept := kept.map Summary.id) (congrArg Entry.role he) rfl rfl rfl
      (congrArg Entry.role (Part.entry_setEntry_same p i .free))
      (fun j hj => congrArg Entry.role (Part.entry_setEntry_other p .free hj)) rfl (hkept.map _) hids hlength
  · rw [complete_self fun c e hc => he ⟨c, e, hc⟩]
    exact h

theorem RegisterSound.completeIfDone {p : Part} (h : RegisterSound p) (i : Fin 48) :
    RegisterSound (completeIfDone i p) := by
  unfold Machine.completeIfDone
  split
  · split
    · exact h.complete i
    · exact h
  · exact h

theorem Part.role_of_opened {p : Part} {i : Fin 48} {c : StrokeCore} {a : Assembly}
    (h : p.entry i = .opened c a) : p.role i = some (c.role true) := congrArg Entry.role h

theorem lowestFree_free {p : Part} {i : Fin 48} (h : p.lowestFree = some i) : p.entry i = .free := by
  have := List.find?_some h
  rw [Bool.not_eq_true'] at this
  exact isOccupied_eq_false.1 this

/-- The end of a stroke keeps the laws (R101). -/
theorem RegisterSound.endStroke {p : Part} (h : RegisterSound p) (reason : EndReason) (i : Fin 48) :
    RegisterSound (endStroke reason p i) := by
  by_cases he : ∃ c a, p.entry i = .opened c a
  · obtain ⟨c, a, he⟩ := he
    obtain ⟨sent, c', e', q, hout⟩ := endStroke_handsOut reason he
    have hsent : (sent.finished a.lastContact).role true = c.role true := by rw [hout.core.flags]; rfl
    have hq : RegisterSound q := by
      refine RegisterSound.stands ?_ (hout.blocks.registerStands (p.closing_entry ..))
      have hemit := emitPoints_inkStep i p
      refine h.ended (r := c.role true) (Part.role_of_opened he) rfl ?_ (fun j hj => ?_) (fun s => ?_) (fun l => ?_)
        hemit.nextId (congrArg (fun b : History => b.list.map Summary.id) hemit.history)
      · rw [← hsent]
        exact congrArg Entry.role (p.closing_entry ..)
      · exact (congrArg Entry.role (Part.entry_setEntry_other _ _ hj)).trans (hemit.entries j).role
      · exact p.closing_seat i reason c.seat _ _ s
      · have hlayer : sent.layer = c.layer := by rw [hout.core.flags]
        show look (put (emitPoints i p).layers sent.layer (look (emitPoints i p).layers sent.layer).strokeEnded) l = _
        rw [look_put, hlayer, hemit.layers]
        rfl
    rw [hout.ends]
    refine RegisterSound.stands ?_ (countStrokes_booksStand _ _).register
    split
    · rw [← complete_eq hout.entry.entry]
      exact hq.complete i
    · exact hq.stands (countStrokes_booksStand _ _).register
  · rw [endStroke_self reason fun c a hc => he ⟨c, a, hc⟩]
    exact h

/-- A stroke that an admitted touch-down begins keeps the laws (R94). -/
theorem RegisterSound.placeStroke {p : Part} (h : RegisterSound p) {seat : Fin 72} (s : Sample) {layer : Fin 8}
    (isPrivate : Bool) {i : Fin 48} (ho : (p.seat seat).openEntry = none) (hk : (p.seat seat).lockout = none)
    (hopen : (p.layer layer).state = .opened) (hroom : p.tableRoom seat = true) (hi : p.lowestFree = some i) :
    RegisterSound (placeStroke i (newStroke seat s layer isPrivate p).1 (newStroke seat s layer isPrivate p).2 p) := by
  obtain ⟨c, hc⟩ : ∃ c, c = (newStroke seat s layer isPrivate p).1 := ⟨_, rfl⟩
  have hid : c.id = p.allocatedId := by rw [hc]; rfl
  have hseat : c.seat = seat := by rw [hc]; rfl
  have hlayer : c.layer = layer := by rw [hc]; rfl
  rw [← hc]
  generalize (newStroke seat s layer isPrivate p).2 = a
  have hfree := lowestFree_free hi
  have hlist : p.history.list.length ≤ Config.historyLimit := by
    rw [← List.length_map Summary.id]
    exact h.limit
  obtain ⟨-, -, -, hnew, -, hrange⟩ := allocatedId_first hfree hlist h.next.1 h.next.2
  rw [heldIds_eq, List.mem_append, mem_entryIds, not_or] at hnew
  have hplaced : RegisterSound (p.placed i c a) := by
    subst hseat hlayer
    refine h.begun (r := c.role true) (role_eq_none.2 hfree) rfl
      (by rw [Part.role, Part.placed_entry, if_pos rfl]; rfl)
      (fun j hj => by rw [Part.role, Part.placed_entry, if_neg hj]; rfl) ho hk (p.placed_seat i c a) hopen (Part.placed_layer p i c a) (fun hr => ?_)
      (fun j r' hj hid' => hnew.1 ⟨j, r', hj, hid'.trans hid⟩) ?_ ?_ ?_ rfl
    · rw [← countRoles_room]
      exact ((tableRoom_iff p c.seat).1 hroom).2 (of_decide_eq_true hr)
    · show c.id ∉ _
      rw [hid]
      exact hnew.2
    · show 1 ≤ c.id ∧ c.id ≤ 65535
      rw [hid]
      exact hrange
    · show 1 ≤ nextIdAfter c.id ∧ nextIdAfter c.id ≤ 65535
      unfold nextIdAfter
      split <;> omega
  rw [placeStroke_eq]
  refine hplaced.stands (RegisterStands.trans ?_ (countStrokes_booksStand _ _).register)
  exact (InkStep.foldl (handBegin_inkStep i c (beginRecord c a)) _ _).registerStands

/-! ### Departures, layers and flushes -/

theorem RegisterSound.serveWaiting {p : Part} (h : RegisterSound p) (d : Dest) :
    RegisterSound (serveWaiting d p) := by
  unfold Machine.serveWaiting
  split
  · exact h
  · next i rest _ =>
    have hset := h.stands (setQueue_registerStands p d { p.queue d with waiting := rest })
    simp only
    split
    · refine RegisterSound.completeIfDone ?_ i
      exact (hset.stands (joinInk_registerStands d _ _ _)).stands (updateEnding_registerStands i _ _)
    · exact hset

theorem RegisterSound.depart {p : Part} (h : RegisterSound p) (d : Dest) (link : Link)
    (frame : QueueItem → List Byte) : RegisterSound (depart d link frame p) := by
  unfold Machine.depart
  split
  · exact h
  · refine RegisterSound.serveWaiting ?_ d
    exact ((h.stands (setQueue_registerStands p d _)).stands (countQueue_booksStand d _ _).register).stands
      (send_registerStands link _ _)

theorem Entry.Like.isOpenOn {x y : Entry} (h : x.Like y) (l : Fin 8) : y.isOpenOn l = x.isOpenOn l := by
  cases h with
  | free => rfl
  | opened hc => rw [hc]; rfl
  | ending => rfl

/-- When the strokes of a layer have ended, no entry is an OPEN stroke of the layer (R110). -/
theorem layerStrokes_ended (reason : EndReason) (l : Fin 8) (p : Part) (i : Fin 48) :
    (((p.layerStrokes l).foldl (endStroke reason) p).entry i).isOpenOn l = false := by
  have h := endStrokes_ended reason (p.layerStrokes l) ((openEntries_pairwise p _).imp ne_of_lt) p fun j hj => by
    obtain ⟨c, a, he, -⟩ := mem_openEntries.1 hj
    exact ⟨c, a, he⟩
  by_cases hi : i ∈ p.layerStrokes l
  · obtain ⟨c, a, he, -⟩ := mem_openEntries.1 hi
    rcases h.ended i hi c a he with hq | ⟨c', e, hq, -⟩ <;> rw [hq] <;> rfl
  · have hnot : (p.entry i).isOpenOn l = false := by
      cases he : p.entry i with
      | opened c a => exact Bool.eq_false_of_not_eq_true fun ht => hi (mem_openEntries.2 ⟨c, a, he, ht⟩)
      | _ => rfl
    rw [(h.others i hi).isOpenOn, hnot]

theorem countEntries_eq_zero {p : Part} {f : Entry → Bool} (h : ∀ i, f (p.entry i) = false) :
    p.countEntries f = 0 := by
  rw [Part.countEntries, toList_eq_map, List.countP_eq_zero, List.forall_mem_map]
  exact fun i _ hf => Bool.noConfusion ((h i).symm.trans hf)

theorem RegisterSound.endStrokes {p : Part} (h : RegisterSound p) (reason : EndReason) (l : List (Fin 48)) :
    RegisterSound (l.foldl (Machine.endStroke reason) p) :=
  foldl_keeps (fun i hq => hq.endStroke reason i) l h

theorem RegisterSound.layerCloseNow {p : Part} (h : RegisterSound p) (l : Fin 8) :
    RegisterSound (layerCloseNow l p).2 := by
  unfold Machine.layerCloseNow
  split
  · exact h
  · have hends := h.endStrokes .cancelled (p.layerStrokes l)
    refine hends.restated (fun _ => ?_) nofun
    rw [hends.count, ← countRoles_open]
    exact countEntries_eq_zero (layerStrokes_ended .cancelled l p)

/-- A history list that loses summaries keeps the laws (R127). -/
theorem RegisterSound.withHistory {p : Part} (h : RegisterSound p) {v : History}
    (hv : v.list.Sublist p.history.list) : RegisterSound { p with history := v } := by
  have hids : (v.list.map Summary.id).Sublist p.summaryIds := hv.map _
  exact { h with
    summaries := h.summaries.sublist hids
    apart := fun i r hi hm => h.apart i r hi (hids.subset hm)
    summaryRange := fun w hw => h.summaryRange w (hids.subset hw)
    limit := hids.length_le.trans h.limit }

theorem RegisterSound.layerClear {p : Part} (h : RegisterSound p) (l : Fin 8) :
    RegisterSound (layerClear l p).2 := by
  unfold Machine.layerClear
  split
  · exact h
  · simp only
    split
    · exact h
    · have hends := ((h.stands (holdSlots_registerStands p (p.layer l).mode.dests)).endStrokes .cleared
        (p.layerStrokes l)).stands (holdSlots_registerStands _ DestSet.empty)
      have hclear : RegisterSound (clearEffects l (p.layerStrokes l) p) :=
        foldl_keeps (fun d hq => hq.stands (joinIfRoom_registerStands _ _ d)) _ hends
      exact hclear.withHistory List.filter_sublist

theorem entry_suppressAll (d : Dest) (p : Part) (i : Fin 48) :
    (suppressAll d p).entry i = (p.entry i).suppress d := look_map ..

/-- The first two steps of a flush and the release of the waiting ENDs leave the register (R142). -/
theorem flush_registerStands (d : Dest) (p : Part) :
    RegisterStands p (releaseWaiting d (suppressAll d (flushRecords d p))) := by
  have hrecords : RegisterStands p (flushRecords d p) := by
    unfold flushRecords
    simp only
    split
    · exact ⟨fun _ => rfl, fun _ => rfl, fun _ => rfl, fun _ => rfl, fun _ => rfl, rfl, rfl⟩
    · exact setQueue_registerStands p d _
  have hsuppress : ∀ q, RegisterStands q (suppressAll d q) := fun q => by
    refine { RegisterStands.refl q with roles := fun i => ?_ }
    have hcore : ∀ (c : StrokeCore) b, (c.suppress d).role b = c.role b := fun c b => by
      unfold StrokeCore.suppress
      split <;> rfl
    rw [entry_suppressAll]
    cases q.entry i with
    | free => rfl
    | opened c a => exact congrArg some (hcore c true)
    | ending c e => exact congrArg some (hcore c false)
  have hrelease : ∀ q, RegisterStands q (releaseWaiting d q) := fun q => by
    refine RegisterStands.trans ?_ (setQueue_registerStands _ d _)
    exact foldl_keeps (I := RegisterStands q) (fun i hr => hr.trans (updateEnding_registerStands i _ _)) _ (.refl q)
  exact (hrecords.trans (hsuppress _)).trans (hrelease _)

theorem RegisterSound.ownFlushQueue {p : Part} (h : RegisterSound p) (queue : Byte) :
    RegisterSound (ownFlushQueue queue p).2 := by
  unfold Machine.ownFlushQueue
  split
  · exact h
  · next d _ =>
    have hdone : RegisterSound ((p.queue d).waiting.foldl (fun p i => Machine.completeIfDone i p)
        (releaseWaiting d (suppressAll d (flushRecords d p)))) :=
      foldl_keeps (fun i hq => hq.completeIfDone i) _ (h.stands (flush_registerStands d p))
    exact hdone.stands (roomChoose_booksStand _).register

/-! ### Every command -/

theorem registerSound_resetPart : RegisterSound resetPart := by
  refine (registerSound_iff _).2 ⟨resetPart_seatsAgree, ?_, resetPart_layersAgree, resetPart_idsUnique⟩
  rw [Part.RoomShare, countEntries_resetPart rfl]
  exact Nat.zero_le _

/-- The laws of the register are kept by every operation. -/
theorem registerSound_kept : Kept RegisterSound where
  reset := registerSound_resetPart
  books hb h := h.stands hb.register
  emits i h := h.stands (emitPoints_inkStep i _).registerStands
  ends reason i h := h.endStroke reason i
  departs d link frame h := h.depart d link frame
  begins seat s layer isPrivate i h := h.placeStroke s isPrivate
  locks {p} seat reason h ho := by
    refine h.locked (fun s => ?_) rfl rfl rfl
    rw [Part.seat_setSeat]
    split
    · next hs => exact ⟨by rw [hs], .inl ho⟩
    · exact ⟨rfl, h.exclusive s⟩
  unlocks {p} seat h := by
    refine h.locked (fun s => ?_) rfl rfl rfl
    show ((p.setSeat seat _).seat s).openEntry = _ ∧ _
    unfold clearLockout
    rw [Part.seat_setSeat]
    split
    · next hs => exact ⟨by rw [hs], .inr rfl⟩
    · exact ⟨rfl, h.exclusive s⟩
  joins r d h := h.stands (joinIfRoom_registerStands r _ d)
  restates l st h hc hd := h.restated hc hd
  closes l h := h.layerCloseNow l
  clears l h := h.layerClear l
  flushes queue h := h.ownFlushQueue queue

/-- Settles O54: the laws said of the register (`registerSound_iff`) are kept by every operation
(`registerSound_kept`), and so by every command (`Kept.exec`). -/
theorem everyCommandKeepsTheStrokeTable : Obligations.EveryCommandKeepsTheStrokeTable := by
  intro c p q rest hseats hshare hlayers hids he
  exact (registerSound_iff q).1
    (registerSound_kept.exec ((registerSound_iff p).2 ⟨hseats, hshare, hlayers, hids⟩) he)

end Sys2Proof.Machine
end

section
/-! SUPPORT. The laws of the waiting lists and of the record order, queue by queue: what one queue has to do with the
entries (R103, R104, R136, R141), and the changes of a queue that keep it. -/

namespace Sys2Proof.Machine

/-! ### One queue and the entries -/

/-- What one queue reads of an occupied entry: its stroke's serial number, whether it is ENDING, and whether its END
waits for the queue or has been delivered to it. -/
structure QueueView where
  serial : Nat
  ending : Bool
  waits : Bool
  delivered : Bool

/-- What a queue reads of a claim. -/
def viewOf (d : Dest) (c : Nat × Option Ending) : QueueView :=
  ⟨c.1, c.2.isSome, c.2.any fun e => e.waitsOn.has d, c.2.any fun e => e.delivered.has d⟩

/-- What the queues read of an entry. -/
def Part.claim (p : Part) (i : Fin 48) : Option (Nat × Option Ending) := (p.entry i).claim

/-- What one queue reads of an entry. -/
def Part.view (p : Part) (d : Dest) (i : Fin 48) : Option QueueView := (p.claim i).map (viewOf d)

/-- A record of a stroke may stand behind another: behind no END, and it is no BEGIN (R141). -/
def MayFollow (x y : QueueItem) : Prop :=
  x.serial = y.serial → x.serial ≠ none → x.record.isEnd = false ∧ y.record.isBegin = false

/-- The laws of one queue: its level within its limit, its waiting list, the order of its records, and that an END in it
is of a stroke that is ENDING and does not wait there. -/
structure QueueSound (limit : Nat) (items : List QueueItem) (waiting : List (Fin 48))
    (view : Fin 48 → Option QueueView) (next : Nat) : Prop where
  room : items.length ≤ limit
  once : waiting.Nodup
  names : ∀ i, i ∈ waiting ↔ ∃ v, view i = some v ∧ v.waits = true
  apart : ∀ i v, view i = some v → v.waits = true → v.delivered = false
  full : waiting ≠ [] → items.length = limit
  pairs : items.Pairwise MayFollow
  older : ∀ x n, x ∈ items → x.serial = some n → n < next
  ended : ∀ x i v, x ∈ items → x.record.isEnd = true → view i = some v → x.serial = some v.serial →
    v.ending = true ∧ v.waits = false

namespace QueueSound

variable {limit next : Nat} {items : List QueueItem} {waiting : List (Fin 48)} {view : Fin 48 → Option QueueView}

/-- A record joins behind records kept of the queue, an END only for a stroke that is ENDING and does not wait. -/
theorem joins (h : QueueSound limit items waiting view next) {kept : List QueueItem} {x : QueueItem}
    {limit' : Nat} (hk : kept.Sublist items) (hroom : kept.length + 1 ≤ limit')
    (hfull : waiting ≠ [] → kept.length + 1 = limit') (hx : ∀ y ∈ items, MayFollow y x)
    (hn : ∀ n, x.serial = some n → n < next)
    (he : x.record.isEnd = true → ∀ i v, view i = some v → x.serial = some v.serial →
      v.ending = true ∧ v.waits = false) : QueueSound limit' (kept ++ [x]) waiting view next where
  room := by rwa [List.length_append]
  once := h.once
  names := h.names
  apart := h.apart
  full hw := by rw [List.length_append]; exact hfull hw
  pairs := by
    rw [List.pairwise_append]
    refine ⟨h.pairs.sublist hk, List.pairwise_singleton .., fun y hy z hz => ?_⟩
    rw [List.mem_singleton.1 hz]
    exact hx y (hk.subset hy)
  older y n hy hs := by
    rcases List.mem_append.1 hy with hy | hy
    · exact h.older y n (hk.subset hy) hs
    · exact hn n (List.mem_singleton.1 hy ▸ hs)
  ended y i v hy hend hv hs := by
    rcases List.mem_append.1 hy with hy | hy
    · exact h.ended y i v (hk.subset hy) hend hv hs
    · rw [List.mem_singleton.1 hy] at hend hs
      exact he hend i v hv hs

/-- The entries change, but not which of them wait; those left and those that are new are no less far on. -/
theorem reviewed (h : QueueSound limit items waiting view next) {view' : Fin 48 → Option QueueView} {next' : Nat}
    (hw : ∀ i, (∃ v, view' i = some v ∧ v.waits = true) ↔ ∃ v, view i = some v ∧ v.waits = true)
    (ha : ∀ i v, view' i = some v → v.waits = true → v.delivered = false)
    (hv : ∀ i v, view' i = some v → next ≤ v.serial ∨
      ∃ v₀, view i = some v₀ ∧ v₀.serial = v.serial ∧ (v₀.ending = true → v.ending = true))
    (hn : next ≤ next') : QueueSound limit items waiting view' next' where
  room := h.room
  once := h.once
  names i := (h.names i).trans (hw i).symm
  apart := ha
  full := h.full
  pairs := h.pairs
  older x n hx hs := (h.older x n hx hs).trans_le hn
  ended x i v hx hend hi hs := by
    rcases hv i v hi with hnew | ⟨v₀, hi₀, hsame, hending⟩
    · exact absurd (h.older x _ hx hs) (Nat.not_lt.2 hnew)
    · obtain ⟨he, hnot⟩ := h.ended x i v₀ hx hend hi₀ (by rw [hs, hsame])
      refine ⟨hending he, Bool.eq_false_of_not_eq_true fun hwaits => ?_⟩
      obtain ⟨v₁, hi₁, hw₁⟩ := (hw i).1 ⟨v, hi, hwaits⟩
      rw [hi₀] at hi₁
      cases hi₁
      rw [hnot] at hw₁
      cases hw₁

/-- An END comes to wait for a full queue that holds no END of its stroke (R103, R138). -/
theorem awaits (h : QueueSound limit items waiting view next) {view' : Fin 48 → Option QueueView} {i : Fin 48}
    {v : QueueView} (hi : view i = some v) (hw : v.waits = false) (hd : v.delivered = false)
    (hi' : view' i = some { v with waits := true }) (hother : ∀ j, j ≠ i → view' j = view j)
    (hfull : items.length = limit)
    (hnone : ∀ x ∈ items, x.record.isEnd = true → x.serial ≠ some v.serial) :
    QueueSound limit items (waiting ++ [i]) view' next where
  room := h.room
  once := by
    refine List.nodup_append.2 ⟨h.once, List.nodup_singleton _, fun a ha b hb hab => ?_⟩
    rw [List.mem_singleton.1 hb] at hab
    obtain ⟨v₁, hv₁, hw₁⟩ := (h.names i).1 (hab ▸ ha)
    rw [hi] at hv₁
    cases hv₁
    rw [hw] at hw₁
    cases hw₁
  names j := by
    rw [List.mem_append, List.mem_singleton]
    by_cases hj : j = i
    · subst hj
      exact ⟨fun _ => ⟨_, hi', rfl⟩, fun _ => .inr rfl⟩
    · rw [hother j hj, ← h.names j]
      exact or_iff_left hj
  apart j w hj hwaits := by
    by_cases hji : j = i
    · subst hji
      rw [hi'] at hj
      cases hj
      exact hd
    · exact h.apart j w (hother j hji ▸ hj) hwaits
  full _ := hfull
  pairs := h.pairs
  older := h.older
  ended x j w hx hend hj hs := by
    by_cases hji : j = i
    · subst hji
      rw [hi'] at hj
      cases hj
      exact absurd hs (hnone x hx hend)
    · exact h.ended x j w hx hend (hother j hji ▸ hj) hs

/-- The head departs from a queue on which no END waits (R140). -/
theorem departs {head : QueueItem} {rest : List QueueItem} (h : QueueSound limit (head :: rest) [] view next) :
    QueueSound limit rest [] view next where
  room := (Nat.le_succ _).trans h.room
  once := h.once
  names := h.names
  apart := h.apart
  full hw := absurd rfl hw
  pairs := (List.pairwise_cons.1 h.pairs).2
  older x n hx := h.older x n (List.mem_cons_of_mem _ hx)
  ended x i v hx := h.ended x i v (List.mem_cons_of_mem _ hx)

/-- The head departs, and the END of the first entry that waits takes the slot (R104, R140). -/
theorem serves {head x : QueueItem} {rest : List QueueItem} {i : Fin 48} {ws : List (Fin 48)}
    (h : QueueSound limit (head :: rest) (i :: ws) view next) {view' : Fin 48 → Option QueueView} {v : QueueView}
    (hi : view i = some v) (he : v.ending = true) (hx : x.serial = some v.serial)
    (hn : v.serial < next) (hbegin : x.record.isBegin = false)
    (hdistinct : ∀ j w, view j = some w → w.serial = v.serial → j = i)
    (hi' : view' i = some { v with waits := false, delivered := true })
    (hother : ∀ j, j ≠ i → view' j = view j) : QueueSound limit (rest ++ [x]) ws view' next := by
  have hwaits : v.waits = true := by
    obtain ⟨v₁, hv₁, hw₁⟩ := (h.names i).1 List.mem_cons_self
    rw [hi] at hv₁
    cases hv₁
    exact hw₁
  have hfull : rest.length + 1 = limit := h.full (List.cons_ne_nil i ws)
  obtain ⟨hnot, honce⟩ := List.nodup_cons.1 h.once
  have hnone : ∀ y ∈ head :: rest, y.serial = some v.serial → y.record.isEnd = false := fun y hy hs =>
    Bool.eq_false_of_not_eq_true fun hyend => by
      have := (h.ended y i v hy hyend hi hs).2
      rw [hwaits] at this
      cases this
  refine ⟨?_, honce, fun j => ?_, fun j w hj hw => ?_, fun _ => ?_, ?_, fun y n hy hs => ?_,
    fun y j w hy hyend hj hs => ?_⟩
  · rw [List.length_append]
    exact hfull.le
  · by_cases hji : j = i
    · subst hji
      rw [hi']
      simp [hnot]
    · rw [hother j hji, ← h.names j, List.mem_cons]
      exact (or_iff_right hji).symm
  · by_cases hji : j = i
    · subst hji
      rw [hi'] at hj
      cases hj
      cases hw
    · exact h.apart j w (hother j hji ▸ hj) hw
  · rw [List.length_append]
    exact hfull
  · rw [List.pairwise_append]
    refine ⟨(List.pairwise_cons.1 h.pairs).2, List.pairwise_singleton .., fun y hy z hz hs _ => ?_⟩
    rw [List.mem_singleton.1 hz] at hs ⊢
    exact ⟨hnone y (List.mem_cons_of_mem _ hy) (hs.trans hx), hbegin⟩
  · rcases List.mem_append.1 hy with hy | hy
    · exact h.older y n (List.mem_cons_of_mem _ hy) hs
    · rw [List.mem_singleton.1 hy, hx] at hs
      cases hs
      exact hn
  · by_cases hji : j = i
    · subst hji
      rw [hi'] at hj
      cases hj
      exact ⟨he, rfl⟩
    · rw [hother j hji] at hj
      rcases List.mem_append.1 hy with hy | hy
      · exact h.ended y j w (List.mem_cons_of_mem _ hy) hyend hj hs
      · rw [List.mem_singleton.1 hy, hx] at hs
        exact absurd (hdistinct j w hj (Option.some.inj hs).symm) hji

end QueueSound

/-! ### The laws of the ledger -/

/-- A queue's capacity less the slot that is owed to a LAYER record (R125, R134). -/
def limitOf (owed : DestSet) (d : Dest) : Nat := Config.capacity d - if owed.has d then 1 else 0

/-- The laws of the claims: an ENDING entry waits for some queue, those of a list apart, serial numbers tell strokes
apart, and an entry that is ENDING has an END. -/
structure ClaimsSound (done : List (Fin 48)) (p : Part) : Prop where
  waits : ∀ i s e, p.claim i = some (s, some e) → i ∉ done → e.waitsOn.isEmpty = false
  distinct : ∀ i j s x y, p.claim i = some (s, x) → p.claim j = some (s, y) → i = j
  older : ∀ i s x, p.claim i = some (s, x) → s < p.assembler.nextSerial
  endRecord : ∀ i s e, p.claim i = some (s, some e) → e.record.isEnd = true

/-- The laws of the waiting lists and of the record order, with a slot of each destination of a set owed to a LAYER
record, and with entries that may be ENDING and wait for no queue. -/
structure LedgerSound (owed : DestSet) (done : List (Fin 48)) (p : Part) : Prop where
  queues : ∀ d, QueueSound (limitOf owed d) (p.queue d).items (p.queue d).waiting (p.view d) p.assembler.nextSerial
  claims : ClaimsSound done p

theorem limitOf_empty (d : Dest) : limitOf DestSet.empty d = Config.capacity d := by
  rw [limitOf, DestSet.has_empty]
  rfl

theorem claim_ending {x : Entry} {s : Nat} {e : Ending} :
    x.claim = some (s, some e) ↔ ∃ c, x = .ending c e ∧ c.serial = s := by
  cases x <;> simp [Entry.claim, and_comm]

theorem claim_core {x : Entry} {s : Nat} :
    (∃ y, x.claim = some (s, y)) ↔ ∃ c, x.core? = some c ∧ c.serial = s := by
  cases x <;> simp [Entry.claim, Entry.core?]

/-- A queue sees of an entry what its claim says. -/
theorem view_eq_some {p : Part} {d : Dest} {i : Fin 48} {v : QueueView} :
    p.view d i = some v ↔ ∃ c, p.claim i = some c ∧ viewOf d c = v := Option.map_eq_some_iff

theorem waitsFor_iff (p : Part) (d : Dest) (i : Fin 48) :
    (p.entry i).waitsFor d = true ↔ ∃ v, p.view d i = some v ∧ v.waits = true := by
  rw [Part.view, Part.claim]
  cases p.entry i <;> simp [Entry.waitsFor, Entry.claim, viewOf]

/-- The laws of the ledger, with no slot owed and no entry excepted, are those of waiting lists and record order. -/
theorem ledgerSound_iff (p : Part) : p.queues.held = DestSet.empty ∧ LedgerSound DestSet.empty [] p ↔
    p.WaitingAgrees ∧ p.RecordsOrdered := by
  constructor
  · rintro ⟨hheld, h⟩
    have hlimit : ∀ d, limitOf DestSet.empty d = Config.capacity d := limitOf_empty
    have hcore : ∀ i c, (p.entry i).core? = some c → ∃ x, p.claim i = some (c.serial, x) := fun i c hc =>
      claim_core.2 ⟨c, hc, rfl⟩
    have hending : ∀ i c e, p.entry i = .ending c e → p.claim i = some (c.serial, some e) := fun i c e he =>
      claim_ending.2 ⟨c, he, rfl⟩
    refine ⟨⟨hheld, fun d => hlimit d ▸ (h.queues d).room, fun d => (h.queues d).once,
      fun d i => ((h.queues d).names i).trans (waitsFor_iff p d i).symm,
      fun i c e he => h.claims.waits i _ e (hending i c e he) List.not_mem_nil,
      fun i c e d he hw => (h.queues d).apart i _ (view_eq_some.2 ⟨_, hending i c e he, rfl⟩) hw,
      fun d hw => hlimit d ▸ (h.queues d).full hw⟩,
      fun d => (h.queues d).pairs, fun i j ci cj hi hj hs => ?_, fun i c hc => ?_,
      fun d x n hx => (h.queues d).older x n hx, fun d x i c hx hend hc hs => ?_,
      fun i c e he => h.claims.endRecord i _ e (hending i c e he)⟩
    · obtain ⟨x, hx⟩ := hcore i ci hi
      obtain ⟨y, hy⟩ := hcore j cj hj
      exact h.claims.distinct i j _ x y hx (hs ▸ hy)
    · obtain ⟨x, hx⟩ := hcore i c hc
      exact h.claims.older i _ x hx
    · obtain ⟨y, hy⟩ := hcore i c hc
      obtain ⟨he, hw⟩ := (h.queues d).ended x i _ hx hend (view_eq_some.2 ⟨_, hy, rfl⟩) hs
      obtain ⟨e, rfl⟩ := Option.isSome_iff_exists.1 he
      obtain ⟨c', he', -⟩ := claim_ending.1 hy
      exact ⟨⟨e, by rw [he'] at hc ⊢; cases hc; rfl⟩, by rw [he']; exact hw⟩
  · rintro ⟨hw, hr⟩
    have hclaim : ∀ i s x, p.claim i = some (s, x) → ∃ c, (p.entry i).core? = some c ∧ c.serial = s :=
      fun i s x hx => claim_core.1 ⟨x, hx⟩
    refine ⟨hw.free, fun d => ⟨?_, hw.once d, fun i => (hw.names d i).trans (waitsFor_iff p d i),
      fun i v hv hwaits => ?_, fun hne => ?_, hr.pairs d, hr.itemsOlder d, fun x i v hx hend hv hs => ?_⟩,
      fun i s e he _ => ?_, fun i j s x y hx hy => ?_, fun i s x hx => ?_, fun i s e he => ?_⟩
    · exact limitOf_empty d ▸ hw.ink d
    · obtain ⟨⟨s, x⟩, hc, rfl⟩ := view_eq_some.1 hv
      cases x with
      | none => cases hwaits
      | some e =>
        obtain ⟨c, he, -⟩ := claim_ending.1 hc
        exact hw.apart i c e d he hwaits
    · exact limitOf_empty d ▸ hw.full d hne
    · obtain ⟨⟨s, y⟩, hc, rfl⟩ := view_eq_some.1 hv
      obtain ⟨c, hcore, rfl⟩ := hclaim i s y hc
      obtain ⟨⟨e, he⟩, hnot⟩ := hr.ended d x i c hx hend hcore hs
      rw [Part.claim, he] at hc
      cases hc
      rw [he] at hnot
      exact ⟨rfl, hnot⟩
    · obtain ⟨c, he, -⟩ := claim_ending.1 he
      exact hw.waits i c e he
    · obtain ⟨ci, hi, rfl⟩ := hclaim i s x hx
      obtain ⟨cj, hj, hs⟩ := hclaim j _ y hy
      exact hr.distinct i j ci cj hi hj hs.symm
    · obtain ⟨c, hc, rfl⟩ := hclaim i s x hx
      exact hr.entriesOlder i c hc
    · obtain ⟨c, he, -⟩ := claim_ending.1 he
      exact hr.endRecord i c e he

end Sys2Proof.Machine
end

section
/-! SUPPORT. A departure from an ink queue on which an END waits: the slot goes to the first END of the waiting list
(R104, R105, R140). -/

namespace Sys2Proof.Machine

/-- The ending state of a stroke whose END has joined a queue on which it waited (R104). -/
def Ending.servedBy (e : Ending) (d : Dest) : Ending :=
  { e with waitsOn := e.waitsOn.erase d, delivered := e.delivered.insert d }

/-- A queue whose head has departed and whose first waiting END has joined (R135, R140). -/
def InkQueue.served (k : InkQueue) (tail : List QueueItem) (ws : List (Fin 48)) (c : StrokeCore) (e : Ending)
    (now : Tick) : InkQueue :=
  { k with
    items := tail ++ [⟨e.record, k.nextSeq, now, some c.serial⟩]
    nextSeq := k.nextSeq + 1
    waiting := ws
    counters := { k.counters with sent := min 65535 (k.counters.sent + 1) } }

/-- The part in which the head of a queue has departed as a frame and the END of the first waiting entry has joined,
before the completion of its stroke (R140). -/
def Part.served (p : Part) (d : Dest) (tail : List QueueItem) (i : Fin 48) (ws : List (Fin 48)) (c : StrokeCore)
    (e : Ending) (offer : Offer) (frame : SentFrame) : Part :=
  { p.setEntry i (.ending c (e.servedBy d)) with
    queues := p.queues.set d ((p.queue d).served tail ws c e p.tick)
    egress := { p.egress with offer := offer }
    sent := p.sent ++ [frame] }

theorem joinInk_other {d : Dest} (hd : d ≠ .fanout) (r : InkRecord) (serial : Option Nat) (p : Part) :
    joinInk d r serial p = p.setQueue d ((p.queue d).push r serial p.tick) := by
  cases d
  · rfl
  · exact absurd rfl hd
  · rfl

theorem Queues.set_set (q : Queues) (d : Dest) (v w : InkQueue) : (q.set d v).set d w = q.set d w := by
  cases d <;> rfl

theorem Part.countQueue_setQueue (p : Part) (d : Dest) (v : InkQueue) (f : QueueCounters → QueueCounters) :
    (p.setQueue d v).countQueue d f = p.setQueue d { v with counters := f v.counters } := by
  rw [Part.countQueue, Part.queue_setQueue_same]
  simp only [Part.setQueue, Queues.set_set]

/-- The part in which the END of an entry has joined the queue on which it waited, before the completion of its
stroke (R104). -/
def Part.endJoined (p : Part) (d : Dest) (i : Fin 48) (ws : List (Fin 48)) (c : StrokeCore) (e : Ending)
    (offer : Offer) : Part :=
  { p.setEntry i (.ending c (e.servedBy d)) with
    queues := p.queues.set d { (p.queue d).push e.record (some c.serial) p.tick with waiting := ws }
    egress := { p.egress with offer := offer } }

/-- A freed slot is filled with the END of the first entry that waits. -/
theorem serveWaiting_eq {p : Part} {d : Dest} {i : Fin 48} {ws : List (Fin 48)} {c : StrokeCore} {e : Ending}
    (hw : (p.queue d).waiting = i :: ws) (he : p.entry i = .ending c e) : ∃ o, (d ≠ .fanout → o = p.egress.offer) ∧
      serveWaiting d p = completeIfDone i (p.endJoined d i ws c e o) := by
  obtain ⟨o, ho⟩ := joinInk_eq d e.record (some c.serial) (p.setQueue d { p.queue d with waiting := ws })
  have hopen : (p.setQueue d { p.queue d with waiting := ws }).entry i = .ending c e := he
  refine ⟨o, fun hd => congrArg (fun q : Part => q.egress.offer) (ho.symm.trans (joinInk_other hd ..)), ?_⟩
  rw [Part.queue_setQueue_same] at ho
  simp only [serveWaiting, hw, hopen, ho]
  refine congrArg (completeIfDone i) ?_
  have hjoined : ∀ q : Part, q.entry i = .ending c e →
      q.updateEnding i (fun e => e.servedBy d) = q.setEntry i (.ending c (e.servedBy d)) := fun q hq => by
    simp only [Part.updateEnding, hq]
  refine (hjoined _ ?_).trans ?_
  · exact he
  · simp only [Part.setQueue, Queues.set_set]
    rfl

section
variable {p : Part} {d : Dest} {head : QueueItem} {tail : List QueueItem} {i : Fin 48} {ws : List (Fin 48)}
  {c : StrokeCore} {e : Ending} (hi : (p.queue d).items = head :: tail) (hw : (p.queue d).waiting = i :: ws)
  (he : p.entry i = .ending c e)
include hi hw he

/-- The head departs, the END of the first waiting entry joins, and its stroke completes if it waits no longer. -/
theorem depart_serves (link : Link) (frame : QueueItem → List Byte) : ∃ o, (d ≠ .fanout → o = p.egress.offer) ∧
    depart d link frame p = completeIfDone i (p.served d tail i ws c e o ⟨link, frame head⟩) := by
  obtain ⟨p2, h2⟩ : ∃ p2, p2 = send link (frame head) ((p.setQueue d { p.queue d with items := tail }).countQueue d
    fun k => { k with sent := bump k.sent }) := ⟨_, rfl⟩
  have hqueue : p2.queue d = { p.queue d with
      items := tail
      counters := { (p.queue d).counters with sent := bump (p.queue d).counters.sent } } := by
    rw [h2]
    simp only [send, Part.countQueue, Part.queue_setQueue_same]
    exact Part.queue_setQueue_same ..
  obtain ⟨o, ho, hserve⟩ := serveWaiting_eq (p := p2) (by rw [hqueue]; exact hw) (by rw [h2]; exact he)
  refine ⟨o, fun hd => (ho hd).trans (by rw [h2]; rfl), ?_⟩
  have hdepart : depart d link frame p = serveWaiting d p2 := by
    rw [h2]
    simp only [depart, hi]
  rw [hdepart, hserve]
  refine congrArg (completeIfDone i) ?_
  unfold Part.endJoined
  rw [hqueue, h2]
  simp only [Part.countQueue, Part.setQueue, Queues.set_set, send]
  rfl

omit hi hw he in
/-- What the service of an END makes of the part, by whether its stroke still waits. -/
theorem served_completes (o : Offer) (f : SentFrame) : completeIfDone i (p.served d tail i ws c e o f) =
    if (e.waitsOn.erase d).isEmpty = true then
      { (p.served d tail i ws c e o f).setEntry i .free with
        history := p.history.append (summaryOf c (e.servedBy d)) }
    else p.served d tail i ws c e o f := by
  have hentry : (p.served d tail i ws c e o f).entry i = .ending c (e.servedBy d) :=
    Part.entry_setEntry_same ..
  rw [completeIfDone_eq hentry, complete_eq hentry]
  rfl

omit hi hw he in
theorem Part.served_queue (i : Fin 48) (o : Offer) (f : SentFrame) (x : Dest) : (p.served d tail i ws c e o f).queue x =
    if x = d then (p.queue d).served tail ws c e p.tick else p.queue x := Queues.get_set ..

/-- The freed slot goes to the first END that waits, whatever the egress has noted of the departure. -/
theorem depart_slotServed (link : Link) (frame : QueueItem → List Byte) (g : Egress) :
    ∃ q o, depart d link frame { p with egress := g } = q ∧ SlotServed d tail i ws c e p q ∧
      q.egress = { g with offer := o } ∧ (d ≠ .fanout → o = g.offer) ∧ q.sent = p.sent ++ [⟨link, frame head⟩] ∧
      q.agent = p.agent := by
  obtain ⟨o, ho, hdepart⟩ := depart_serves (p := { p with egress := g }) hi hw he link frame
  obtain ⟨q, hq⟩ : ∃ q, q = completeIfDone i
    (Part.served { p with egress := g } d tail i ws c e o ⟨link, frame head⟩) := ⟨_, rfl⟩
  refine ⟨q, o, hdepart.trans hq.symm, ?_⟩
  have hqueue : ∀ x, (Part.served { p with egress := g } d tail i ws c e o ⟨link, frame head⟩).queue x =
      if x = d then (p.queue d).served tail ws c e p.tick else p.queue x := fun _ => Part.served_queue ..
  rw [served_completes] at hq
  by_cases hdone : (e.waitsOn.erase d).isEmpty = true
  · rw [if_pos hdone] at hq
    subst hq
    refine ⟨⟨?_, fun x hx => ?_, fun _ => ⟨Part.entry_setEntry_same .., rfl⟩, fun hn => ?_, fun j hj => ?_, rfl⟩,
      rfl, ho, rfl, rfl⟩
    · exact (hqueue d).trans (if_pos rfl)
    · exact (hqueue x).trans (if_neg hx)
    · rw [hdone] at hn
      cases hn
    · exact (Part.entry_setEntry_other _ _ hj).trans (Part.entry_setEntry_other { p with egress := g } _ hj)
  · rw [if_neg hdone] at hq
    subst hq
    refine ⟨⟨?_, fun x hx => ?_, fun hy => absurd hy hdone, fun _ => ⟨rfl, Part.entry_setEntry_same ..⟩,
      fun j hj => Part.entry_setEntry_other { p with egress := g } _ hj, rfl⟩, rfl, ho, rfl, rfl⟩
    · exact (hqueue d).trans (if_pos rfl)
    · exact (hqueue x).trans (if_neg hx)

end

end Sys2Proof.Machine
end

section
/-! SUPPORT. The laws of the ledger are kept by every hand of a record, by begin, end and completion of a stroke, and by
departures (R95, R101 to R105, R136 to R141). -/

namespace Sys2Proof.Machine

/-! ### What leaves the claims -/

theorem InkStep.claim {p q : Part} (h : InkStep p q) (i : Fin 48) : q.claim i = p.claim i := (h.entries i).claim

theorem Entry.MayLose.claim {x y : Entry} (h : x.MayLose y) : y.claim = x.claim := by
  rcases h with rfl | rfl
  · rfl
  · cases x <;> rfl

theorem view_congr {p q : Part} (h : ∀ i, q.claim i = p.claim i) (d : Dest) : q.view d = p.view d :=
  funext fun i => congrArg (Option.map (viewOf d)) (h i)

/-- A queue sees the same of an entry that changes nothing but what concerns another queue. -/
theorem view_other {p q : Part} {d : Dest} {i : Fin 48} {s : Nat} {e e' : Ending} (hi : p.claim i = some (s, some e))
    (hi' : q.claim i = some (s, some e')) (hother : ∀ j, j ≠ i → q.claim j = p.claim j)
    (hw : e'.waitsOn.has d = e.waitsOn.has d) (hd : e'.delivered.has d = e.delivered.has d) :
    q.view d = p.view d := by
  funext j
  by_cases hj : j = i
  · subst hj
    rw [Part.view, Part.view, hi, hi']
    simp [viewOf, hw, hd]
  · rw [Part.view, Part.view, hother j hj]

theorem ClaimsSound.congr {done : List (Fin 48)} {p q : Part} (h : ClaimsSound done p)
    (hc : ∀ i, q.claim i = p.claim i) (hn : q.assembler.nextSerial = p.assembler.nextSerial) :
    ClaimsSound done q where
  waits i s e := by rw [hc]; exact h.waits i s e
  distinct i j s x y := by rw [hc, hc]; exact h.distinct i j s x y
  older i s x := by rw [hc, hn]; exact h.older i s x
  endRecord i s e := by rw [hc]; exact h.endRecord i s e

/-- An ENDING entry changes, but for its END, and keeps what it waits for or is excepted. -/
theorem ClaimsSound.change {done done' : List (Fin 48)} {p q : Part} (h : ClaimsSound done p) {i : Fin 48} {s : Nat}
    {e' : Ending} {y : Option Ending} (hi : p.claim i = some (s, y)) (hi' : q.claim i = some (s, some e'))
    (hother : ∀ j, j ≠ i → q.claim j = p.claim j) (hend : e'.record.isEnd = true)
    (hn : q.assembler.nextSerial = p.assembler.nextSerial) (hw : i ∉ done' → e'.waitsOn.isEmpty = false)
    (hdone : ∀ j, j ≠ i → j ∉ done' → j ∉ done) : ClaimsSound done' q := by
  have hold : ∀ j t x, q.claim j = some (t, x) → ∃ x₀, p.claim j = some (t, x₀) ∧ (j ≠ i → x₀ = x) := by
    intro j t x hj
    by_cases hji : j = i
    · subst hji
      rw [hi'] at hj
      cases hj
      exact ⟨y, hi, fun hne => absurd rfl hne⟩
    · exact ⟨x, hother j hji ▸ hj, fun _ => rfl⟩
  refine ⟨fun j t e hj hnot => ?_, fun j k t x z hj hk => ?_, fun j t x hj => ?_, fun j t e hj => ?_⟩
  · by_cases hji : j = i
    · subst hji
      rw [hi'] at hj
      cases hj
      exact hw hnot
    · exact h.waits j t e (hother j hji ▸ hj) (hdone j hji hnot)
  · obtain ⟨x₀, hj₀, -⟩ := hold j t x hj
    obtain ⟨z₀, hk₀, -⟩ := hold k t z hk
    exact h.distinct j k t x₀ z₀ hj₀ hk₀
  · obtain ⟨x₀, hj₀, -⟩ := hold j t x hj
    rw [hn]
    exact h.older j t x₀ hj₀
  · by_cases hji : j = i
    · subst hji
      rw [hi'] at hj
      cases hj
      exact hend
    · exact h.endRecord j t e (hother j hji ▸ hj)

/-- In whatever claims a queue has no END of a stroke that is not ENDING. -/
theorem QueueSound.no_end {limit next : Nat} {items : List QueueItem} {waiting : List (Fin 48)}
    {view : Fin 48 → Option QueueView} (h : QueueSound limit items waiting view next) {i : Fin 48} {v : QueueView}
    (hi : view i = some v) (hv : v.ending = false ∨ v.waits = true) (x : QueueItem) (hx : x ∈ items)
    (hs : x.serial = some v.serial) : x.record.isEnd = false :=
  Bool.eq_false_of_not_eq_true fun hend => by
    obtain ⟨he, hw⟩ := h.ended x i v hx hend hi hs
    rcases hv with hv | hv
    · rw [he] at hv; cases hv
    · rw [hw] at hv; cases hv

theorem isBegin_of_isEnd {r : InkRecord} (h : r.isEnd = true) : r.isBegin = false := by
  cases r with
  | strokeBegin => cases h
  | _ => rfl

/-! ### The ledger, queue by queue -/

section
variable {owed : DestSet} {done : List (Fin 48)} {p q : Part}

/-- A ledger that stands keeps its laws. -/
theorem LedgerSound.stands (h : LedgerSound owed done p) (hs : LedgerStands p q) : LedgerSound owed done q where
  queues d := by
    rw [hs.items, hs.waiting, hs.nextSerial, view_congr hs.claims]
    exact h.queues d
  claims := h.claims.congr hs.claims hs.nextSerial

theorem hasRoom_iff (hheld : p.queues.held = owed) (d : Dest) : p.hasRoom d = true ↔ p.level d < limitOf owed d := by
  rw [Part.hasRoom, decide_eq_true_eq, hheld, limitOf]
  split <;> omega

/-- What a queue that admits a record makes of its laws. -/
theorem LedgerSound.admitted {d : Dest} {r : InkRecord} {serial : Nat} {turned : InkQueue → InkQueue}
    (h : LedgerSound owed done p) (hheld : p.queues.held = owed) (hto : HandedTo d r serial turned p q)
    (ha : p.admits d) (hnew : serial < p.assembler.nextSerial)
    (hfollow : ∀ y ∈ (p.queue d).items, y.serial = some serial → y.record.isEnd = false ∧ r.isBegin = false)
    (hend : r.isEnd = true → ∀ i v, p.view d i = some v → v.serial = serial → v.ending = true ∧ v.waits = false) :
    QueueSound (limitOf owed d) (q.queue d).items (q.queue d).waiting (p.view d) p.assembler.nextSerial := by
  have hd := h.queues d
  obtain ⟨hfits, hreplaces⟩ := hto.joins ha
  obtain ⟨kept, hkept, hlow, hhigh, hitems, hwaiting⟩ : ∃ kept, kept.Sublist (p.queue d).items ∧
      p.level d ≤ kept.length + 1 ∧ kept.length + 1 ≤ limitOf owed d ∧
      (q.queue d).items = kept ++ [⟨r, (p.queue d).nextSeq, p.tick, some serial⟩] ∧
      (q.queue d).waiting = (p.queue d).waiting := by
    cases hroom : p.hasRoom d with
    | true =>
      rw [hfits hroom]
      exact ⟨_, .refl _, Nat.le_succ _, (hasRoom_iff hheld d).1 hroom, rfl, rfl⟩
    | false =>
      obtain ⟨before, gone, after, hsplit, -, -, hq⟩ := hreplaces hroom
      have hlen : p.level d = (before ++ after).length + 1 := by
        rw [Part.level, hsplit, List.length_append, List.length_append, List.length_cons]
        omega
      rw [hq, hsplit]
      exact ⟨before ++ after, (List.Sublist.refl before).append (List.sublist_cons_self ..), hlen.le,
        hlen ▸ hd.room, rfl, rfl⟩
  rw [hitems, hwaiting]
  refine hd.joins hkept hhigh (fun hw => le_antisymm hhigh ?_) (fun y hy hs _ => hfollow y hy hs) ?_ ?_
  · rw [← hd.full hw]
    exact hlow
  · intro n hn
    cases hn
    exact hnew
  · intro hr i v hv hs
    exact hend hr i v hv (Option.some.inj hs).symm

/-- A record that is no END, handed to a queue, keeps the laws. -/
theorem LedgerSound.handed {d : Dest} {r : InkRecord} {serial : Nat} {turned : InkQueue → InkQueue}
    (h : LedgerSound owed done p) (hheld : p.queues.held = owed) (hto : HandedTo d r serial turned p q)
    (hink : InkStep p q) (hturn : ∀ k, (turned k).items = k.items) (hnew : serial < p.assembler.nextSerial)
    (hfollow : ∀ y ∈ (p.queue d).items, y.serial = some serial → y.record.isEnd = false ∧ r.isBegin = false)
    (hr : r.isEnd = false) : LedgerSound owed done q where
  queues x := by
    rw [view_congr hink.claim, hink.nextSerial]
    by_cases hx : x = d
    · subst hx
      by_cases ha : p.admits x
      · refine h.admitted hheld hto ha hnew hfollow fun hend => ?_
        rw [hr] at hend
        cases hend
      · rw [hink.waiting, hto.turns ha, hturn]
        exact h.queues x
    · rw [hto.others x hx]
      exact h.queues x
  claims := h.claims.congr hink.claim hink.nextSerial

/-- Points handed out keep the laws: their stroke is OPEN, so that no END of it is in a queue (R81, R141). -/
theorem LedgerSound.emitPoints (h : LedgerSound owed done p) (hheld : p.queues.held = owed) (i : Fin 48) :
    LedgerSound owed done (emitPoints i p) ∧ (Machine.emitPoints i p).queues.held = owed := by
  refine ⟨?_, (emitPoints_inkStep i p).held.trans hheld⟩
  unfold Machine.emitPoints
  split
  · next c a he =>
    split
    · exact h
    · obtain ⟨p₀, hp₀⟩ : ∃ p₀, p₀ = p.setEntry i (.opened c { a with pending := [] }) := ⟨_, rfl⟩
      rw [← hp₀]
      have hset : LedgerSound owed done p₀ := hp₀ ▸
        h.stands (BooksStand.setEntry p i (e := .opened c { a with pending := [] })
          (by rw [he]; rfl) (by rw [he]; rfl)).ledger
      have hclaim : p₀.claim i = some (c.serial, none) := by
        rw [hp₀, Part.claim, Part.entry_setEntry_same]
        rfl
      have hheld₀ : p₀.queues.held = owed := hp₀ ▸ hheld
      refine (List.foldlRecOn c.targets (motive := fun q : Part => LedgerSound owed done q ∧
        q.queues.held = owed ∧ q.claim i = some (c.serial, none)) _ ⟨hset, hheld₀, hclaim⟩ fun q ⟨hq, hh, hc⟩ d _ => ?_).1
      have hink := handPoints_inkStep i c (p.layer c.layer).mode.order a.pending q d
      refine ⟨hq.handed hh (handPoints_handedTo ..) hink (fun _ => rfl) (hq.claims.older i _ _ hc)
        (fun y hy hs => ⟨?_, rfl⟩) rfl, hink.held.trans hh, (hink.claim i).trans hc⟩
      exact (hq.queues d).no_end (view_eq_some.2 ⟨_, hc, rfl⟩) (.inl rfl) y hy hs
  · exact h

/-! ### A stroke begins (R94, R95) -/

/-- A stroke placed in a FREE entry under the next serial number keeps the laws. -/
theorem LedgerSound.placed (h : LedgerSound owed done p) {i : Fin 48} {c : StrokeCore} (a : Assembly)
    (hfree : p.entry i = .free) (hs : c.serial = p.assembler.nextSerial) :
    LedgerSound owed done (p.placed i c a) := by
  have hnone : p.claim i = none := by rw [Part.claim, hfree]; rfl
  have hnow : (p.placed i c a).claim i = some (p.assembler.nextSerial, none) := by
    rw [Part.claim, Part.placed_entry, if_pos rfl, ← hs]
    rfl
  have hother : ∀ j, j ≠ i → (p.placed i c a).claim j = p.claim j := fun j hj => by
    rw [Part.claim, Part.placed_entry, if_neg hj]
    rfl
  have hold : ∀ j s x, (p.placed i c a).claim j = some (s, x) →
      j = i ∧ s = p.assembler.nextSerial ∧ x = none ∨ p.claim j = some (s, x) := fun j s x hj => by
    by_cases hji : j = i
    · subst hji
      rw [hnow] at hj
      cases hj
      exact .inl ⟨rfl, rfl, rfl⟩
    · exact .inr (hother j hji ▸ hj)
  refine ⟨fun d => (h.queues d).reviewed (fun j => ?_) (fun j v hv hw => ?_) (fun j v hv => ?_) (Nat.le_succ _),
    fun j s e hj hnot => ?_, fun j k s x y hj hk => ?_, fun j s x hj => ?_, fun j s e hj => ?_⟩
  · by_cases hji : j = i
    · subst hji
      rw [Part.view, Part.view, hnow, hnone]
      simp [viewOf]
    · rw [Part.view, Part.view, hother j hji]
  · obtain ⟨⟨s, x⟩, hj, rfl⟩ := view_eq_some.1 hv
    rcases hold j s x hj with ⟨-, -, rfl⟩ | hj
    · cases hw
    · exact (h.queues d).apart j _ (view_eq_some.2 ⟨_, hj, rfl⟩) hw
  · obtain ⟨⟨s, x⟩, hj, rfl⟩ := view_eq_some.1 hv
    rcases hold j s x hj with ⟨-, rfl, -⟩ | hj
    · exact .inl le_rfl
    · exact .inr ⟨_, view_eq_some.2 ⟨_, hj, rfl⟩, rfl, id⟩
  · rcases hold j s _ hj with ⟨-, -, hn⟩ | hj
    · cases hn
    · exact h.claims.waits j s e hj hnot
  · rcases hold j s x hj with ⟨hji, hsj, -⟩ | hj' <;> rcases hold k s y hk with ⟨hki, hsk, -⟩ | hk'
    · rw [hji, hki]
    · exact absurd (h.claims.older k s y hk') (hsj ▸ lt_irrefl _)
    · exact absurd (h.claims.older j s x hj') (hsk ▸ lt_irrefl _)
    · exact h.claims.distinct j k s x y hj' hk'
  · rcases hold j s x hj with ⟨-, rfl, -⟩ | hj
    · exact Nat.lt_succ_self _
    · exact (h.claims.older j s x hj).trans (Nat.lt_succ_self _)
  · rcases hold j s _ hj with ⟨-, -, hn⟩ | hj
    · cases hn
    · exact h.claims.endRecord j s e hj

/-- A BEGIN handed to destinations whose queues hold nothing of the stroke keeps the laws. -/
theorem LedgerSound.handBegins (i : Fin 48) {c : StrokeCore} {r : InkRecord} (hr : r.isEnd = false)
    (l : List Dest) (hl : l.Nodup) {p : Part} (h : LedgerSound owed done p) (hheld : p.queues.held = owed)
    (hnew : c.serial < p.assembler.nextSerial)
    (hnone : ∀ d ∈ l, ∀ y ∈ (p.queue d).items, y.serial ≠ some c.serial) :
    LedgerSound owed done (l.foldl (handBegin i c r) p) ∧ (l.foldl (handBegin i c r) p).queues.held = owed := by
  induction l generalizing p with
  | nil => exact ⟨h, hheld⟩
  | cons d t ih =>
    obtain ⟨hdt, ht⟩ := List.nodup_cons.1 hl
    have hink := handBegin_inkStep i c r p d
    have hto := handBegin_handedTo i c r p d
    have hq := h.handed hheld hto hink (fun _ => rfl) hnew
      (fun y hy hs => absurd hs (hnone d List.mem_cons_self y hy)) hr
    refine ih ht hq (hink.held.trans hheld) (hink.nextSerial ▸ hnew) fun x hx y hy => ?_
    rw [hto.others x fun hxd => hdt (hxd ▸ hx)] at hy
    exact hnone x (List.mem_cons_of_mem d hx) y hy

theorem LedgerSound.placeStroke (h : LedgerSound owed done p) (hheld : p.queues.held = owed) {i : Fin 48}
    {c : StrokeCore} (a : Assembly) (hfree : p.entry i = .free) (hs : c.serial = p.assembler.nextSerial) :
    LedgerSound owed done (placeStroke i c a p) ∧ (Machine.placeStroke i c a p).queues.held = owed := by
  have hbegin := (h.placed a hfree hs).handBegins i (c := c) (r := beginRecord c a) rfl c.dests.toList
    (toList_nodup _) hheld (hs ▸ Nat.lt_succ_self _) fun d _ y hy hy' =>
      absurd ((h.queues d).older y _ hy hy') (hs ▸ lt_irrefl _)
  rw [placeStroke_eq]
  exact ⟨hbegin.1.stands (countStrokes_booksStand _ _).ledger, hbegin.2⟩

/-! ### A stroke ends and completes (R101 to R105) -/

/-- A stroke whose END waits for no queue leaves the table. -/
theorem LedgerSound.freed {i : Fin 48} {s : Nat} {e : Ending} (h : LedgerSound owed (i :: done) p)
    (hi : p.claim i = some (s, some e)) (hw : e.waitsOn.isEmpty = true) (hfree : q.claim i = none)
    (hother : ∀ j, j ≠ i → q.claim j = p.claim j) (hq : ∀ d, (q.queue d).items = (p.queue d).items ∧
      (q.queue d).waiting = (p.queue d).waiting) (hn : q.assembler.nextSerial = p.assembler.nextSerial) :
    LedgerSound owed done q := by
  have hold : ∀ j c, q.claim j = some c → j ≠ i ∧ p.claim j = some c := fun j c hj => by
    have hne : j ≠ i := fun hji => by rw [hji, hfree] at hj; cases hj
    exact ⟨hne, hother j hne ▸ hj⟩
  have hviews : ∀ d j v, q.view d j = some v → p.view d j = some v := fun d j v hv => by
    obtain ⟨c, hj, hc⟩ := view_eq_some.1 hv
    exact view_eq_some.2 ⟨c, (hold j c hj).2, hc⟩
  refine ⟨fun d => ?_, fun j t f hj hnot => ?_, fun j k t x y hj hk => ?_, fun j t x hj => ?_, fun j t f hj => ?_⟩
  · rw [(hq d).1, (hq d).2, hn]
    refine (h.queues d).reviewed (fun j => ⟨fun ⟨v, hv, hvw⟩ => ⟨v, hviews d j v hv, hvw⟩, fun ⟨v, hv, hvw⟩ => ?_⟩)
      (fun j v hv => (h.queues d).apart j v (hviews d j v hv))
      (fun j v hv => .inr ⟨v, hviews d j v hv, rfl, id⟩) le_rfl
    by_cases hji : j = i
    · subst hji
      obtain ⟨c, hc, rfl⟩ := view_eq_some.1 hv
      rw [hi] at hc
      cases hc
      exact absurd hvw (by simp [viewOf, (DestSet.isEmpty_iff _).1 hw d])
    · exact ⟨v, by rw [Part.view, hother j hji]; exact hv, hvw⟩
  · obtain ⟨hne, hj⟩ := hold j _ hj
    exact h.claims.waits j t f hj (fun hm => (List.mem_cons.1 hm).elim hne hnot)
  · exact h.claims.distinct j k t x y (hold j _ hj).2 (hold k _ hk).2
  · rw [hn]
    exact h.claims.older j t x (hold j _ hj).2
  · exact h.claims.endRecord j t f (hold j _ hj).2

theorem LedgerSound.complete {i : Fin 48} (h : LedgerSound owed (i :: done) p) {s : Nat} {e : Ending}
    (hi : p.claim i = some (s, some e)) (hw : e.waitsOn.isEmpty = true) :
    LedgerSound owed done (complete i p) ∧ (Machine.complete i p).queues.held = p.queues.held := by
  obtain ⟨c, he, -⟩ := claim_ending.1 hi
  rw [complete_eq he]
  exact ⟨h.freed hi hw (congrArg Entry.claim (Part.entry_setEntry_same p i .free))
    (fun j hj => congrArg Entry.claim (Part.entry_setEntry_other p .free hj)) (fun _ => ⟨rfl, rfl⟩) rfl, rfl⟩

/-- An entry that is excepted completes, or waits for some queue. -/
theorem LedgerSound.completeIfDone {i : Fin 48} (h : LedgerSound owed (i :: done) p) :
    LedgerSound owed done (completeIfDone i p) ∧ (Machine.completeIfDone i p).queues.held = p.queues.held := by
  by_cases hdone : ∃ s e, p.claim i = some (s, some e) ∧ e.waitsOn.isEmpty = true
  · obtain ⟨s, e, hi, hw⟩ := hdone
    obtain ⟨c, he, -⟩ := claim_ending.1 hi
    rw [completeIfDone_eq he, if_pos hw]
    exact h.complete hi hw
  · have hself : Machine.completeIfDone i p = p := by
      unfold Machine.completeIfDone
      split
      · next c e he => exact if_neg fun hw => hdone ⟨_, e, claim_ending.2 ⟨c, he, rfl⟩, hw⟩
      · rfl
    rw [hself]
    refine ⟨⟨h.queues, { h.claims with waits := fun j s e hj hnot => ?_ }⟩, rfl⟩
    by_cases hji : j = i
    · subst hji
      exact Bool.eq_false_of_not_eq_true fun hw => hdone ⟨s, e, hj, hw⟩
    · exact h.claims.waits j s e hj fun hm => (List.mem_cons.1 hm).elim hji hnot

theorem claim_updateEnding {i : Fin 48} {s : Nat} {e : Ending} (h : p.claim i = some (s, some e))
    (f : Ending → Ending) (j : Fin 48) :
    (p.updateEnding i f).claim j = if j = i then some (s, some (f e)) else p.claim j := by
  obtain ⟨c, he, rfl⟩ := claim_ending.1 h
  split
  · next hj =>
    rw [hj, Part.claim, entry_updateEnding he]
    rfl
  · next hj => rw [Part.claim, entry_updateEnding_other _ _ hj]; rfl

/-- What a hand of an END makes of the claims: delivered where it is taken, waiting where it is not (R103). -/
theorem handEnd_claim {i : Fin 48} (c : StrokeCore) (r : InkRecord) (d : Dest) {s : Nat} {e : Ending}
    (h : p.claim i = some (s, some e)) : ∃ e', e'.record = e.record ∧
      (p.admits d ∧ e'.waitsOn = e.waitsOn ∧ e'.delivered = e.delivered.insert d ∨
        ¬ p.admits d ∧ e'.waitsOn = e.waitsOn.insert d ∧ e'.delivered = e.delivered) ∧
      ∀ j, (handEnd i c r p d).claim j = if j = i then some (s, some e') else p.claim j := by
  rcases handInk_outcome d r c.serial c.seat p with ⟨ha, q, hh, -, hlose, -⟩ | ⟨hn, hh⟩
  · have hclaim : ∀ j, q.claim j = p.claim j := fun j => (hlose j).claim
    refine ⟨{ e with delivered := e.delivered.insert d }, rfl, .inl ⟨ha, rfl, rfl⟩, fun j => ?_⟩
    simp only [handEnd, hh]
    rw [claim_updateEnding ((hclaim i).trans h), hclaim]
  · refine ⟨{ e with waitsOn := e.waitsOn.insert d }, rfl, .inr ⟨hn, rfl, rfl⟩, fun j => ?_⟩
    simp only [handEnd, hh]
    rw [Part.claim, raiseOverflow_entry]
    exact claim_updateEnding h _ j

/-- An END handed to a destination that has none of the stroke, where it neither waits nor has been delivered. -/
theorem LedgerSound.handEnd {i : Fin 48} {c : StrokeCore} {r : InkRecord} {d : Dest} {e : Ending}
    (h : LedgerSound owed done p) (hheld : p.queues.held = owed) (hdone : i ∈ done) (hr : r.isEnd = true)
    (hi : p.claim i = some (c.serial, some e)) (hw : e.waitsOn.has d = false) (hd : e.delivered.has d = false)
    (hnone : ∀ x ∈ (p.queue d).items, x.serial = some c.serial → x.record.isEnd = false) :
    LedgerSound owed done (handEnd i c r p d) ∧ (Machine.handEnd i c r p d).queues.held = owed ∧
      ∃ e', (Machine.handEnd i c r p d).claim i = some (c.serial, some e') ∧
        ∀ x, x ≠ d → e'.waitsOn.has x = e.waitsOn.has x ∧ e'.delivered.has x = e.delivered.has x := by
  have hto := handEnd_handedTo i c r p d
  obtain ⟨e', hrec, hcase, hclaim⟩ := handEnd_claim c r d hi
  obtain ⟨q, hq⟩ : ∃ q, q = Machine.handEnd i c r p d := ⟨_, rfl⟩
  rw [← hq] at hto hclaim ⊢
  have hnext : q.assembler.nextSerial = p.assembler.nextSerial := by
    rw [hq, (handEnd_endStep i c r p d).fixed]
  have hi' : q.claim i = some (c.serial, some e') := (hclaim i).trans (if_pos rfl)
  have hother : ∀ j, j ≠ i → q.claim j = p.claim j := fun j hj => (hclaim j).trans (if_neg hj)
  have helse : ∀ x, x ≠ d → e'.waitsOn.has x = e.waitsOn.has x ∧ e'.delivered.has x = e.delivered.has x :=
    fun x hx => by
      rcases hcase with ⟨-, hw', hd'⟩ | ⟨-, hw', hd'⟩ <;> rw [hw', hd'] <;> simp [hx]
  have hview : p.view d i = some ⟨c.serial, true, false, false⟩ :=
    view_eq_some.2 ⟨_, hi, by simp [viewOf, hw, hd]⟩
  refine ⟨⟨fun x => ?_, h.claims.change hi hi' hother (hrec ▸ h.claims.endRecord i _ e hi) hnext
    (fun hn => absurd hdone hn) fun j _ hj => hj⟩, hto.held.trans hheld, e', hi', helse⟩
  rw [hnext]
  by_cases hx : x = d
  · subst hx
    have hviews : ∀ j, j ≠ i → q.view x j = p.view x j := fun j hj => by
      rw [Part.view, Part.view, hother j hj]
    rcases hcase with ⟨ha, hw', hd'⟩ | ⟨hn, hw', hd'⟩
    · have hview' : q.view x i = some ⟨c.serial, true, false, true⟩ :=
        view_eq_some.2 ⟨_, hi', by simp [viewOf, hw', hd', hw]⟩
      have hjoined := h.admitted hheld hto ha (h.claims.older i _ _ hi)
        (fun y hy hs => ⟨hnone y hy hs, isBegin_of_isEnd hr⟩) fun _ j v hv hs => by
          obtain ⟨⟨t, y⟩, hj, rfl⟩ := view_eq_some.1 hv
          have hs : t = c.serial := hs
          subst hs
          have hji := h.claims.distinct j i _ _ _ hj hi
          rw [hji, hview] at hv
          rw [← Option.some.inj hv]
          exact ⟨rfl, rfl⟩
      refine hjoined.reviewed (fun j => ?_) (fun j v hv hvw => ?_) (fun j v hv => .inr ?_) le_rfl
      · by_cases hji : j = i
        · rw [hji, hview, hview']
          simp
        · rw [hviews j hji]
      · by_cases hji : j = i
        · rw [hji, hview'] at hv
          cases hv
          cases hvw
        · exact (h.queues x).apart j v (hviews j hji ▸ hv) hvw
      · by_cases hji : j = i
        · rw [hji, hview'] at hv
          cases hv
          exact ⟨⟨c.serial, true, false, false⟩, hji ▸ hview, rfl, id⟩
        · exact ⟨v, hviews j hji ▸ hv, rfl, id⟩
    · have hfull : p.level x = limitOf owed x := le_antisymm (h.queues x).room
        (not_lt.1 fun hlt => hn (.inl ((hasRoom_iff hheld x).2 hlt)))
      rw [hto.turns hn]
      refine (h.queues x).awaits hview rfl rfl ?_ hviews hfull fun y hy hend hs => ?_
      · exact view_eq_some.2 ⟨_, hi', by simp [viewOf, hw', hd', hd]⟩
      · rw [hnone y hy hs] at hend
        cases hend
  · rw [hto.others x hx, view_other hi hi' hother (helse x hx).1 (helse x hx).2]
    exact h.queues x

/-- The hands of an END, one after the other. -/
theorem LedgerSound.handEnds {i : Fin 48} {c : StrokeCore} {r : InkRecord} (hdone : i ∈ done) (hr : r.isEnd = true)
    (l : List Dest) (hl : l.Nodup) {p : Part} {e : Ending} (h : LedgerSound owed done p)
    (hheld : p.queues.held = owed) (hi : p.claim i = some (c.serial, some e))
    (hl' : ∀ d ∈ l, e.waitsOn.has d = false ∧ e.delivered.has d = false ∧
      ∀ x ∈ (p.queue d).items, x.serial = some c.serial → x.record.isEnd = false) :
    LedgerSound owed done (l.foldl (Machine.handEnd i c r) p) ∧
      (l.foldl (Machine.handEnd i c r) p).queues.held = owed := by
  induction l generalizing p e with
  | nil => exact ⟨h, hheld⟩
  | cons d t ih =>
    obtain ⟨hdt, ht⟩ := List.nodup_cons.1 hl
    obtain ⟨hw, hd, hnone⟩ := hl' d List.mem_cons_self
    obtain ⟨hq, hh, e', hi', helse⟩ := h.handEnd hheld hdone hr hi hw hd hnone
    refine ih ht hq hh hi' fun x hx => ?_
    have hxd : x ≠ d := fun hxd => hdt (hxd ▸ hx)
    obtain ⟨hw, hd, hnone⟩ := hl' x (List.mem_cons_of_mem d hx)
    rw [(helse x hxd).1, (helse x hxd).2, (handEnd_handedTo i c r p d).others x hxd]
    exact ⟨hw, hd, hnone⟩

/-- An OPEN stroke becomes ENDING, and is excepted until its END has been handed out (R101). -/
theorem LedgerSound.closing {i : Fin 48} {s : Nat} {e : Ending} (h : LedgerSound owed [] p)
    (hi : p.claim i = some (s, none)) (hi' : q.claim i = some (s, some e)) (hend : e.record.isEnd = true)
    (hw : e.waitsOn = DestSet.empty) (hother : ∀ j, j ≠ i → q.claim j = p.claim j)
    (hq : ∀ d, q.queue d = p.queue d) (hn : q.assembler.nextSerial = p.assembler.nextSerial) :
    LedgerSound owed [i] q := by
  refine ⟨fun d => ?_, h.claims.change hi hi' hother hend hn (fun hnot => absurd List.mem_cons_self hnot)
    fun _ _ _ => List.not_mem_nil⟩
  have hviews : ∀ j, j ≠ i → q.view d j = p.view d j := fun j hj => by rw [Part.view, Part.view, hother j hj]
  have hview' : q.view d i = some (viewOf d (s, some e)) := view_eq_some.2 ⟨_, hi', rfl⟩
  have hnot : (viewOf d (s, some e)).waits = false := by simp [viewOf, hw]
  rw [hq, hn]
  refine (h.queues d).reviewed (fun j => ?_) (fun j v hv hvw => ?_) (fun j v hv => .inr ?_) le_rfl
  · by_cases hji : j = i
    · rw [hji, hview', Part.view, hi]
      simp [viewOf, hw]
    · rw [hviews j hji]
  · by_cases hji : j = i
    · rw [hji, hview'] at hv
      cases hv
      rw [hnot] at hvw
      cases hvw
    · exact (h.queues d).apart j v (hviews j hji ▸ hv) hvw
  · by_cases hji : j = i
    · rw [hji, hview'] at hv
      cases hv
      exact ⟨viewOf d (s, none), hji ▸ view_eq_some.2 ⟨_, hi, rfl⟩, rfl, fun _ => rfl⟩
    · exact ⟨v, hviews j hji ▸ hv, rfl, id⟩

/-- The end of a stroke keeps the laws (R101). -/
theorem LedgerSound.endStroke (h : LedgerSound owed [] p) (hheld : p.queues.held = owed) (reason : EndReason)
    (i : Fin 48) :
    LedgerSound owed [] (endStroke reason p i) ∧ (Machine.endStroke reason p i).queues.held = owed := by
  by_cases he : ∃ c a, p.entry i = .opened c a
  · obtain ⟨c, a, he⟩ := he
    obtain ⟨sent, hs, -⟩ := emitPoints_entry he
    obtain ⟨hemit, hheldE⟩ := h.emitPoints hheld i
    rw [endStroke_eq reason he hs]
    generalize hf : sent.finished a.lastContact = f
    have hserial : f.serial = sent.serial := by rw [← hf]; rfl
    have hclaim : (Machine.emitPoints i p).claim i = some (f.serial, none) := by
      rw [Part.claim, hs, hserial]
      rfl
    have hend : (endRecord reason f a.lastContact).isEnd = true := rfl
    have hentry := p.closing_entry i reason c.seat f a.lastContact
    have hclosing : LedgerSound owed [i] (p.closing i reason c.seat f a.lastContact) := by
      refine hemit.closing hclaim (e := endingOf reason f a.lastContact p.tick) ?_ hend rfl (fun j hj => ?_)
        (fun _ => rfl) rfl
      · rw [Part.claim, hentry]
        rfl
      · exact congrArg Entry.claim (Part.entry_setEntry_other _ _ hj)
    have hheldC : (p.closing i reason c.seat f a.lastContact).queues.held = owed := hheldE
    have hnone : ∀ d, ∀ x ∈ ((p.closing i reason c.seat f a.lastContact).queue d).items,
        x.serial = some f.serial → x.record.isEnd = false := fun d x hx hxs =>
      (hemit.queues d).no_end (view_eq_some.2 ⟨_, hclaim, rfl⟩) (.inl rfl) x hx hxs
    generalize p.closing i reason c.seat f a.lastContact = r at hentry hclosing hheldC hnone
    obtain ⟨hfold, hheldF⟩ := hclosing.handEnds List.mem_cons_self hend f.targets (toList_nodup _) hheldC
      (c := f) (claim_ending.2 ⟨f, hentry, rfl⟩) fun d _ => ⟨DestSet.has_empty d, DestSet.has_empty d, hnone d⟩
    obtain ⟨c', e', hhanded⟩ := handEnd_foldl f (endRecord reason f a.lastContact) f.targets (toList_nodup _) hentry
    rw [deliverEnd_eq hhanded.entry]
    generalize f.targets.foldl (Machine.handEnd i f (endRecord reason f a.lastContact)) r = q at hfold hheldF hhanded
    have hcount : ∀ {t : Part} k, LedgerSound owed [] t ∧ t.queues.held = owed →
        LedgerSound owed [] (t.countStrokes k) ∧ (t.countStrokes k).queues.held = owed := fun k ht =>
      ⟨ht.1.stands (countStrokes_booksStand k _).ledger, ht.2⟩
    refine hcount _ ?_
    split
    · next hdone =>
      obtain ⟨hdoneSound, hdoneHeld⟩ := hfold.complete (claim_ending.2 ⟨c', hhanded.entry, rfl⟩) hdone
      rw [complete_eq hhanded.entry] at hdoneSound hdoneHeld
      exact ⟨hdoneSound, hdoneHeld.trans hheldF⟩
    · next hwaits =>
      refine hcount _ ⟨⟨hfold.queues, { hfold.claims with waits := fun j s e hj hnot => ?_ }⟩, hheldF⟩
      by_cases hji : j = i
      · subst hji
        obtain ⟨c'', he'', -⟩ := claim_ending.1 hj
        rw [hhanded.entry] at he''
        cases he''
        exact Bool.eq_false_of_not_eq_true hwaits
      · exact hfold.claims.waits j s e hj fun hm => hji (List.mem_singleton.1 hm)
  · rw [endStroke_self reason fun c a hc => he ⟨c, a, hc⟩]
    exact ⟨h, hheld⟩

end

end Sys2Proof.Machine
end

section
/-! SUPPORT. The laws of the ledger are kept by departures, layer requests and flushes (R104, R118 to R128, R140, R142),
and so by every command. -/

namespace Sys2Proof.Machine

section
variable {owed : DestSet} {done : List (Fin 48)} {p q : Part}

/-! ### Departures (R140) -/

/-- The first END that waits takes the freed slot, and the laws stand (R104, R140). -/
theorem LedgerSound.slotServed (h : LedgerSound owed [] p) {d : Dest} {head : QueueItem} {tail : List QueueItem}
    {i : Fin 48} {ws : List (Fin 48)} {c : StrokeCore} {e : Ending} (hi : (p.queue d).items = head :: tail)
    (hw : (p.queue d).waiting = i :: ws) (he : p.entry i = .ending c e) (hq : SlotServed d tail i ws c e p q) :
    LedgerSound owed [] q := by
  have hnext : q.assembler.nextSerial = p.assembler.nextSerial := by rw [hq.rest]
  have hclaim : p.claim i = some (c.serial, some e) := claim_ending.2 ⟨c, he, rfl⟩
  obtain ⟨t, ht⟩ : ∃ t, t = q.setEntry i (.ending c (e.servedBy d)) := ⟨_, rfl⟩
  have hnow : t.claim i = some (c.serial, some (e.servedBy d)) := by
    rw [ht, Part.claim, Part.entry_setEntry_same]
    rfl
  have hstay : ∀ j, j ≠ i → t.claim j = q.claim j := fun j hj => by
    rw [ht, Part.claim, Part.entry_setEntry_other _ _ hj]
    rfl
  have hother : ∀ j, j ≠ i → t.claim j = p.claim j := fun j hj =>
    (hstay j hj).trans (congrArg Entry.claim (hq.entries j hj))
  have hnextT : t.assembler.nextSerial = p.assembler.nextSerial := by rw [ht]; exact hnext
  have hqueueT : ∀ x, t.queue x = q.queue x := fun x => by rw [ht]; rfl
  have hserved : LedgerSound owed [i] t := by
    refine ⟨fun x => ?_, h.claims.change hclaim hnow hother (h.claims.endRecord i _ e hclaim) hnextT
      (fun hnot => absurd List.mem_cons_self hnot) fun _ _ _ => List.not_mem_nil⟩
    rw [hqueueT, hnextT]
    by_cases hx : x = d
    · subst hx
      have hsound := h.queues x
      rw [hi, hw] at hsound
      rw [hq.queue]
      refine hsound.serves (v := viewOf x (c.serial, some e)) (view_eq_some.2 ⟨_, hclaim, rfl⟩) rfl rfl
        (h.claims.older i _ _ hclaim) (isBegin_of_isEnd (h.claims.endRecord i _ e hclaim)) (fun j w hj hs => ?_)
        (view_eq_some.2 ⟨_, hnow, ?_⟩) fun j hj => by rw [Part.view, Part.view, hother j hj]
      · obtain ⟨⟨s, y⟩, hjs, rfl⟩ := view_eq_some.1 hj
        have hs : s = c.serial := hs
        subst hs
        exact h.claims.distinct j i _ _ _ hjs hclaim
      · simp [viewOf, Ending.servedBy]
    · rw [hq.queues x hx, view_other hclaim hnow hother (by simp [Ending.servedBy, hx])
        (by simp [Ending.servedBy, hx])]
      exact h.queues x
  cases hdone : (e.waitsOn.erase d).isEmpty with
  | true =>
    exact hserved.freed hnow hdone (congrArg Entry.claim (hq.completes hdone).1) (fun j hj => (hstay j hj).symm)
      (fun x => by rw [hqueueT]; exact ⟨rfl, rfl⟩) (by rw [hnext, hnextT])
  | false =>
    have hsame : ∀ j, q.claim j = t.claim j := fun j => by
      by_cases hj : j = i
      · rw [hj, hnow, Part.claim, (hq.waits hdone).2]
        rfl
      · exact (hstay j hj).symm
    refine ⟨fun x => ?_, fun j s f hj hnot => ?_, ?_, ?_, ?_⟩
    · rw [← hqueueT, hnext, ← hnextT, view_congr hsame]
      exact hserved.queues x
    · rw [hsame] at hj
      by_cases hji : j = i
      · subst hji
        rw [hnow] at hj
        cases hj
        exact hdone
      · exact hserved.claims.waits j s f hj fun hm => hji (List.mem_singleton.1 hm)
    all_goals simp only [hsame, hnext, ← hnextT]
    exacts [hserved.claims.distinct, hserved.claims.older, hserved.claims.endRecord]

/-- Where no END waits on a queue, its head departs and nothing joins. -/
theorem depart_unserved {d : Dest} {head : QueueItem} {tail : List QueueItem} (hi : (p.queue d).items = head :: tail)
    (hw : (p.queue d).waiting = []) (link : Link) (frame : QueueItem → List Byte) :
    depart d link frame p = { p with
      queues := p.queues.set d { p.queue d with
        items := tail
        counters := { (p.queue d).counters with sent := bump (p.queue d).counters.sent } }
      sent := p.sent ++ [⟨link, frame head⟩] } := by
  have hdepart : depart d link frame p = serveWaiting d (send link (frame head) (p.setQueue d { p.queue d with
      items := tail
      counters := { (p.queue d).counters with sent := bump (p.queue d).counters.sent } })) := by
    simp only [depart, hi, Part.countQueue_setQueue]
  have hnone : ((send link (frame head) (p.setQueue d { p.queue d with
      items := tail
      counters := { (p.queue d).counters with sent := bump (p.queue d).counters.sent } })).queue d).waiting = [] :=
    (congrArg InkQueue.waiting (Part.queue_setQueue_same ..)).trans hw
  rw [hdepart]
  simp only [serveWaiting, hnone]
  rfl

theorem LedgerSound.depart (h : LedgerSound owed [] p) (d : Dest) (link : Link) (frame : QueueItem → List Byte) :
    LedgerSound owed [] (depart d link frame p) ∧ (Machine.depart d link frame p).queues.held = p.queues.held := by
  cases hi : (p.queue d).items with
  | nil =>
    have hself : Machine.depart d link frame p = p := by simp only [Machine.depart, hi]
    rw [hself]
    exact ⟨h, rfl⟩
  | cons head tail =>
    cases hw : (p.queue d).waiting with
    | nil =>
      rw [depart_unserved hi hw]
      refine ⟨⟨fun x => ?_, h.claims.congr (fun _ => rfl) rfl⟩, Queues.held_set ..⟩
      show QueueSound _ ((p.queues.set d _).get x).items ((p.queues.set d _).get x).waiting _ _
      rw [Queues.get_set]
      split
      · next hx =>
        subst hx
        have hsound := h.queues x
        rw [hi, hw] at hsound
        rw [hw]
        exact hsound.departs
      · exact h.queues x
    | cons i ws =>
      obtain ⟨v, hv, hwaits⟩ := ((h.queues d).names i).1 (hw ▸ List.mem_cons_self)
      obtain ⟨⟨s, y⟩, hc, rfl⟩ := view_eq_some.1 hv
      cases y with
      | none => cases hwaits
      | some e =>
        obtain ⟨c, he, -⟩ := claim_ending.1 hc
        obtain ⟨o, -, hserve⟩ := depart_serves hi hw he link frame
        obtain ⟨q, _, hq, hserved, -⟩ := depart_slotServed hi hw he link frame p.egress
        refine ⟨hq ▸ h.slotServed hi hw he hserved, ?_⟩
        rw [hserve, served_completes]
        split
        · exact Queues.held_set ..
        · exact Queues.held_set ..

/-! ### LAYER and RETRACT records (R119, R126, R162) -/

/-- A LAYER or RETRACT record joins a queue, in a free slot or in the one that is owed to it. -/
theorem LedgerSound.joinInk (h : LedgerSound owed done p) {owed' : DestSet} (d : Dest) (r : InkRecord)
    (hother : ∀ x, x ≠ d → limitOf owed' x = limitOf owed x) (hroom : p.level d + 1 ≤ limitOf owed' d)
    (hfull : (p.queue d).waiting ≠ [] → p.level d + 1 = limitOf owed' d) :
    LedgerSound owed' done (joinInk d r none p) where
  queues x := by
    have hentry : (Machine.joinInk d r none p).view x = p.view x :=
      view_congr (fun i => congrArg Entry.claim (joinInk_entry d r none p i)) x
    have hnext : (Machine.joinInk d r none p).assembler.nextSerial = p.assembler.nextSerial := by
      obtain ⟨o, ho⟩ := joinInk_eq d r none p
      rw [ho]
    rw [hentry, hnext, joinInk_queue]
    split
    · next hx =>
      subst hx
      refine (h.queues x).joins (.refl _) hroom hfull (fun y _ hs hne => absurd hs hne) nofun fun _ i v _ hs => ?_
      cases hs
    · next hx =>
      rw [hother x hx]
      exact h.queues x
  claims := by
    obtain ⟨o, ho⟩ := joinInk_eq d r none p
    exact h.claims.congr (fun i => congrArg Entry.claim (joinInk_entry d r none p i)) (by rw [ho])

theorem joinInk_held (d : Dest) (r : InkRecord) (serial : Option Nat) (p : Part) :
    (joinInk d r serial p).queues.held = p.queues.held := by
  obtain ⟨o, ho⟩ := joinInk_eq d r serial p
  rw [ho]
  exact Queues.held_set ..

theorem LedgerSound.joinIfRoom (h : LedgerSound owed done p) (hheld : p.queues.held = owed) (r : InkRecord)
    (d : Dest) : LedgerSound owed done (joinIfRoom r p d) ∧ (Machine.joinIfRoom r p d).queues.held = owed := by
  unfold Machine.joinIfRoom
  split
  · next hroom =>
    have hlt := (hasRoom_iff hheld d).1 hroom
    refine ⟨h.joinInk d r (fun _ _ => rfl) hlt fun hw => absurd ((h.queues d).full hw) hlt.ne, ?_⟩
    rw [joinInk_held, hheld]
  · exact ⟨h, hheld⟩

/-! ### CLEAR (R124 to R126) -/

/-- A slot is held on each destination of a set whose queues have room for it (R125). -/
theorem LedgerSound.holdSlots (h : LedgerSound DestSet.empty done p) {dests : DestSet}
    (hroom : ∀ d, dests.has d = true → p.level d < Config.capacity d) :
    LedgerSound dests done (p.holdSlots dests) where
  queues d := by
    have hd := h.queues d
    rw [limitOf_empty] at hd
    cases hhas : dests.has d with
    | false =>
      have hlimit : limitOf dests d = Config.capacity d := by rw [limitOf, hhas]; rfl
      rw [hlimit]
      exact hd
    | true =>
      have hlimit : limitOf dests d = Config.capacity d - 1 := by rw [limitOf, hhas]; rfl
      have hlt := hroom d hhas
      rw [hlimit]
      exact { hd with
        room := Nat.le_sub_one_of_lt hlt
        full := fun hw => absurd (hd.full hw) hlt.ne }
  claims := h.claims.congr (fun _ => rfl) rfl

/-- The LAYER records of a CLEAR take the slots owed to them, destination by destination (R126). -/
theorem LedgerSound.takeSlots (r : InkRecord) (l : List Dest) (hl : l.Nodup) {p : Part}
    (hheld : p.queues.held = DestSet.empty) (howed : ∀ d, owed.has d = true ↔ d ∈ l)
    (h : LedgerSound owed done p) : LedgerSound DestSet.empty done (l.foldl (Machine.joinIfRoom r) p) ∧
      (l.foldl (Machine.joinIfRoom r) p).queues.held = DestSet.empty := by
  induction l generalizing p owed with
  | nil =>
    have hempty : owed = DestSet.empty := destSet_ext fun d => by rw [howed]; simp
    exact ⟨hempty ▸ h, hheld⟩
  | cons d t ih =>
    obtain ⟨hdt, ht⟩ := List.nodup_cons.1 hl
    have hpos : 1 ≤ Config.capacity d := by cases d <;> decide
    have hlimit : limitOf owed d + 1 = Config.capacity d := by
      rw [limitOf, (howed d).2 List.mem_cons_self]
      exact Nat.sub_add_cancel hpos
    have hlimit' : limitOf (owed.erase d) d = Config.capacity d := by simp [limitOf]
    have hlevel : p.level d ≤ limitOf owed d := (h.queues d).room
    have hroom : p.hasRoom d = true := (hasRoom_iff hheld d).2 (by rw [limitOf_empty]; omega)
    have hstep : LedgerSound (owed.erase d) done (Machine.joinIfRoom r p d) := by
      rw [Machine.joinIfRoom, if_pos hroom]
      refine h.joinInk d r (fun x hx => by simp [limitOf, hx]) (by omega) fun hw => ?_
      have hfull : p.level d = limitOf owed d := (h.queues d).full hw
      omega
    refine ih ht ?_ (fun x => ?_) hstep
    · rw [Machine.joinIfRoom, if_pos hroom, joinInk_held, hheld]
    · rw [DestSet.has_erase, Bool.and_eq_true, howed, List.mem_cons]
      by_cases hx : x = d
      · simp [hx, hdt]
      · simp [hx]

/-- The end of a stroke leaves the modes of the layers. -/
theorem endStroke_mode (reason : EndReason) (p : Part) (i : Fin 48) (l : Fin 8) :
    ((endStroke reason p i).layer l).mode = (p.layer l).mode := by
  by_cases he : ∃ c a, p.entry i = .opened c a
  · obtain ⟨c, a, he⟩ := he
    obtain ⟨sent, c', e', q, hout⟩ := endStroke_handsOut reason he
    rw [hout.layer]
    split
    · next hl => rw [hl]; rfl
    · rfl
  · rw [endStroke_self reason fun c a hc => he ⟨c, a, hc⟩]

theorem LedgerSound.endStrokes (h : LedgerSound owed [] p) (hheld : p.queues.held = owed) (reason : EndReason)
    (l : List (Fin 48)) : LedgerSound owed [] (l.foldl (Machine.endStroke reason) p) ∧
      (l.foldl (Machine.endStroke reason) p).queues.held = owed :=
  foldl_keeps (I := fun q => LedgerSound owed [] q ∧ q.queues.held = owed)
    (fun i hq => hq.1.endStroke hq.2 reason i) l ⟨h, hheld⟩

/-- No destination lacks room: each has the free slots needed. -/
theorem freeSlots_of_lacking {dests : DestSet} {n : Nat} (h : (p.lacking dests n).isEmpty = true) {d : Dest}
    (hd : dests.has d = true) : n ≤ p.freeSlots d := by
  have hnot := (DestSet.isEmpty_iff _).1 h d
  revert hd
  cases d <;> simpa [Part.lacking, DestSet.has] using hnot

/-- The effects of a CLEAR: its strokes end with a slot held on each destination of the layer's mode, and then the
LAYER records join in those slots (R125, R126). -/
theorem clearEffects_eq (l : Fin 8) (strokes : List (Fin 48)) (p : Part) : clearEffects l strokes p =
    (p.layer l).mode.dests.toList.foldl (Machine.joinIfRoom (.layer l .cleared))
      ((strokes.foldl (Machine.endStroke .cleared) (p.holdSlots (p.layer l).mode.dests)).holdSlots
        DestSet.empty) := by
  have hmode : ((strokes.foldl (Machine.endStroke .cleared) (p.holdSlots (p.layer l).mode.dests)).layer l).mode =
      (p.layer l).mode :=
    foldl_keeps (I := fun q : Part => (q.layer l).mode = (p.layer l).mode)
      (fun {q} i hq => (endStroke_mode .cleared q i l).trans hq) _ rfl
  have hdests : (((strokes.foldl (Machine.endStroke .cleared) (p.holdSlots (p.layer l).mode.dests)).holdSlots
      DestSet.empty).layer l).mode.dests = (p.layer l).mode.dests := congrArg LayerMode.dests hmode
  simp only [clearEffects, sendLayerRecord, hdests]

theorem LedgerSound.layerClear (h : LedgerSound DestSet.empty [] p) (hheld : p.queues.held = DestSet.empty)
    (l : Fin 8) : LedgerSound DestSet.empty [] (layerClear l p).2 ∧
      (Machine.layerClear l p).2.queues.held = DestSet.empty := by
  unfold Machine.layerClear
  split
  · exact ⟨h, hheld⟩
  · simp only
    split
    · exact ⟨h, hheld⟩
    · next hlack =>
      have hroom : ∀ d, (p.layer l).mode.dests.has d = true → p.level d < Config.capacity d := fun d hd => by
        have := freeSlots_of_lacking (Bool.eq_true_of_not_eq_false hlack) hd
        rw [Part.freeSlots] at this
        omega
      obtain ⟨hends, -⟩ := (h.holdSlots hroom).endStrokes rfl .cleared (p.layerStrokes l)
      have hfree : LedgerSound (p.layer l).mode.dests []
          (((p.layerStrokes l).foldl (Machine.endStroke .cleared)
            (p.holdSlots (p.layer l).mode.dests)).holdSlots DestSet.empty) :=
        ⟨hends.queues, hends.claims.congr (fun _ => rfl) rfl⟩
      have hclear := hfree.takeSlots (.layer l .cleared) (p.layer l).mode.dests.toList (toList_nodup _) rfl
        fun d => (DestSet.mem_toList _ d).symm
      rw [← clearEffects_eq] at hclear
      obtain ⟨hsound, hheld'⟩ := hclear
      exact ⟨⟨hsound.queues, hsound.claims.congr (fun _ => rfl) rfl⟩, hheld'⟩

/-! ### FLUSH_QUEUE (R142) -/

/-- An entry whose END waits for a queue no longer (R104). -/
def Entry.release (d : Dest) : Entry → Entry
  | .ending c e => .ending c { e with waitsOn := e.waitsOn.erase d }
  | x => x

theorem entry_releaseEnd (d : Dest) (p : Part) (i j : Fin 48) :
    (releaseEnd d p i).entry j = if j = i then (p.entry i).release d else p.entry j := by
  unfold releaseEnd Part.updateEnding
  split
  · next c e he => rw [Part.entry_setEntry, he]; rfl
  · next hnot =>
    split
    · next hj =>
      subst hj
      cases he : p.entry j with
      | ending c e => exact absurd he (hnot c e)
      | _ => rfl
    · rfl

theorem entry_foldl_releaseEnd (d : Dest) (l : List (Fin 48)) (hl : l.Nodup) (p : Part) (j : Fin 48) :
    (l.foldl (releaseEnd d) p).entry j = if j ∈ l then (p.entry j).release d else p.entry j := by
  induction l generalizing p with
  | nil => rw [if_neg List.not_mem_nil, List.foldl_nil]
  | cons i t ih =>
    obtain ⟨hit, ht⟩ := List.nodup_cons.1 hl
    rw [List.foldl_cons, ih ht, entry_releaseEnd]
    by_cases hj : j = i
    · subst hj
      rw [if_neg hit, if_pos rfl, if_pos List.mem_cons_self]
    · simp [hj]

theorem foldl_releaseEnd_eq (d : Dest) (l : List (Fin 48)) (p : Part) : l.foldl (releaseEnd d) p =
    { p with assembler := { p.assembler with entries := (l.foldl (releaseEnd d) p).assembler.entries } } := by
  refine List.foldlRecOn l (releaseEnd d) (motive := fun q : Part => q =
    { p with assembler := { p.assembler with entries := q.assembler.entries } }) rfl fun q hq i _ => ?_
  unfold releaseEnd Part.updateEnding
  split
  · rw [hq]
    rfl
  · exact hq

/-- The part after the first two steps of a flush and the release of the waiting ENDs (R142). -/
def Part.flushed (p : Part) (d : Dest) : Part := releaseWaiting d (suppressAll d (flushRecords d p))

/-- What a flush makes of its queue, its records uncounted as sent (R142). -/
def InkQueue.emptied (k : InkQueue) : InkQueue :=
  { k with
    items := []
    waiting := []
    counters := { k.counters with flushed := satAdd k.counters.flushed k.items.length } }

theorem flushRecords_queue (d : Dest) (p : Part) : (flushRecords d p).queue d =
    { p.queue d with
      items := []
      counters := { (p.queue d).counters with
        flushed := satAdd (p.queue d).counters.flushed (p.queue d).items.length } } := by
  unfold flushRecords
  simp only
  split
  · exact Part.queue_setQueue_same ..
  · exact Part.queue_setQueue_same ..

/-- What a flush changes before any stroke completes. -/
theorem flushed_eq (p : Part) (d : Dest) : p.flushed d = { p with
    assembler := { p.assembler with entries := (p.flushed d).assembler.entries }
    queues := p.queues.set d (p.queue d).emptied
    egress := { p.egress with
      offer := if d = .fanout ∧ p.egress.offer = .fanout then .none else p.egress.offer } } := by
  obtain ⟨r, hr⟩ : ∃ r, r = suppressAll d (flushRecords d p) := ⟨_, rfl⟩
  have hqueue : r.queue d = _ := (congrArg (Part.queue · d) hr).trans (flushRecords_queue d p)
  have hfold := foldl_releaseEnd_eq d (r.queue d).waiting r
  have hflushed : p.flushed d = ((r.queue d).waiting.foldl (releaseEnd d) r).setQueue d { r.queue d with waiting := [] } := by
    rw [Part.flushed, ← hr, releaseWaiting]
    simp only
    rw [show ((r.queue d).waiting.foldl (releaseEnd d) r).queue d = r.queue d by rw [hfold]; rfl]
  have hentries : (p.flushed d).assembler.entries =
      ((r.queue d).waiting.foldl (releaseEnd d) r).assembler.entries := by rw [hflushed]; rfl
  rw [hentries]
  generalize ((r.queue d).waiting.foldl (releaseEnd d) r) = t at hfold hflushed hentries
  rw [hflushed, hfold, hqueue, hr]
  unfold flushRecords suppressAll
  simp only
  split
  · simp only [Part.setQueue, Part.setOffer, Queues.set_set]
    rfl
  · simp only [Part.setQueue, Queues.set_set]
    rfl

theorem flushed_queue (p : Part) (d x : Dest) :
    (p.flushed d).queue x = if x = d then (p.queue d).emptied else p.queue x := by
  rw [flushed_eq]
  exact Queues.get_set ..

/-- What a flush makes of the entries: the destination suppressed, and no END waiting for it (R104, R107, R142). -/
theorem flushed_entry {p : Part} {d : Dest} (hn : (p.queue d).waiting.Nodup) (i : Fin 48) :
    (p.flushed d).entry i =
      if i ∈ (p.queue d).waiting then ((p.entry i).suppress d).release d else (p.entry i).suppress d := by
  have hwaiting : ((suppressAll d (flushRecords d p)).queue d).waiting = (p.queue d).waiting := by
    show ((flushRecords d p).queue d).waiting = _
    rw [flushRecords_queue]
  have hentry : (suppressAll d (flushRecords d p)).entry i = (p.entry i).suppress d := by
    rw [entry_suppressAll]
    unfold flushRecords
    simp only
    split <;> rfl
  have hfold := entry_foldl_releaseEnd d (p.queue d).waiting hn (suppressAll d (flushRecords d p)) i
  rw [hentry, ← hwaiting] at hfold
  rw [← hwaiting]
  exact hfold

/-- The ending state of a stroke after a flush of a queue whose waiting list held its entry or not. -/
def Ending.flushedBy (e : Ending) (d : Dest) (waited : Bool) : Ending :=
  { e with waitsOn := if waited then e.waitsOn.erase d else e.waitsOn, delivered := e.delivered.erase d }

/-- What a flush makes of the claims. -/
theorem flushed_claim {p : Part} {d : Dest} (hn : (p.queue d).waiting.Nodup) (i : Fin 48) :
    (p.flushed d).claim i = (p.claim i).map fun c =>
      (c.1, c.2.map fun e => e.flushedBy d (decide (i ∈ (p.queue d).waiting))) := by
  have hserial : ∀ c : StrokeCore, (c.suppress d).serial = c.serial := fun c => by
    unfold StrokeCore.suppress
    split <;> rfl
  rw [Part.claim, flushed_entry hn, Part.claim]
  by_cases hm : i ∈ (p.queue d).waiting
  · rw [if_pos hm, decide_eq_true hm]
    cases p.entry i with
    | free => rfl
    | opened c a => exact congrArg some (congrArg (·, none) (hserial c))
    | ending c e => exact congrArg some (congrArg (·, _) (hserial c))
  · rw [if_neg hm, decide_eq_false hm]
    cases p.entry i with
    | free => rfl
    | opened c a => exact congrArg some (congrArg (·, none) (hserial c))
    | ending c e => exact congrArg some (congrArg (·, _) (hserial c))

theorem LedgerSound.flushed (h : LedgerSound owed [] p) (d : Dest) :
    LedgerSound owed (p.queue d).waiting (p.flushed d) := by
  have hclaim := flushed_claim (h.queues d).once
  have hnext : (p.flushed d).assembler.nextSerial = p.assembler.nextSerial := by rw [flushed_eq]
  have hold : ∀ i s y, (p.flushed d).claim i = some (s, y) → ∃ z, p.claim i = some (s, z) ∧
      y = z.map fun e => e.flushedBy d (decide (i ∈ (p.queue d).waiting)) := fun i s y hi => by
    rw [hclaim] at hi
    obtain ⟨⟨t, z⟩, hz, heq⟩ := Option.map_eq_some_iff.1 hi
    cases heq
    exact ⟨z, hz, rfl⟩
  refine ⟨fun x => ?_, fun i s e hi hnot => ?_, fun i j s y z hi hj => ?_, fun i s y hi => ?_, fun i s e hi => ?_⟩
  · rw [flushed_queue, hnext]
    by_cases hx : x = d
    · subst hx
      have hnone : ∀ i v, (p.flushed x).view x i = some v → v.waits = false := fun i v hv => by
        obtain ⟨⟨s, y⟩, hi, rfl⟩ := view_eq_some.1 hv
        obtain ⟨z, hz, rfl⟩ := hold i s y hi
        cases z with
        | none => rfl
        | some e =>
          by_cases hm : i ∈ (p.queue x).waiting
          · simp [viewOf, Ending.flushedBy, hm]
          · refine Bool.eq_false_of_not_eq_true fun hw => hm (((h.queues x).names i).2
              ⟨_, view_eq_some.2 ⟨_, hz, rfl⟩, ?_⟩)
            simpa [viewOf, Ending.flushedBy, hm] using hw
      rw [if_pos rfl]
      refine ⟨Nat.zero_le _, .nil, fun i => ⟨fun hm => absurd hm List.not_mem_nil, fun ⟨v, hv, hw⟩ => ?_⟩,
        fun i v hv hw => ?_, fun hne => absurd rfl hne, .nil, fun y n hy => absurd hy List.not_mem_nil,
        fun y i v hy => absurd hy List.not_mem_nil⟩
      all_goals rw [hnone i v hv] at hw; cases hw
    · have hview : (p.flushed d).view x = p.view x := funext fun i => by
        rw [Part.view, Part.view, hclaim, Option.map_map]
        refine congrArg (Option.map · (p.claim i)) (funext fun c => ?_)
        cases hc : c.2 with
        | none => simp [viewOf, hc]
        | some e =>
          by_cases hm : i ∈ (p.queue d).waiting <;> simp [viewOf, Ending.flushedBy, hc, hm, hx]
      rw [if_neg hx, hview]
      exact h.queues x
  · obtain ⟨z, hz, hy⟩ := hold i s _ hi
    cases z with
    | none => cases hy
    | some f =>
      rw [Option.some.inj hy, decide_eq_false hnot]
      exact h.claims.waits i s f hz List.not_mem_nil
  · obtain ⟨y', hi', -⟩ := hold i s y hi
    obtain ⟨z', hj', -⟩ := hold j s z hj
    exact h.claims.distinct i j s y' z' hi' hj'
  · obtain ⟨y', hi', -⟩ := hold i s y hi
    rw [hnext]
    exact h.claims.older i s y' hi'
  · obtain ⟨z, hz, hy⟩ := hold i s _ hi
    cases z with
    | none => cases hy
    | some f =>
      rw [Option.some.inj hy]
      exact h.claims.endRecord i s f hz

theorem LedgerSound.completesIfDone (l : List (Fin 48)) {p : Part} (h : LedgerSound owed l p) :
    LedgerSound owed [] (l.foldl (fun p i => Machine.completeIfDone i p) p) ∧
      (l.foldl (fun p i => Machine.completeIfDone i p) p).queues.held = p.queues.held := by
  induction l generalizing p with
  | nil => exact ⟨h, rfl⟩
  | cons i t ih =>
    obtain ⟨hstep, hheld⟩ := h.completeIfDone
    obtain ⟨hrest, hheld'⟩ := ih hstep
    exact ⟨hrest, hheld'.trans hheld⟩

theorem LedgerSound.ownFlushQueue (h : LedgerSound owed [] p) (queue : Byte) :
    LedgerSound owed [] (ownFlushQueue queue p).2 ∧ (Machine.ownFlushQueue queue p).2.queues.held = p.queues.held := by
  unfold Machine.ownFlushQueue
  split
  · exact ⟨h, rfl⟩
  · next d _ =>
    obtain ⟨hdone, hheld⟩ := (h.flushed d).completesIfDone
    refine ⟨hdone.stands (roomChoose_booksStand _).ledger, (roomChoose_booksStand _).ledger.held.trans
      (hheld.trans ?_)⟩
    rw [flushed_eq]
    exact Queues.held_set ..

end

/-! ### Every command -/

/-- The laws of waiting lists and record order are kept by every operation. -/
theorem ledgerSound_kept : Kept fun p => p.queues.held = DestSet.empty ∧ LedgerSound DestSet.empty [] p where
  reset := (ledgerSound_iff _).2 ⟨resetPart_waitingAgrees, resetPart_recordsOrdered⟩
  books hb h := ⟨hb.ledger.held.trans h.1, h.2.stands hb.ledger⟩
  emits i h := (h.2.emitPoints h.1 i).symm
  ends reason i h := (h.2.endStroke h.1 reason i).symm
  departs d link frame h := by
    obtain ⟨hs, hh⟩ := h.2.depart d link frame
    exact ⟨hh.trans h.1, hs⟩
  begins seat s layer isPrivate i h _ _ _ _ hi := (h.2.placeStroke h.1 _ (lowestFree_free hi) rfl).symm
  locks {p} seat reason h _ :=
    ⟨h.1, h.2.stands ⟨fun _ => rfl, fun _ => rfl, rfl, fun _ => rfl, rfl⟩⟩
  unlocks {p} seat h := ⟨h.1, h.2.stands ⟨fun _ => rfl, fun _ => rfl, rfl, fun _ => rfl, rfl⟩⟩
  joins r d h := (h.2.joinIfRoom h.1 r d).symm
  restates l st h _ _ := ⟨h.1, h.2.stands ⟨fun _ => rfl, fun _ => rfl, rfl, fun _ => rfl, rfl⟩⟩
  closes {p} l h := by
    unfold layerCloseNow
    split
    · exact h
    · obtain ⟨hs, hh⟩ := h.2.endStrokes h.1 .cancelled (p.layerStrokes l)
      exact ⟨hh, hs.stands ⟨fun _ => rfl, fun _ => rfl, rfl, fun _ => rfl, rfl⟩⟩
  clears l h := (h.2.layerClear h.1 l).symm
  flushes queue h := by
    obtain ⟨hs, hh⟩ := h.2.ownFlushQueue queue
    exact ⟨hh.trans h.1, hs⟩

/-- Settles O55: the laws said of the ledger (`ledgerSound_iff`) are kept by every operation (`ledgerSound_kept`), and so
by every command (`Kept.exec`). -/
theorem everyCommandKeepsTheRecordOrder : Obligations.EveryCommandKeepsTheRecordOrder := by
  intro c p q rest hwaiting hordered he
  exact (ledgerSound_iff q).1 (ledgerSound_kept.exec ((ledgerSound_iff p).2 ⟨hwaiting, hordered⟩) he)

end Sys2Proof.Machine
end

section
/-! SUPPORT. The slot that a departure frees, on the display link, on the record link and to the bridge (R140, R145, R146,
R148, R151). -/

namespace Sys2Proof.Machine

/-- The egress is no part of what the service of an END makes of queues, entries and history. -/
theorem SlotServed.withEgress {d : Dest} {tail : List QueueItem} {i : Fin 48} {ws : List (Fin 48)} {c : StrokeCore}
    {e : Ending} {p q : Part} (h : SlotServed d tail i ws c e p q) (g : Egress) :
    SlotServed d tail i ws c e p { q with egress := g } where
  queue := h.queue
  queues := h.queues
  completes := h.completes
  waits := h.waits
  entries := h.entries
  rest := congrArg (fun r : Part => { r with egress := g }) h.rest

section
variable {p : Part} (hin : p.inReset = false) (h : p.Settled) {head : QueueItem} {tail : List QueueItem} {i : Fin 48}
  {ws : List (Fin 48)} {c : StrokeCore} {e : Ending} (he : p.entry i = .ending c e)
include hin h he

/-- Once the display egress may send, the head departs, the first waiting END takes its slot, and nothing else happens
(R145, R146). -/
theorem settle_serves_display (hi : (p.queue .display).items = head :: tail)
    (hw : (p.queue .display).waiting = i :: ws) {g : Egress}
    (hg : g = { p.egress with credit := g.credit, displayBusy := g.displayBusy }) (hc : 1 ≤ g.credit)
    (hb : g.displayBusy = false) : ∃ q, settle { p with egress := g } = q ∧ SlotServed .display tail i ws c e p q ∧
      q.egress = { g with credit := g.credit - 1, displayBusy := true } ∧
      q.sent = p.sent ++ [⟨.display, recordFrame head⟩] := by
  obtain ⟨q, o, hq, hserved, hegress, ho, hsent, hagent⟩ := depart_slotServed hi hw he .display recordFrame
    { g with credit := g.credit - 1, displayBusy := true }
  rw [ho nofun] at hegress
  have hitems : p.queues.display.items ≠ [] := by
    show (p.queue .display).items ≠ []
    rw [hi]
    nofun
  have hdisplay : displayPump { p with egress := g } = q := by
    rw [← hq, displayPump, if_pos ⟨hitems, hc, hb⟩]
  have hrecord : recordPump q = q := by
    refine recordPump_self ?_
    have hqueue : q.queues.record = p.queues.record := hserved.queues .record nofun
    rw [hqueue, hegress, hg]
    by_cases hitem : p.queues.record.items = []
    · exact .inl hitem
    · by_cases hready : p.egress.recorderReady = true
      · exact .inr (.inr (h.record hin hitem hready))
      · exact .inr (.inl (Bool.eq_false_of_not_eq_true hready))
  have hroom : roomChoose q = q := by
    refine roomChoose_self fun hready hframes => ?_
    have hqueue : q.queues.fanout = p.queues.fanout := hserved.queues .fanout nofun
    rw [hagent, hqueue] at hframes
    rw [hegress, hg] at hready ⊢
    exact h.room hin hready hframes
  refine ⟨q, ?_, hserved, hegress, hsent⟩
  have hnot : ¬ ({ p with egress := g } : Part).inReset = true := by
    show ¬ p.inReset = true
    rw [hin]
    exact Bool.false_ne_true
  rw [settle, if_neg hnot, hdisplay, hrecord, hroom]

/-- Once the record egress may send, the head departs, the first waiting END takes its slot, and nothing else happens
(R148). -/
theorem settle_serves_record (hi : (p.queue .record).items = head :: tail)
    (hw : (p.queue .record).waiting = i :: ws) {g : Egress}
    (hg : g = { p.egress with recorderReady := g.recorderReady, recordBusy := g.recordBusy })
    (hc : g.recorderReady = true) (hb : g.recordBusy = false) : ∃ q, settle { p with egress := g } = q ∧
      SlotServed .record tail i ws c e p q ∧ q.egress = { g with recordBusy := true } ∧
      q.sent = p.sent ++ [⟨.record, recordFrame head⟩] := by
  obtain ⟨q, o, hq, hserved, hegress, ho, hsent, hagent⟩ := depart_slotServed hi hw he .record recordFrame
    { g with recordBusy := true }
  rw [ho nofun] at hegress
  have hitems : p.queues.record.items ≠ [] := by
    show (p.queue .record).items ≠ []
    rw [hi]
    nofun
  have hdisplay : displayPump { p with egress := g } = { p with egress := g } := by
    refine displayPump_self ?_
    show p.queues.display.items = [] ∨ g.credit = 0 ∨ g.displayBusy = true
    rw [hg]
    by_cases hitem : p.queues.display.items = []
    · exact .inl hitem
    · rcases Nat.eq_zero_or_pos p.egress.credit with hzero | hpos
      · exact .inr (.inl hzero)
      · exact .inr (.inr (h.display hin hitem hpos))
  have hrecord : recordPump { p with egress := g } = q := by
    rw [← hq, recordPump, if_pos ⟨hitems, hc, hb⟩]
  have hroom : roomChoose q = q := by
    refine roomChoose_self fun hready hframes => ?_
    have hqueue : q.queues.fanout = p.queues.fanout := hserved.queues .fanout nofun
    rw [hagent, hqueue] at hframes
    rw [hegress, hg] at hready ⊢
    exact h.room hin hready hframes
  refine ⟨q, ?_, hserved, hegress, hsent⟩
  have hnot : ¬ ({ p with egress := g } : Part).inReset = true := by
    show ¬ p.inReset = true
    rw [hin]
    exact Bool.false_ne_true
  rw [settle, if_neg hnot, hdisplay, hrecord, hroom]

omit h he in
theorem exec_displayTransmitEnd (rest : List Instr) : exec .displayTransmitEnd ⟨p, rest⟩ =
    .next ⟨settle { p with egress := { p.egress with displayBusy := false } }, rest⟩ :=
  event_next (f := fun p => { p with egress := { p.egress with displayBusy := false } }) rest hin

omit h he in
theorem exec_recordTransmitEnd (rest : List Instr) : exec .recordTransmitEnd ⟨p, rest⟩ =
    .next ⟨settle { p with egress := { p.egress with recordBusy := false } }, rest⟩ :=
  event_next (f := fun p => { p with egress := { p.egress with recordBusy := false } }) rest hin

omit h he in
/-- A grant that does not exceed the balance's maximum is taken (R145). -/
theorem exec_creditGrant (rest : List Instr) (count : Byte) (hmax : p.egress.credit + count.toNat ≤ 255) :
    exec (.creditGrant count (crc [0x22, count])) ⟨p, rest⟩ = .next ⟨settle { p with
      egress := { p.egress with credit := p.egress.credit + count.toNat } }, rest⟩ := by
  have hcode : codeMatches ([0x22, count] ++ be16 (crc [0x22, count])) = true := codeMatches_append_be16.2 rfl
  have hform : displayForm ([0x22, count] ++ be16 (crc [0x22, count])) = .grant count := rfl
  have hle : ¬ Config.creditMax < p.egress.credit + count.toNat := Nat.not_lt.2 hmax
  show event (takeDisplayFrame ([0x22, count] ++ be16 (crc [0x22, count]))) ⟨p, rest⟩ = _
  rw [event_next rest hin, takeDisplayFrame, if_pos hcode, hform]
  simp only [grantCredit, if_neg hle]

end

/-- Settles O34: the departures by what lets the egress send (`settle_serves_display`, `settle_serves_record`), the
acceptance by `exec_bridgeAccept`; the service of the END by `depart_slotServed`. -/
theorem freedSlotGoesToTheFirstWaitingEnd : Obligations.FreedSlotGoesToTheFirstWaitingEnd := by
  intro p rest d head tail i ws c e hin h hi hw he bytes served
  refine ⟨fun hd hc => ?_, fun count hd hb hc => ?_, fun hd hready => ?_, fun hd hb => ?_, fun hd ho hb => ?_⟩ <;>
    subst hd
  · obtain ⟨q, hq, hserved, hegress, hsent⟩ := settle_serves_display hin h he hi hw
      (g := { p.egress with displayBusy := false }) rfl hc rfl
    exact ⟨q, (exec_displayTransmitEnd hin rest).trans (by rw [hq]), hserved, hegress, hsent⟩
  · have hzero : p.egress.credit = 0 := by
      by_contra hne
      have hitems : p.queues.display.items ≠ [] := by
        show (p.queue .display).items ≠ []
        rw [hi]
        nofun
      rw [h.display hin hitems (Nat.one_le_iff_ne_zero.2 hne)] at hb
      cases hb
    obtain ⟨q, hq, hserved, hegress, hsent⟩ := settle_serves_display hin h he hi hw
      (g := { p.egress with credit := p.egress.credit + count.toNat }) rfl (by simp only; omega) hb
    refine ⟨q, (exec_creditGrant hin rest count ?_).trans (by rw [hq]), hserved, hegress, hsent⟩
    have := count.isLt
    omega
  · obtain ⟨q, hq, hserved, hegress, hsent⟩ := settle_serves_record hin h he hi hw
      (g := { p.egress with recordBusy := false }) rfl hready rfl
    exact ⟨q, (exec_recordTransmitEnd hin rest).trans (by rw [hq]), hserved, hegress, hsent⟩
  · obtain ⟨q, hq, hserved, hegress, hsent⟩ := settle_serves_record hin h he hi hw
      (g := { p.egress with recorderReady := true }) rfl rfl hb
    exact ⟨q, by rw [← hq]; rfl, hserved, hegress, hsent⟩
  · obtain ⟨q, o, hq, hserved, hegress, -, hsent, -⟩ := depart_slotServed hi hw he .room fanoutFrame p.egress
    have hnone : (q.setOffer .none).egress = { p.egress with offer := .none } := by
      show ({ q.egress with offer := .none } : Egress) = _
      rw [hegress]
    have hphase : q.phase = p.phase := by rw [hserved.rest]
    have hexec := exec_bridgeAccept hin h (q := q.setOffer .none) hphase (hserved.queues .display nofun)
      (hserved.queues .record nofun) hnone hb (by simp only [bridgeAccept, ho]; rw [← hq]) rest
    refine ⟨_, hexec, hserved.withEgress _, ?_, hsent⟩
    rw [hnone]
    exact congrArg (fun o => ({ p.egress with offer := o } : Egress)) (choice_congr rfl rfl (by rw [hnone]) rfl)

end Sys2Proof.Machine
end

section
/-! SUPPORT. A record handed to an ink queue (R135 to R139): what a raise does where queues and stroke table have changed,
and the part that each outcome of a hand leaves. -/

namespace Sys2Proof.Machine

/-! ### A raise beside changed queues and entries (R150, R181) -/

/-- The choice of the room egress is the same with other queues: the fan-out records are the same, or nothing is to
choose (R150). -/
def Part.ChoiceStands (p : Part) (Q : Queues) : Prop :=
  Q.fanout.items = p.queues.fanout.items ∨ p.egress.offer ≠ .none ∨ p.egress.bridgeReady = false

/-- One part is another with other queues and another stroke table, its offer the same where a condition holds. -/
structure Rebooked (Q : Queues) (A : Assembler) (C : Prop) (p q : Part) : Prop where
  fixed : q = { p with queues := Q, assembler := A, egress := { p.egress with offer := q.egress.offer } }
  stands : C → p.ChoiceStands Q
  offer : C → q.egress.offer = p.egress.offer

namespace Rebooked

variable {Q : Queues} {A : Assembler} {C : Prop} {p q : Part}

theorem ite {p' q' : Part} {b c : Prop} [Decidable b] [Decidable c] (hbc : b ↔ c) (h : Rebooked Q A C p q)
    (h' : Rebooked Q A C p' q') : Rebooked Q A C (if b then p else p') (if c then q else q') := by
  by_cases hc : c
  · rwa [if_pos hc, if_pos (hbc.2 hc)]
  · rwa [if_neg hc, if_neg (mt hbc.1 hc)]

section
variable (h : Rebooked Q A C p q)
include h

theorem agent : q.agent = p.agent := by rw [h.fixed]
theorem errors : q.errors = p.errors := by rw [h.fixed]
theorem tick : q.tick = p.tick := by rw [h.fixed]
theorem bridgeReady : q.egress.bridgeReady = p.egress.bridgeReady := by rw [h.fixed]

theorem noticeLimit : q.noticeLimit = p.noticeLimit := by rw [h.fixed]; rfl

theorem withAgent {a b : Agent} (hab : a = b) : Rebooked Q A C { p with agent := a } { q with agent := b } where
  fixed := by rw [hab]; exact congrArg (fun r : Part => { r with agent := b }) h.fixed
  stands := h.stands
  offer := h.offer

theorem withErrors {e f : Errors} (hef : e = f) : Rebooked Q A C { p with errors := e } { q with errors := f } where
  fixed := by rw [hef]; exact congrArg (fun r : Part => { r with errors := f }) h.fixed
  stands := h.stands
  offer := h.offer

theorem setOffer {o o' : Offer} (hs : C → (p.setOffer o).ChoiceStands Q) (ho : C → o' = o) :
    Rebooked Q A C (p.setOffer o) (q.setOffer o') where
  fixed := congrArg (fun r : Part => r.setOffer o') h.fixed
  stands := hs
  offer := ho

theorem roomChoose : Rebooked Q A C (roomChoose p) (roomChoose q) := by
  rw [roomChoose_eq, roomChoose_eq]
  refine h.setOffer (fun hc => ?_) fun hc => ?_
  · rcases h.stands hc with hitems | ho | hb
    · exact .inl hitems
    · refine .inr (.inl ?_)
      rw [if_neg fun hn => ho hn.1]
      exact ho
    · exact .inr (.inr hb)
  · rw [h.offer hc, h.bridgeReady]
    split
    · next hn =>
      rcases h.stands hc with hitems | ho | hb
      · exact choice_congr (by rw [h.agent]) (by rw [h.fixed]; exact hitems) (by rw [h.fixed]) h.tick
      · exact absurd hn.1 ho
      · rw [hb] at hn
        cases hn.2
    · rfl

theorem notice {m n : Notice} (hmn : m = n) : Rebooked Q A C (notice m p) (notice n q) :=
  ite (by rw [h.agent, h.noticeLimit]) (h.withAgent (by rw [h.agent, h.tick, hmn])).roomChoose
    (h.withAgent (by rw [h.agent]))

theorem logFirst (k : ErrorKind) (src : ErrorSource) : Rebooked Q A C (p.logFirst k src) (q.logFirst k src) :=
  ite (by rw [h.errors]) (h.withErrors (by rw [h.errors, h.tick])) h

theorem raise (k : ErrorKind) (src : ErrorSource) : Rebooked Q A C (raise k src p) (raise k src q) := by
  have hitem : look p.errors.items k.index = look q.errors.items k.index := by rw [h.errors]
  have hlogged := ite (by rw [hitem]) (h.logFirst k src) h
    (b := (!(look p.errors.items k.index).mask && !(look p.errors.items k.index).status) = true)
  have htold := ite (by rw [hitem])
    (hlogged.notice (congrArg (Notice.errorNotice k) h.tick.symm)) hlogged
    (b := ((!(look p.errors.items k.index).mask && !(look p.errors.items k.index).status) &&
      decide ((look p.errors.items k.index).severity = .alert)) = true)
  refine htold.withErrors ?_
  rw [htold.errors, hitem]

end

end Rebooked

/-- A raise neither reads nor changes queues and stroke table, but for the choice that a notice makes due. -/
theorem raise_rebooked (k : ErrorKind) (src : ErrorSource) (p : Part) (Q : Queues) (A : Assembler) :
    Rebooked Q A (p.ChoiceStands Q) (raise k src p) (raise k src { p with queues := Q, assembler := A }) :=
  have h : Rebooked Q A (p.ChoiceStands Q) p { p with queues := Q, assembler := A } := ⟨rfl, id, fun _ => rfl⟩
  h.raise k src

/-- A raise beside queues whose fan-out records stand. -/
theorem raise_beside (k : ErrorKind) (src : ErrorSource) {p : Part} {Q : Queues} (A : Assembler)
    (h : Q.fanout.items = p.queues.fanout.items) :
    raise k src { p with queues := Q, assembler := A } = { raise k src p with queues := Q, assembler := A } := by
  have hr := raise_rebooked k src p Q A
  rw [hr.fixed, hr.offer (.inl h)]

/-! ### The eligible record (R137, R151) -/

/-- The oldest POINTS record of a list is the first. -/
theorem takeOldestPoints_split {before after : List QueueItem} {x : QueueItem} (hx : x.isPoints = true)
    (hb : ∀ y ∈ before, y.isPoints = false) :
    takeOldestPoints (before ++ x :: after) = some (x, before ++ after) := by
  induction before with
  | nil => simp [takeOldestPoints, hx]
  | cons y t ih =>
    have hy := hb y List.mem_cons_self
    simp [takeOldestPoints, hy, ih fun z hz => hb z (List.mem_cons_of_mem y hz)]

theorem takeEligible_split {p : Part} {d : Dest} {before after : List QueueItem} {x : QueueItem}
    (hi : (p.queue d).items = before ++ x :: after) (hx : x.isPoints = true)
    (hb : if d = .fanout ∧ p.egress.offer = .fanout then before ≠ [] ∧ ∀ y ∈ before.tail, y.isPoints = false
      else ∀ y ∈ before, y.isPoints = false) : p.takeEligible d = some (x, before ++ after) := by
  unfold Part.takeEligible
  split
  · next head rest ho hitems =>
    rw [if_pos ⟨rfl, ho⟩] at hb
    obtain ⟨hne, htail⟩ := hb
    obtain ⟨y, t, rfl⟩ := List.exists_cons_of_ne_nil hne
    rw [hitems, List.cons_append, List.cons.injEq] at hi
    have htail : ∀ z ∈ t, z.isPoints = false := htail
    rw [hi.2, takeOldestPoints_split hx htail, hi.1]
    rfl
  · next hnot =>
    rw [if_neg] at hb
    · rw [hi]
      exact takeOldestPoints_split hx hb
    · rintro ⟨rfl, ho⟩
      cases before with
      | nil => exact hnot x after rfl ho hi
      | cons y t => exact hnot y (t ++ x :: after) rfl ho hi

/-! ### The outcomes of a hand (R136 to R139) -/

theorem hasRoom_free {p : Part} (hheld : p.queues.held = DestSet.empty) (d : Dest) :
    p.hasRoom d = true ↔ p.level d < Config.capacity d := by rw [hasRoom_iff hheld, limitOf_empty]

/-- The removal of a POINTS record tells of it, and leaves all else but queue and stroke table. -/
theorem dropOldest_rebooked (d : Dest) (seat : Fin 72) (x : QueueItem) (rest : List QueueItem) (p : Part) :
    Rebooked (p.queues.set d ((p.queue d).dropped rest)) (p.losePointsOf x.serial).assembler
      (p.ChoiceStands (p.queues.set d ((p.queue d).dropped rest)))
      (raise (overflowKind d) ⟨some (portOf d), none, none, some seat, []⟩ p) (dropOldest d seat x rest p) := by
  have h := raise_rebooked (overflowKind d) ⟨some (portOf d), none, none, some seat, []⟩ p
    (p.queues.set d ((p.queue d).dropped rest)) (p.losePointsOf x.serial).assembler
  have hdrop : dropOldest d seat x rest p =
      raise (overflowKind d) ⟨some (portOf d), none, none, some seat, []⟩
        { p with
          queues := p.queues.set d ((p.queue d).dropped rest)
          assembler := (p.losePointsOf x.serial).assembler } := by
    rw [dropOldest]
    simp only [Part.countQueue_setQueue]
    rfl
  rw [hdrop]
  exact h

/-- A queue that is full, or has been found so, has made the choice of the room egress due. -/
theorem choiceStands_of_roomChosen {p : Part} (h : p.RoomChosen) {d : Dest} (hne : (p.queue d).items ≠ [])
    (v : InkQueue) : p.ChoiceStands (p.queues.set d v) := by
  by_cases hd : d = .fanout
  · subst hd
    cases hb : p.egress.bridgeReady with
    | false => exact .inr (.inr hb)
    | true => exact .inr (.inl (h hb (.inr hne)))
  · refine .inl (congrArg InkQueue.items ?_)
    exact (Queues.get_set p.queues d .fanout v).trans (if_neg fun hf => hd hf.symm)

/-- The part that a record handed to a full queue leaves, when the oldest eligible POINTS record has made room for
it (R137). -/
theorem joinInk_dropped {p : Part} {d : Dest} {r : InkRecord} {serial : Nat} {seat : Fin 72} {x : QueueItem}
    {rest : List QueueItem} {q told : Part}
    (ht : told = raise (overflowKind d) ⟨some (portOf d), none, none, some seat, []⟩ p)
    (hq : q = joinInk d r (some serial) (dropOldest d seat x rest p)) :
    q = { told with
      queues := p.queues.set d (((p.queue d).dropped rest).push r (some serial) p.tick)
      assembler := { p.assembler with entries := q.assembler.entries }
      egress := q.egress } ∧
    ((p.queue d).items ≠ [] → p.RoomChosen → q.egress = told.egress) := by
  have h := dropOldest_rebooked d seat x rest p
  rw [← ht] at h
  generalize dropOldest d seat x rest p = s at h hq
  have hqueue : s.queue d = (p.queue d).dropped rest := by
    rw [h.fixed]
    exact (Queues.get_set ..).trans (if_pos rfl)
  have htold : told.tick = p.tick := by
    rw [ht]
    exact (raise_inkStep ..).tick
  obtain ⟨o, ho⟩ := joinInk_eq d r (some serial) s
  rw [← hq] at ho
  refine ⟨?_, fun hne hroom => ?_⟩
  · rw [ho, hqueue, h.tick, htold, h.fixed, htold]
    simp only [Queues.set_set]
    rfl
  · have hstands := choiceStands_of_roomChosen hroom hne ((p.queue d).dropped rest)
    have hegress : s.egress = told.egress := by
      rw [h.fixed, h.offer hstands]
    rw [← hegress]
    by_cases hd : d = .fanout
    · subst hd
      have htold : told.RoomChosen := by
        rw [ht]
        exact (KeepsOffer.raise _ _ _).chosen hroom
      have hitems : told.queues.fanout.items ≠ [] := by
        obtain ⟨a, o, e, hr, -⟩ := raise_frame (overflowKind .fanout) ⟨some (portOf .fanout), none, none, some seat, []⟩ p
        rw [ht, hr]
        exact hne
      have hjoin : q = roomChoose (s.setQueue .fanout ((s.queue .fanout).push r (some serial) s.tick)) := hq
      have hself : roomChoose (s.setQueue .fanout ((s.queue .fanout).push r (some serial) s.tick)) = _ :=
        roomChoose_self fun hb _ => by
          show s.egress.offer ≠ .none
          rw [hegress]
          exact htold (hegress ▸ hb) (.inr hitems)
      rw [hjoin, hself]
      rfl
    · rw [hq, joinInk_other hd]
      rfl

theorem handInk_fits {p : Part} {d : Dest} (h : p.hasRoom d = true) (r : InkRecord) (serial : Nat) (seat : Fin 72) :
    handInk d r serial seat p = (true, joinInk d r (some serial) p) := by rw [handInk, if_pos h]

theorem handInk_replaces {p : Part} {d : Dest} (h : p.hasRoom d = false) (hp : (p.queue d).policy = .dropOldest)
    {x : QueueItem} {rest : List QueueItem} (he : p.takeEligible d = some (x, rest)) (r : InkRecord) (serial : Nat)
    (seat : Fin 72) : handInk d r serial seat p = (true, joinInk d r (some serial) (dropOldest d seat x rest p)) := by
  rw [handInk, if_neg (by rw [h]; exact Bool.false_ne_true)]
  simp only [hp, he]

theorem handInk_stays {p : Part} {d : Dest} (h : ¬ p.admits d) (r : InkRecord) (serial : Nat) (seat : Fin 72) :
    handInk d r serial seat p = (false, p) := by
  rcases handInk_outcome d r serial seat p with ⟨ha, -⟩ | ⟨-, hh⟩
  · exact absurd ha h
  · exact hh

/-- A record turned away is noted at the queue and at the stroke's entry, and raised (R138, R139). -/
theorem raiseOverflow_turned (d : Dest) (seat : Fin 72) (p : Part) (i : Fin 48) (e : Entry) {v : InkQueue}
    (hv : v.items = (p.queue d).items) : raiseOverflow d seat ((p.setEntry i e).setQueue d v) =
      { raise (overflowKind d) ⟨some (portOf d), none, none, some seat, []⟩ p with
        queues := p.queues.set d v
        assembler := { p.assembler with entries := put p.assembler.entries i e } } := by
  refine raise_beside (p := p) _ _ _ ?_
  by_cases hd : d = .fanout
  · subst hd
    exact hv
  · exact congrArg InkQueue.items ((Queues.get_set p.queues d .fanout v).trans (if_neg fun hf => hd hf.symm))

/-- Settles O25: the outcomes of a hand by `handInk_fits`, `handInk_replaces` and `handInk_stays`, what the replacement
leaves by `joinInk_dropped`, and what is turned away by `raiseOverflow_turned`. -/
theorem handedRecordJoinsReplacesOrStays : Obligations.HandedRecordJoinsReplacesOrStays := by
  refine ⟨rfl, rfl, fun d r serial seat p hheld => ⟨fun hlt => ?_, fun before gone after hfull hpolicy hi hgone hb => ?_,
    fun hfull hnone => ?_⟩, fun d p i c r => ⟨fun ha => ?_, fun hn => ?_⟩⟩
  · rw [handInk_fits ((hasRoom_free hheld d).2 hlt)]
    refine ⟨rfl, ?_, ?_, fun x hx => ?_, ?_⟩
    · rw [joinInk_queue, if_pos rfl]
      rfl
    · rw [joinInk_queue, if_pos rfl]
      rfl
    · rw [joinInk_queue, if_neg hx]
    · cases d <;> rfl
  · have hroom : p.hasRoom d = false :=
      Bool.eq_false_of_not_eq_true fun h => Nat.not_lt.2 hfull ((hasRoom_free hheld d).1 h)
    rw [handInk_replaces hroom hpolicy (takeEligible_split hi hgone hb)]
    have hqueue : ((joinInk d r (some serial) (dropOldest d seat gone (before ++ after) p)).queue d) =
        ((p.queue d).dropped (before ++ after)).push r (some serial) p.tick := by
      rw [joinInk_queue, if_pos rfl, dropOldest_queue, if_pos rfl, dropOldest_tick]
    obtain ⟨hq, hegress⟩ := joinInk_dropped (p := p) (d := d) (r := r) (serial := serial) (seat := seat) (x := gone)
      (rest := before ++ after) rfl rfl
    refine ⟨rfl, by rw [hqueue]; rfl, by rw [hqueue]; rfl, ?_, fun j => ?_, hq, hegress ?_⟩
    · rw [joinInk_errors, dropOldest_items, if_pos rfl]
      rfl
    · rw [joinInk_entry, dropOldest_entry]
      rfl
    · rw [hi]
      exact List.append_ne_nil_of_right_ne_nil _ nofun
  · refine handInk_stays (fun ha => ?_) r serial seat
    rcases ha with hroom | ⟨hdrop, x, hx, hpoints⟩
    · exact Nat.not_lt.2 hfull ((hasRoom_free hheld d).1 hroom)
    · have hmem : x ∈ (p.queue d).items := by
        unfold Part.removable at hx
        split at hx
        · exact List.mem_of_mem_tail hx
        · exact hx
      rcases hnone with hstop | hnot | ⟨hd, ho, hnot⟩
      · rw [hstop] at hdrop
        cases hdrop
      · exact Bool.noConfusion (hpoints.symm.trans (hnot x hmem))
      · rw [Part.removable, if_pos ⟨hd, ho⟩] at hx
        exact Bool.noConfusion (hpoints.symm.trans (hnot x hx))
  · rcases handInk_outcome d r c.serial c.seat p with ⟨-, q, hh, hto, -⟩ | ⟨hn, -⟩
    · rw [hh]
      exact ⟨rfl, by simp only [handBegin, hh], (hto id).joins ha⟩
    · exact absurd ha hn
  · have hstays := fun r => handInk_stays hn r c.serial c.seat
    refine ⟨?_, fun order pts => ?_, fun x e he => ?_⟩
    · simp only [handBegin, hstays]
      exact raiseOverflow_turned d c.seat p i _ rfl
    · simp only [handPoints, hstays]
      exact raiseOverflow_turned d c.seat p i _ rfl
    · simp only [handEnd, hstays, Part.updateEnding, he, Part.countQueue_setQueue]
      exact raiseOverflow_turned d c.seat p i _ rfl

end Sys2Proof.Machine
end

section
/-! SUPPORT. FLUSH_QUEUE (R104, R105, R107, R142): the strokes that waited for the queue alone complete, in the order of
the waiting list, and what a flush leaves. -/

namespace Sys2Proof.Machine

/-! ### Completions, one after the other (R105, R142) -/

/-- The summary of an ENDING stroke that waits for no queue. -/
def Entry.completed : Entry → Option Summary
  | .ending c e => if e.waitsOn.isEmpty then some (summaryOf c e) else none
  | _ => none

/-- What a completion makes of an entry. -/
def Entry.afterCompletion (x : Entry) : Entry := if x.completed.isSome then .free else x

/-- A part whose entry may have completed. -/
theorem completeIfDone_completed (i : Fin 48) (p : Part) : completeIfDone i p = { p with
    assembler := { p.assembler with
      entries := if (p.entry i).completed.isSome then put p.assembler.entries i .free else p.assembler.entries }
    history := (p.entry i).completed.elim p.history p.history.append } := by
  cases he : p.entry i with
  | free => simp only [completeIfDone, he]; rfl
  | opened c a => simp only [completeIfDone, he]; rfl
  | ending c e =>
    rw [completeIfDone_eq he, complete_eq he, Entry.completed]
    split <;> rfl

theorem entry_completeIfDone (i j : Fin 48) (p : Part) :
    (completeIfDone i p).entry j = if j = i then (p.entry i).afterCompletion else p.entry j := by
  rw [completeIfDone_completed, Part.entry, Entry.afterCompletion]
  dsimp only
  split
  · rw [look_put]
    rfl
  · split
    · next hj => rw [hj]; rfl
    · rfl

/-- Strokes of different entries complete one after the other: their summaries enter the history list in that order. -/
theorem completesIfDone_eq (l : List (Fin 48)) (hl : l.Nodup) (p : Part) :
    (∀ j, (l.foldl (fun p i => completeIfDone i p) p).entry j =
      if j ∈ l then (p.entry j).afterCompletion else p.entry j) ∧
    l.foldl (fun p i => completeIfDone i p) p = { p with
      assembler := { p.assembler with
        entries := (l.foldl (fun p i => completeIfDone i p) p).assembler.entries }
      history := (l.filterMap fun i => (p.entry i).completed).foldl History.append p.history } := by
  induction l generalizing p with
  | nil => exact ⟨fun j => (if_neg List.not_mem_nil).symm, rfl⟩
  | cons i t ih =>
    obtain ⟨hit, ht⟩ := List.nodup_cons.1 hl
    obtain ⟨hentry, hpart⟩ := ih ht (completeIfDone i p)
    rw [List.foldl_cons]
    refine ⟨fun j => ?_, ?_⟩
    · rw [hentry, entry_completeIfDone]
      by_cases hj : j = i
      · subst hj
        rw [if_neg hit, if_pos rfl, if_pos List.mem_cons_self]
      · simp [hj]
    · have hrest : (t.filterMap fun j => ((completeIfDone i p).entry j).completed) =
          t.filterMap fun j => (p.entry j).completed :=
        List.filterMap_congr fun j hj => by rw [entry_completeIfDone, if_neg (ne_of_mem_of_not_mem hj hit)]
      have hhistory : (t.filterMap fun j => (p.entry j).completed).foldl History.append
          (completeIfDone i p).history =
            ((i :: t).filterMap fun j => (p.entry j).completed).foldl History.append p.history := by
        rw [completeIfDone_completed, List.filterMap_cons]
        cases (p.entry i).completed <;> rfl
      rw [hrest, hhistory] at hpart
      generalize t.foldl (fun p i => completeIfDone i p) (completeIfDone i p) = q at hpart
      rw [hpart, completeIfDone_completed]

/-! ### What a flush leaves (R142) -/

theorem suppress_summary (c : StrokeCore) (d : Dest) (e : Ending) : summaryOf (c.suppress d) e = summaryOf c e := by
  unfold StrokeCore.suppress
  split <;> rfl

theorem erase_of_not_has {s : DestSet} {d : Dest} (h : s.has d = false) : s.erase d = s :=
  destSet_ext fun x => by
    by_cases hx : x = d
    · simp [hx, h]
    · simp [hx]

/-- What becomes of an entry when a queue is flushed and the strokes that waited for it alone complete. -/
def Entry.afterFlush (d : Dest) : Entry → Entry
  | .free => .free
  | .opened c a => .opened (c.suppress d) a
  | .ending c e =>
    if (e.waitsOn.erase d).isEmpty then .free
    else .ending (c.suppress d) { e with waitsOn := e.waitsOn.erase d, delivered := e.delivered.erase d }

section
variable {p : Part} (hw : p.WaitingAgrees) (d : Dest)
include hw

/-- After a flush an ENDING entry waits for the queue no longer, and the destination has left its delivered set. -/
theorem flushed_ending {i : Fin 48} {c : StrokeCore} {e : Ending} (he : p.entry i = .ending c e) :
    (p.flushed d).entry i =
      .ending (c.suppress d) { e with waitsOn := e.waitsOn.erase d, delivered := e.delivered.erase d } := by
  rw [flushed_entry (hw.once d), he]
  split
  · rfl
  · next hnot =>
    have hwaits : e.waitsOn.has d = false := Bool.eq_false_of_not_eq_true fun h =>
      hnot ((hw.names d i).2 (by rw [he]; exact h))
    rw [erase_of_not_has hwaits]
    rfl

/-- An ENDING entry that waits for no other queue stands in the queue's waiting list. -/
theorem waits_of_erase_empty {i : Fin 48} {c : StrokeCore} {e : Ending} (he : p.entry i = .ending c e)
    (hdone : (e.waitsOn.erase d).isEmpty = true) : i ∈ (p.queue d).waiting := by
  refine (hw.names d i).2 ?_
  rw [he]
  by_contra hnot
  have hnone : e.waitsOn.has d = false := Bool.eq_false_of_not_eq_true hnot
  rw [erase_of_not_has hnone, hw.waits i c e he] at hdone
  cases hdone

/-- The entries that a flush completes are those of the waiting list whose strokes wait for no other queue. -/
theorem flushed_doneCount :
    ((p.queue d).waiting.filter fun i => ((p.flushed d).entry i).doneWaiting).length =
      p.countEntries fun x => match x with
        | .ending _ e => e.waitsOn.has d && (e.waitsOn.erase d).isEmpty
        | _ => false := by
  rw [Part.countEntries, toList_eq_map, List.countP_map, List.countP_eq_length_filter]
  refine ((List.perm_ext_iff_of_nodup ((hw.once d).filter _) ((indexes_nodup 48).filter _)).2 fun i => ?_).length_eq
  rw [List.mem_filter, List.mem_filter, hw.names]
  show _ ↔ i ∈ indexes 48 ∧ (match p.entry i with
    | .ending _ e => e.waitsOn.has d && (e.waitsOn.erase d).isEmpty
    | _ => false) = true
  cases he : p.entry i with
  | free => simp [Entry.waitsFor]
  | opened c a => simp [Entry.waitsFor]
  | ending c e =>
    rw [flushed_ending hw d he]
    simp [Entry.waitsFor, Entry.doneWaiting, mem_indexes]

/-- The strokes that waited for the flushed queue alone are complete. -/
theorem flushed_afterCompletion (i : Fin 48) :
    (if i ∈ (p.queue d).waiting then ((p.flushed d).entry i).afterCompletion else (p.flushed d).entry i) =
      (p.entry i).afterFlush d := by
  cases he : p.entry i with
  | free =>
    have hnot : i ∉ (p.queue d).waiting := fun hm => by
      rw [hw.names, he] at hm
      cases hm
    rw [if_neg hnot, flushed_entry (hw.once d), if_neg hnot, he]
    rfl
  | opened c a =>
    have hnot : i ∉ (p.queue d).waiting := fun hm => by
      rw [hw.names, he] at hm
      cases hm
    rw [if_neg hnot, flushed_entry (hw.once d), if_neg hnot, he]
    rfl
  | ending c e =>
    rw [flushed_ending hw d he]
    by_cases hdone : (e.waitsOn.erase d).isEmpty = true
    · rw [if_pos (waits_of_erase_empty hw d he hdone)]
      simp [Entry.afterCompletion, Entry.completed, Entry.afterFlush, hdone]
    · simp [Entry.afterCompletion, Entry.completed, Entry.afterFlush, hdone]

/-- The summaries of the strokes that a flush completes, in the order of the waiting list. -/
theorem flushed_summaries : ((p.queue d).waiting.filterMap fun i => ((p.flushed d).entry i).completed) =
    (p.queue d).waiting.filterMap fun i => match p.entry i with
      | .ending c e =>
        if (e.waitsOn.erase d).isEmpty then
          some (summaryOf c { e with waitsOn := e.waitsOn.erase d, delivered := e.delivered.erase d })
        else none
      | _ => none := by
  refine List.filterMap_congr fun i hi => ?_
  rw [hw.names] at hi
  cases he : p.entry i with
  | free => rw [he] at hi; cases hi
  | opened c a => rw [he] at hi; cases hi
  | ending c e =>
    rw [flushed_ending hw d he, Entry.completed, suppress_summary]

end

/-- The part that a flush leaves, before the room egress chooses afresh (R142). -/
def Part.flushDone (p : Part) (d : Dest) : Part :=
  (p.queue d).waiting.foldl (fun p i => completeIfDone i p) (p.flushed d)

theorem ownFlushQueue_eq (d : Dest) (p : Part) : ownFlushQueue d.code p =
    taken (.flushed (p.level d) (p.countEntries (Entry.newlySuppressed d))
      ((p.queue d).waiting.filter fun i => ((p.flushed d).entry i).doneWaiting).length) (roomChoose (p.flushDone d)) := by
  rw [ownFlushQueue, Dest.of_code]
  rfl

/-- What a flush changes of the part, the entries apart. -/
theorem flushDone_eq {p : Part} (hw : p.WaitingAgrees) (d : Dest) : p.flushDone d = { p with
    assembler := { p.assembler with entries := (p.flushDone d).assembler.entries }
    queues := p.queues.set d (p.queue d).emptied
    history := ((p.queue d).waiting.filterMap fun i => ((p.flushed d).entry i).completed).foldl History.append
      p.history
    egress := { p.egress with
      offer := if d = .fanout ∧ p.egress.offer = .fanout then .none else p.egress.offer } } := by
  obtain ⟨-, hpart⟩ := completesIfDone_eq (p.queue d).waiting (hw.once d) (p.flushed d)
  have hpart : p.flushDone d = _ := hpart
  have hflushed := flushed_eq p d
  generalize hf : (p.flushed d).entry = f at hpart ⊢
  clear hf
  generalize p.flushDone d = q at hpart ⊢
  generalize p.flushed d = r at hpart hflushed
  rw [hpart, hflushed]

/-- Settles O48: the flush of queue and entries by `flushed_eq` and `flushed_entry`, the completions by
`completesIfDone_eq`, and the counts of the reply by `flushed_doneCount`. -/
theorem flushEmptiesTheQueue : Obligations.FlushEmptiesTheQueue := by
  intro req d p rest ht hw
  have hw' : (p.holdReply true).WaitingAgrees := ⟨hw.free, hw.ink, hw.once, hw.names, hw.waits, hw.apart, hw.full⟩
  obtain ⟨r, hr⟩ : ∃ r, r = (p.holdReply true).flushDone d := ⟨_, rfl⟩
  have hpart := flushDone_eq hw' d
  rw [← hr, flushed_summaries hw' d] at hpart
  have hentry : ∀ i, r.entry i = (p.entry i).afterFlush d := fun i => by
    rw [hr]
    exact ((completesIfDone_eq _ (hw'.once d) ((p.holdReply true).flushed d)).1 i).trans
      (flushed_afterCompletion hw' d i)
  obtain ⟨q, hq⟩ : ∃ q, q = (roomChoose r).holdReply p.agent.replyHeld := ⟨_, rfl⟩
  have hqueues : q.queues = p.queues.set d (p.queue d).emptied := by
    rw [hq, Part.holdReply_queues, roomChoose_queues, hpart]
    rfl
  have hchoice : r.choice = q.choice := by
    have hchosen := roomChoose_eq r
    rw [hq, hchosen]
    exact choice_congr rfl rfl rfl rfl
  have hegress : q.egress = { p.egress with
      offer := if (d = .fanout ∧ p.egress.offer = .fanout ∨ p.egress.offer = .none) ∧ p.egress.bridgeReady = true
        then q.choice else if d = .fanout ∧ p.egress.offer = .fanout then .none else p.egress.offer } := by
    rw [← hchoice, hq, Part.holdReply_egress, roomChoose_eq, hpart]
    by_cases hwithdrawn : d = .fanout ∧ p.egress.offer = .fanout <;> simp [Part.setOffer, hwithdrawn]
  have hqueue : ∀ x, q.queue x = if x = d then (p.queue d).emptied else p.queue x := fun x => by
    rw [Part.queue, hqueues]
    exact Queues.get_set ..
  refine ⟨q, ?_, ?_, fun x hx => ?_, fun i => ?_, ?_, fun hd => ?_, hegress, ?_, ?_⟩
  · have hdone := flushed_doneCount hw' d
    have hown := ownFlushQueue_eq d (p.holdReply true)
    rw [hdone, ← hr] at hown
    have hexec := exec_answered (c := .flushQueue req d.code) ht rfl hown rest
    rw [hq, answered_holdReply]
    exact hexec
  · rw [hqueue, if_pos rfl]
    rfl
  · rw [hqueue, if_neg hx]
  · have hsame : q.entry i = r.entry i := by
      rw [hq, roomChoose_eq]
      rfl
    rw [hsame, hentry]
    cases p.entry i with
    | free => rfl
    | opened c a => rfl
    | ending c e =>
      dsimp only [Entry.afterFlush]
      split
      · rfl
      · rfl
  · rw [hq, Part.holdReply_history, roomChoose_history, hpart]
    refine congrArg (List.foldl History.append p.history) (List.filterMap_congr fun i _ => ?_)
    show (match p.entry i with | .ending c e => _ | _ => _) = _
    cases p.entry i <;> rfl
  · have hempty : q.queues.fanout.items = [] := by
      subst hd
      have := hqueue .fanout
      rw [if_pos rfl] at this
      exact congrArg InkQueue.items this
    have hnot : q.choice ≠ .fanout := fun hc => choice_fanout hc hempty
    rw [hegress]
    dsimp only
    split
    · exact hnot
    · split
      · nofun
      · next hout => exact fun ho => hout ⟨hd, ho⟩
  · rw [hqueues]
    exact Queues.held_set ..
  · rw [hq, roomChoose_eq, hpart]
    rfl

end Sys2Proof.Machine
end

section
/-! SUPPORT. CLOSE_NOW and CLEAR (R110, R115, R123 to R127): what the ends of a layer's strokes leave of the entries,
the layers and the room of the queues, and how the LAYER records join. -/

namespace Sys2Proof.Machine

/-! ### The strokes of a layer (R110) -/

theorem mem_layerStrokes {p : Part} {l : Fin 8} {i : Fin 48} :
    i ∈ p.layerStrokes l ↔ ∃ c a, p.entry i = .opened c a ∧ c.layer = l := by
  simp only [Part.layerStrokes, mem_openEntries, decide_eq_true_eq]

theorem length_layerStrokes (p : Part) (l : Fin 8) :
    (p.layerStrokes l).length = p.countEntries (Entry.isOpenOn l) := by
  rw [Part.layerStrokes, Part.openEntries, ← List.countP_eq_length_filter, Part.countEntries, toList_eq_map,
    List.countP_map]
  refine List.countP_congr fun i _ => ?_
  show _ ↔ (p.entry i).isOpenOn l = true
  cases p.entry i <;> rfl

/-! ### What the ends of some strokes leave of entries and layers (R101, R115) -/

theorem endStroke_mayLose (reason : EndReason) (p : Part) {i j : Fin 48} (hj : j ≠ i) :
    (p.entry j).MayLose ((endStroke reason p i).entry j) := by
  by_cases he : ∃ c a, p.entry i = .opened c a
  · obtain ⟨c, a, he⟩ := he
    obtain ⟨sent, c', e', q, hout⟩ := endStroke_handsOut reason he
    exact hout.entry_other hj
  · rw [endStroke_self reason fun c a hc => he ⟨c, a, hc⟩]
    exact .refl _

theorem endStrokes_mayLose (reason : EndReason) (strokes : List (Fin 48)) (p : Part) {j : Fin 48}
    (hj : j ∉ strokes) : (p.entry j).MayLose ((strokes.foldl (endStroke reason) p).entry j) :=
  List.foldlRecOn strokes (endStroke reason) (motive := fun q : Part => (p.entry j).MayLose (q.entry j)) (.refl _)
    fun q hq _ hi => hq.trans (endStroke_mayLose reason q (ne_of_mem_of_not_mem hi hj).symm)

/-- The layer of some strokes is told of the end of each, and no other layer is. -/
theorem endStrokes_layer (reason : EndReason) (l : Fin 8) (strokes : List (Fin 48)) (hn : strokes.Nodup) (p : Part)
    (hopen : ∀ i ∈ strokes, ∃ c a, p.entry i = .opened c a ∧ c.layer = l) (m : Fin 8) :
    (strokes.foldl (endStroke reason) p).layer m =
      if m = l then Layer.strokeEnded^[strokes.length] (p.layer l) else p.layer m := by
  induction strokes generalizing p with
  | nil =>
    split
    · next hm => rw [hm]; rfl
    · rfl
  | cons i t ih =>
    obtain ⟨hit, ht⟩ := List.nodup_cons.1 hn
    obtain ⟨c, a, he, hc⟩ := hopen i List.mem_cons_self
    obtain ⟨sent, c', e', q, hout⟩ := endStroke_handsOut reason he
    have hrest : ∀ j ∈ t, ∃ c a, (endStroke reason p i).entry j = .opened c a ∧ c.layer = l := fun j hj => by
      obtain ⟨c, a, hj', hcl⟩ := hopen j (List.mem_cons_of_mem i hj)
      have hlose := endStroke_mayLose reason p (ne_of_mem_of_not_mem hj hit)
      rw [hj'] at hlose
      obtain ⟨c', hc', hlike⟩ := hlose.opened
      exact ⟨c', a, hc', by rw [hlike.flags]; exact hcl⟩
    rw [List.foldl_cons, ih ht _ hrest, hout.layer, hout.layer, hc, if_pos rfl, List.length_cons,
      Function.iterate_succ_apply]
    split <;> rfl

theorem iterate_strokeEnded_openCount (n : Nat) (y : Layer) :
    (Layer.strokeEnded^[n] y).openCount = y.openCount - n := by
  induction n generalizing y with
  | zero => rfl
  | succ n ih =>
    rw [Function.iterate_succ_apply, ih]
    show y.openCount - 1 - n = _
    omega

theorem iterate_strokeEnded_mode (n : Nat) (y : Layer) : (Layer.strokeEnded^[n] y).mode = y.mode := by
  induction n generalizing y with
  | zero => rfl
  | succ n ih => rw [Function.iterate_succ_apply, ih]; rfl

/-- A layer that is not DRAINING keeps its state when its strokes end (R115). -/
theorem iterate_strokeEnded_state (n : Nat) {y : Layer} (hy : y.state ≠ .draining) :
    (Layer.strokeEnded^[n] y).state = y.state := by
  induction n generalizing y with
  | zero => rfl
  | succ n ih =>
    have hone : y.strokeEnded.state = y.state := if_neg fun h => hy h.1
    rw [Function.iterate_succ_apply, ih (hone ▸ hy), hone]

/-- The OPEN strokes of a layer have ended, and the other layers and the OPEN strokes on them stand. -/
structure LayerEmptied (l : Fin 8) (p q : Part) : Prop where
  none : q.countEntries (Entry.isOpenOn l) = 0
  openCount : (q.layer l).openCount = (p.layer l).openCount - p.countEntries (Entry.isOpenOn l)
  mode : (q.layer l).mode = (p.layer l).mode
  state : (p.layer l).state ≠ .draining → (q.layer l).state = (p.layer l).state
  layers : ∀ m, m ≠ l → q.layer m = p.layer m
  others : ∀ i c a, p.entry i = .opened c a → c.layer ≠ l → ∃ c', q.entry i = .opened c' a ∧ c'.id = c.id
  tick : q.tick = p.tick
  active : q.active = p.active
  staged : q.staged = p.staged
  staging : q.staging = p.staging

theorem layerStrokes_nodup (p : Part) (l : Fin 8) : (p.layerStrokes l).Nodup :=
  (openEntries_pairwise p _).imp ne_of_lt

theorem layerStrokes_strokesEnded (reason : EndReason) (l : Fin 8) (p : Part) :
    StrokesEnded reason (p.layerStrokes l) p ((p.layerStrokes l).foldl (endStroke reason) p) :=
  endStrokes_ended reason _ (layerStrokes_nodup p l) p fun _ hi => by
    obtain ⟨c, a, he, -⟩ := mem_layerStrokes.1 hi
    exact ⟨c, a, he⟩

theorem layerStrokes_emptied (reason : EndReason) (l : Fin 8) (p : Part) :
    LayerEmptied l p ((p.layerStrokes l).foldl (endStroke reason) p) := by
  obtain ⟨seats, entries, counters, layers, queues, agent, offer, history, errors, hframe⟩ :=
    (layerStrokes_strokesEnded reason l p).blocks
  have hlayer := endStrokes_layer reason l (p.layerStrokes l) (layerStrokes_nodup p l) p fun i =>
    mem_layerStrokes.1
  have hown := (hlayer l).trans (if_pos rfl)
  exact {
    none := countEntries_eq_zero (layerStrokes_ended reason l p)
    openCount := by rw [hown, iterate_strokeEnded_openCount, length_layerStrokes]
    mode := by rw [hown, iterate_strokeEnded_mode]
    state := fun hs => by rw [hown, iterate_strokeEnded_state _ hs]
    layers := fun m hm => (hlayer m).trans (if_neg hm)
    others := fun i c a he hc => by
      have hnot : i ∉ p.layerStrokes l := fun hi => by
        obtain ⟨c', a', he', hc'⟩ := mem_layerStrokes.1 hi
        rw [he] at he'
        cases he'
        exact hc hc'
      have hlose := endStrokes_mayLose reason _ p hnot
      rw [he] at hlose
      obtain ⟨c', hc', hlike⟩ := hlose.opened
      exact ⟨c', hc', by rw [hlike.flags]⟩
    tick := by rw [hframe]
    active := by rw [hframe]
    staged := by rw [hframe]
    staging := by rw [hframe] }


/-- The strokes of a layer that end are counted by the reason of their ends (R111). -/
theorem layerStrokes_counted (reason : EndReason) (l : Fin 8) (p : Part) :
    ((p.layerStrokes l).foldl (endStroke reason) p).assembler.counters.ended reason =
      if p.countEntries (Entry.isOpenOn l) = 0 then p.assembler.counters.ended reason
      else min 65535 (p.assembler.counters.ended reason + p.countEntries (Entry.isOpenOn l)) := by
  rw [(layerStrokes_strokesEnded reason l p).counted, ← length_layerStrokes]
  simp only [List.length_eq_zero_iff]

/-! ### The slots held back for the LAYER records (R125) -/

/-- A queue leaves the slot free that is held on it. -/
def Part.leavesHeld (owed : DestSet) (d : Dest) (p : Part) : Prop :=
  p.queues.held = owed ∧ p.level d ≤ limitOf owed d

section
variable {owed : DestSet} {e : Dest} {p : Part}

theorem HandedTo.leavesHeld {d : Dest} {r : InkRecord} {serial : Nat} {turned : InkQueue → InkQueue} {q : Part}
    (hto : HandedTo d r serial turned p q) (ht : ∀ k, (turned k).items = k.items) (h : p.leavesHeld owed e) :
    q.leavesHeld owed e := by
  obtain ⟨hheld, hlevel⟩ := h
  refine ⟨hto.held.trans hheld, ?_⟩
  unfold Part.level at *
  by_cases he : e = d
  · subst he
    by_cases ha : p.admits e
    · obtain ⟨hfits, hreplaces⟩ := hto.joins ha
      cases hroom : p.hasRoom e with
      | true =>
        rw [hfits hroom, List.length_append]
        exact (hasRoom_iff hheld e).1 hroom
      | false =>
        obtain ⟨before, gone, after, hitems, -, -, hq⟩ := hreplaces hroom
        rw [hitems] at hlevel
        rw [hq]
        simp only [List.length_append, List.length_cons, List.length_nil] at hlevel ⊢
        omega
    · rw [hto.turns ha, ht]
      exact hlevel
  · rw [hto.others e he]
    exact hlevel

theorem emitPoints_leavesHeld (h : p.leavesHeld owed e) (i : Fin 48) : (emitPoints i p).leavesHeld owed e :=
  emitPoints_induction h (fun _ _ _ => h) fun c order pts q d hq =>
    (handPoints_handedTo i c order pts q d).leavesHeld (fun _ => rfl) hq

theorem deliverEnd_leavesHeld (h : p.leavesHeld owed e) (i : Fin 48) (c : StrokeCore) (r : InkRecord) :
    (deliverEnd i c r p).leavesHeld owed e := by
  have hfold : (c.targets.foldl (handEnd i c r) p).leavesHeld owed e :=
    foldl_keeps (fun d hq => (handEnd_handedTo i c r _ d).leavesHeld (fun _ => rfl) hq) _ h
  simp only [deliverEnd]
  split
  · next c' e' he =>
    split
    · rw [complete_eq he]
      exact hfold
    · exact hfold
  · exact hfold

/-- The end of a stroke leaves the held slots free (R125). -/
theorem endStroke_leavesHeld (reason : EndReason) (i : Fin 48) (h : p.leavesHeld owed e) :
    (endStroke reason p i).leavesHeld owed e := by
  by_cases he : ∃ c a, p.entry i = .opened c a
  · obtain ⟨c, a, he⟩ := he
    obtain ⟨sent, hs, -⟩ := emitPoints_entry he
    rw [endStroke_eq reason he hs]
    have hclosing : (p.closing i reason c.seat (sent.finished a.lastContact) a.lastContact).leavesHeld owed e :=
      emitPoints_leavesHeld h i
    exact deliverEnd_leavesHeld hclosing i _ _
  · rw [endStroke_self reason fun c a hc => he ⟨c, a, hc⟩]
    exact h

end

/-! ### The LAYER records (R126) -/

theorem joinInk_hasRoom {d e : Dest} (he : e ≠ d) (r : InkRecord) (serial : Option Nat) (p : Part) :
    (joinInk d r serial p).hasRoom e = p.hasRoom e := by
  unfold Part.hasRoom Part.level
  rw [joinInk_held, joinInk_queue, if_neg he]

/-- Records that find room on each of several destinations join there. -/
theorem foldl_joinIfRoom (r : InkRecord) (l : List Dest) (hl : l.Nodup) {p : Part}
    (hroom : ∀ d ∈ l, p.hasRoom d = true) :
    l.foldl (joinIfRoom r) p = l.foldl (fun p d => joinInk d r none p) p := by
  induction l generalizing p with
  | nil => rfl
  | cons d t ih =>
    obtain ⟨hdt, ht⟩ := List.nodup_cons.1 hl
    rw [List.foldl_cons, List.foldl_cons, joinIfRoom, if_pos (hroom d List.mem_cons_self)]
    refine ih ht fun e he => ?_
    rw [joinInk_hasRoom (ne_of_mem_of_not_mem he hdt)]
    exact hroom e (List.mem_cons_of_mem d he)

/-- What joins the record queue does not concern the choice of the room egress (R150). -/
theorem joinInk_record_roomChoose (r : InkRecord) (serial : Option Nat) (p : Part) :
    joinInk .record r serial (roomChoose p) = roomChoose (joinInk .record r serial p) := by
  rw [roomChoose_eq, roomChoose_eq]
  rfl

theorem foldl_toList {α : Type} (f : α → Dest → α) (s : DestSet) (x : α) : s.toList.foldl f x =
    let x1 := if s.display then f x .display else x
    let x2 := if s.fanout then f x1 .fanout else x1
    if s.record then f x2 .record else x2 := by
  rw [DestSet.toList, List.foldl_filter]
  rfl

/-- A part to whose queues a record of no stroke has joined on a set of destinations (R126). -/
def Part.pushedAll (p : Part) (dests : DestSet) (r : InkRecord) : Part :=
  { p with queues := p.queues.pushAll dests r p.tick }

/-- A record joins every queue of a destination set; one that joins the fan-out queue may be offered at once. -/
theorem joinInk_toList (dests : DestSet) (r : InkRecord) (p : Part) :
    dests.toList.foldl (fun p d => joinInk d r none p) p =
      if dests.fanout = true then roomChoose (p.pushedAll dests r) else p.pushedAll dests r := by
  rw [foldl_toList]
  obtain ⟨display, fanout, record⟩ := dests
  cases fanout with
  | false => cases display <;> cases record <;> rfl
  | true =>
    cases record with
    | false => cases display <;> rfl
    | true =>
      refine (joinInk_record_roomChoose ..).trans ?_
      cases display <;> rfl

/-! ### The summaries of a layer (R127, R164) -/

theorem removeLayer_list (h : History) (l : Fin 8) :
    (h.removeLayer l).list = h.list.filter fun s => !decide (s.layer = l) :=
  List.filter_congr fun _ _ => decide_not

theorem removeLayer_unread {h : History} (l : Fin 8) (hu : h.unread ≤ h.list.length) :
    (h.removeLayer l).unread =
      (h.list.drop (h.list.length - h.unread)).countP fun s => !decide (s.layer = l) := by
  have hsplit := List.length_eq_countP_add_countP (fun s : Summary => decide (s.layer = l))
    (l := h.list.drop (h.list.length - h.unread))
  rw [List.length_drop] at hsplit
  simp only [History.removeLayer]
  simp only [decide_eq_true_eq] at hsplit
  simp only [← decide_not]
  omega

/-! ### The two requests (R118, R123, R124) -/

theorem ownLayerControl_closeNow (l : Fin 8) (p : Part) : ownLayerControl (byteOf l.val) 4 p = layerCloseNow l p := by
  show withLayer (byteOf l.val) layerCloseNow p = _
  rw [withLayer, finOf_byteOf_8]

theorem ownLayerControl_clear (l : Fin 8) (p : Part) : ownLayerControl (byteOf l.val) 5 p = layerClear l p := by
  show withLayer (byteOf l.val) layerClear p = _
  rw [withLayer, finOf_byteOf_8]

section
variable {l : Fin 8} {p : Part}

theorem layerCloseNow_closed (hs : (p.layer l).state = .closed) : layerCloseNow l p = refuseLayer .state l p :=
  if_pos hs

/-- What a CLOSE_NOW that is taken does: the strokes of the layer end, and the layer is CLOSED (R123). -/
theorem layerCloseNow_taken (hs : (p.layer l).state ≠ .closed) : layerCloseNow l p =
    taken (.layerEnded l .closed (p.countEntries (Entry.isOpenOn l)))
      (((p.layerStrokes l).foldl (endStroke .cancelled) p).setLayerState l .closed) := by
  rw [layerCloseNow, if_neg hs, ← length_layerStrokes]
  simp only [Part.setLayerState, Part.layer_setLayer_same]

theorem layerClear_notAllowed (hs : (p.layer l).state = .closed ∨ (p.layer l).state = .draining) :
    layerClear l p = refuseLayer .state l p := if_pos hs

theorem has_lacking (dests : DestSet) (n : Nat) (d : Dest) :
    (p.lacking dests n).has d = true ↔ dests.has d = true ∧ p.freeSlots d < n := by
  cases d <;> simp [Part.lacking, DestSet.has]

theorem allowsClear (hs : (p.layer l).state = .opened ∨ (p.layer l).state = .frozen) :
    ¬ ((p.layer l).state = .closed ∨ (p.layer l).state = .draining) := by
  rcases hs with hs | hs <;> simp [hs]

/-- A CLEAR finds no room on a destination without n + 1 free slots (R124). -/
theorem layerClear_noRoom (hs : (p.layer l).state = .opened ∨ (p.layer l).state = .frozen) {d : Dest}
    (hd : (p.lacking (p.layer l).mode.dests ((p.layer l).openCount + 1)).has d = true) :
    layerClear l p = refuseRoom l (p.lacking (p.layer l).mode.dests ((p.layer l).openCount + 1)) p := by
  have hlack : (p.lacking (p.layer l).mode.dests ((p.layer l).openCount + 1)).isEmpty = false :=
    Bool.eq_false_of_not_eq_true fun h => Bool.noConfusion (((DestSet.isEmpty_iff _).1 h d).symm.trans hd)
  rw [layerClear, if_neg (allowsClear hs)]
  exact if_pos hlack

/-- The part when the strokes of a CLEAR have ended, a slot held on each destination (R125). -/
def Part.clearedStrokes (p : Part) (l : Fin 8) : Part :=
  (p.layerStrokes l).foldl (endStroke .cleared) (p.holdSlots (p.layer l).mode.dests)

/-- What the strokes of a layer leave that a CLEAR ends. -/
theorem clearedStrokes_emptied (p : Part) (l : Fin 8) : LayerEmptied l p (p.clearedStrokes l) := by
  have h := layerStrokes_emptied .cleared l (p.holdSlots (p.layer l).mode.dests)
  exact ⟨h.none, h.openCount, h.mode, h.state, h.layers, h.others, h.tick, h.active, h.staged, h.staging⟩

/-- A CLEAR of a layer without OPEN strokes ends none. -/
theorem clearedStrokes_history (hn : p.countEntries (Entry.isOpenOn l) = 0) :
    (p.clearedStrokes l).history = p.history := by
  rw [← length_layerStrokes, List.length_eq_zero_iff] at hn
  rw [Part.clearedStrokes, hn]
  rfl

/-- The part when the held slots of a CLEAR have gone to its LAYER records (R126). -/
def Part.clearTold (p : Part) (l : Fin 8) : Part :=
  let told : Part := { p.clearedStrokes l with
    queues := { (p.clearedStrokes l).queues with held := DestSet.empty }.pushAll (p.layer l).mode.dests
      (.layer l .cleared) p.tick }
  if (p.layer l).mode.dests.fanout = true then roomChoose told else told

/-- What a CLEAR leaves (R127). -/
def Part.cleared (p : Part) (l : Fin 8) : Part :=
  { p.clearTold l with history := (p.clearedStrokes l).history.removeLayer l }

theorem clearTold_eq (p : Part) (l : Fin 8) : ∃ o, p.clearTold l = { p.clearedStrokes l with
    queues := { (p.clearedStrokes l).queues with held := DestSet.empty }.pushAll (p.layer l).mode.dests
      (.layer l .cleared) p.tick
    egress := { (p.clearedStrokes l).egress with offer := o } } := by
  unfold Part.clearTold
  split
  · exact ⟨_, roomChoose_eq _⟩
  · exact ⟨_, rfl⟩

theorem cleared_queues (p : Part) (l : Fin 8) : (p.cleared l).queues =
    { (p.clearedStrokes l).queues with held := DestSet.empty }.pushAll (p.layer l).mode.dests
      (.layer l .cleared) p.tick := by
  obtain ⟨o, h⟩ := clearTold_eq p l
  rw [Part.cleared, h]

theorem cleared_assembler (p : Part) (l : Fin 8) : (p.cleared l).assembler = (p.clearedStrokes l).assembler := by
  obtain ⟨o, h⟩ := clearTold_eq p l
  rw [Part.cleared, h]

theorem cleared_emptied (p : Part) (l : Fin 8) : LayerEmptied l p (p.cleared l) := by
  obtain ⟨o, ho⟩ := clearTold_eq p l
  have h := clearedStrokes_emptied p l
  rw [Part.cleared, ho]
  exact ⟨h.none, h.openCount, h.mode, h.state, h.layers, h.others, h.tick, h.active, h.staged, h.staging⟩

/-- With room on each destination the LAYER records of a CLEAR join there (R125, R126). -/
theorem clearEffects_told
    (hroom : ∀ d, (p.layer l).mode.dests.has d = true → p.level d < Config.capacity d) :
    clearEffects l (p.layerStrokes l) p = p.clearTold l := by
  rw [clearEffects_eq]
  have hjoins : ∀ d ∈ (p.layer l).mode.dests.toList,
      ((p.clearedStrokes l).holdSlots DestSet.empty).hasRoom d = true := fun d hd => by
    have hhas := (DestSet.mem_toList _ d).1 hd
    have hlevel := hroom d hhas
    have hlimit : limitOf (p.layer l).mode.dests d = Config.capacity d - 1 := by rw [limitOf, hhas]; rfl
    have hstart : (p.holdSlots (p.layer l).mode.dests).leavesHeld (p.layer l).mode.dests d := ⟨rfl, by
      rw [hlimit]
      exact Nat.le_sub_one_of_lt hlevel⟩
    have hends : (p.clearedStrokes l).leavesHeld (p.layer l).mode.dests d :=
      foldl_keeps (fun i hq => endStroke_leavesHeld .cleared i hq) _ hstart
    obtain ⟨-, hkept⟩ := hends
    rw [hlimit] at hkept
    refine (hasRoom_iff (owed := DestSet.empty) rfl d).2 ?_
    rw [limitOf_empty]
    exact Nat.lt_of_le_sub_one (Nat.zero_lt_of_lt hlevel) hkept
  rw [Part.clearTold, ← (clearedStrokes_emptied p l).tick]
  exact (foldl_joinIfRoom _ _ (toList_nodup _) hjoins).trans (joinInk_toList ..)

/-- What a CLEAR that is taken does (R124 to R127). -/
theorem layerClear_taken (hs : (p.layer l).state = .opened ∨ (p.layer l).state = .frozen)
    (hroom : ∀ d, (p.layer l).mode.dests.has d = true →
      p.level d + (p.layer l).openCount + 1 ≤ Config.capacity d) : layerClear l p =
    taken (.layerCleared l (p.layer l).state (p.countEntries (Entry.isOpenOn l))
      ((p.clearedStrokes l).history.countLayer l)) (p.cleared l) := by
  have hlack : ¬ (p.lacking (p.layer l).mode.dests ((p.layer l).openCount + 1)).isEmpty = false := by
    rw [Bool.not_eq_false, DestSet.isEmpty_iff]
    refine fun d => Bool.eq_false_of_not_eq_true fun hd => ?_
    obtain ⟨hhas, hfree⟩ := (has_lacking _ _ d).1 hd
    have := hroom d hhas
    rw [Part.freeSlots] at hfree
    omega
  have htold := clearEffects_told (l := l) (p := p) fun d hd => by
    have := hroom d hd
    omega
  have hstate : ((p.clearTold l).layer l).state = (p.layer l).state :=
    (cleared_emptied p l).state fun h => allowsClear hs (.inr h)
  have hhistory : (p.clearTold l).history = (p.clearedStrokes l).history := by
    obtain ⟨o, h⟩ := clearTold_eq p l
    rw [h]
  simp only [layerClear, if_neg (allowsClear hs), if_neg hlack, htold, hstate, hhistory, length_layerStrokes,
    Part.cleared]

end

theorem pushIf_last (k : InkQueue) {joins : Bool} (h : joins = true) (r : InkRecord) (now : Tick) :
    ∃ before last, (k.pushIf joins r now).items = before ++ [last] ∧ last.record = r ∧ last.tick = now := by
  rw [h]
  exact ⟨k.items, _, rfl, rfl, rfl⟩

/-- The record that joined all of some queues stands last on each (R126). -/
theorem pushAll_last (q : Queues) {dests : DestSet} (r : InkRecord) (now : Tick) {d : Dest}
    (hd : dests.has d = true) : ∃ before last, ((q.pushAll dests r now).get d).items = before ++ [last] ∧
      last.record = r ∧ last.tick = now := by
  cases d with
  | display => exact pushIf_last q.display hd r now
  | fanout => exact pushIf_last q.fanout hd r now
  | record => exact pushIf_last q.record hd r now

/-- Settles O47: the ends by `layerStrokes_emptied` and `layerStrokes_counted`, what a CLEAR does besides by
`layerClear_taken`. -/
theorem closeNowAndClearEndTheLayersStrokes : Obligations.CloseNowAndClearEndTheLayersStrokes := by
  intro req l p rest ht
  refine ⟨openEntries_pairwise p _, fun i => mem_layerStrokes, fun hs => ?_, fun hs hn _ hroom => ?_,
    fun d hs hd hlack => ?_, fun hs => ?_, fun hs => ?_⟩
  · have hends := layerStrokes_emptied .cancelled l (p.holdReply true)
    refine ⟨_, exec_answered (c := .closeLayerNow req (byteOf l.val)) ht rfl
      ((ownLayerControl_closeNow l _).trans (layerCloseNow_taken (p := p.holdReply true) hs))
        rest, ?_, ?_, ⟨?_, ?_⟩, ?_⟩
    · refine ⟨hends.none, ?_, ?_, fun m hm => ?_, hends.others, hends.tick, hends.active, hends.staged,
        hends.staging⟩
      · rw [Part.setLayerState, Part.layer_setLayer_same]
        exact hends.openCount
      · rw [Part.setLayerState, Part.layer_setLayer_same]
        exact hends.mode
      · rw [Part.setLayerState, Part.layer_setLayer, if_neg hm]
        exact hends.layers m hm
    · rw [Part.setLayerState, Part.layer_setLayer_same]
    · rfl
    · rfl
    · exact layerStrokes_counted .cancelled l (p.holdReply true)
  · have hends := cleared_emptied (p.holdReply true) l
    have hqueues := cleared_queues (p.holdReply true) l
    refine ⟨(p.holdReply true).cleared l, exec_answered (c := .clearLayer req (byteOf l.val)) ht rfl
      ((ownLayerControl_clear l _).trans (layerClear_taken (p := p.holdReply true) hs fun d hd => hn ▸ hroom d hd))
        rest, ?_, ?_, removeLayer_list _ l, rfl, removeLayer_unread l,
      clearedStrokes_history (p := p.holdReply true), fun s hm => ?_, ?_, fun d hd => ?_, rfl, ?_⟩
    · exact ⟨hends.none, hends.openCount, hends.mode, hends.layers, hends.others, hends.tick, hends.active,
        hends.staged, hends.staging⟩
    · exact hends.state fun hd => allowsClear hs (.inr hd)
    · exact of_decide_eq_true (List.mem_filter.1 hm).2
    · rw [hqueues]
      rfl
    · rw [Part.queue, hqueues]
      exact pushAll_last _ _ _ hd
    · rw [cleared_assembler]
      exact layerStrokes_counted .cleared l ((p.holdReply true).holdSlots (p.layer l).mode.dests)
  · refine ⟨p.lacking (p.layer l).mode.dests ((p.layer l).openCount + 1), fun d' => ?_, ?_⟩
    · rw [has_lacking, Part.freeSlots, Part.level]
      exact and_congr_right fun _ => by omega
    · refine exec_answered (c := .clearLayer req (byteOf l.val)) (q := p.holdReply true) ht rfl
        ((ownLayerControl_clear l _).trans (layerClear_noRoom (p := p.holdReply true) hs (d := d) ?_)) rest
      refine (has_lacking _ _ d).2 ⟨hd, ?_⟩
      show Config.capacity d - (p.queue d).items.length < (p.layer l).openCount + 1
      omega
  · have := exec_answered (c := .closeLayerNow req (byteOf l.val)) ht rfl
      ((ownLayerControl_closeNow l _).trans (layerCloseNow_closed (p := p.holdReply true) hs)) rest
    rw [show ((p.holdReply true).layer l).state = .closed from hs] at this
    exact this
  · exact exec_answered (c := .clearLayer req (byteOf l.val)) (q := p.holdReply true) ht rfl
      ((ownLayerControl_clear l _).trans (layerClear_notAllowed (p := p.holdReply true) hs)) rest

end Sys2Proof.Machine
end

section
/-! SUPPORT. OPEN, FREEZE, THAW and CLOSE (R118 to R122, R126, R128): what each makes of its layer in each state, and
the OPENED records of an OPEN. -/

namespace Sys2Proof.Machine

/-! ### A record on several destinations (R126, R150) -/

/-- A record that finds room on all its destinations joins there, and one room egress choice follows. -/
theorem foldl_joinIfRoom_chosen {p : Part} (r : InkRecord) {dests : DestSet}
    (hroom : ∀ d, dests.has d = true → p.hasRoom d = true) (hchosen : p.RoomChosen) :
    dests.toList.foldl (joinIfRoom r) p = roomChoose (p.pushedAll dests r) := by
  rw [foldl_joinIfRoom r _ (toList_nodup dests) fun d hd => hroom d ((DestSet.mem_toList dests d).1 hd),
    joinInk_toList]
  split
  · rfl
  · next hf =>
    have hitems : (p.pushedAll dests r).queues.fanout.items = p.queues.fanout.items :=
      congrArg InkQueue.items (if_neg hf)
    exact (roomChoose_self (hchosen.congr (q := p.pushedAll dests r) rfl hitems rfl rfl)).symm

/-! ### The four actions in each state of the layer (R119 to R122) -/

theorem withLayer_byteOf (l : Fin 8) (f : Fin 8 → Part → Answer) (p : Part) :
    withLayer (byteOf l.val) f p = f l p := by
  rw [withLayer, finOf_byteOf_8]

theorem takenLayer_setLayerState (l : Fin 8) (st : LayerState) (p : Part) :
    takenLayer l (p.setLayerState l st) = taken (.layerState l st) (p.setLayerState l st) := by
  rw [takenLayer, Part.setLayerState, Part.layer_setLayer_same]

section
variable {l : Fin 8} {p : Part}

theorem layerOpen_notAllowed (hs : (p.layer l).state ≠ .closed) : layerOpen l p = refuseLayer .state l p :=
  if_pos hs

/-- An OPEN finds no room on a destination without a free slot (R119). -/
theorem layerOpen_noRoom (hs : (p.layer l).state = .closed) {d : Dest}
    (hd : (p.lacking (p.layer l).mode.dests 1).has d = true) :
    layerOpen l p = refuseRoom l (p.lacking (p.layer l).mode.dests 1) p := by
  have hlack : (p.lacking (p.layer l).mode.dests 1).isEmpty = false :=
    Bool.eq_false_of_not_eq_true fun h => Bool.noConfusion (((DestSet.isEmpty_iff _).1 h d).symm.trans hd)
  rw [layerOpen, if_neg (not_not.2 hs)]
  exact if_pos hlack

theorem sendLayerRecord_setLayerState (ev : LayerEvent) (st : LayerState)
    (hroom : ∀ d, (p.layer l).mode.dests.has d = true → p.hasRoom d = true) (hchosen : p.RoomChosen) :
    sendLayerRecord l ev (p.setLayerState l st) =
      roomChoose ((p.setLayerState l st).pushedAll (p.layer l).mode.dests (.layer l ev)) := by
  have hdests : ((p.setLayerState l st).layer l).mode.dests = (p.layer l).mode.dests := by
    rw [Part.setLayerState, Part.layer_setLayer_same]
  rw [sendLayerRecord, hdests]
  exact foldl_joinIfRoom_chosen (p := p.setLayerState l st) _ hroom hchosen

/-- With a free slot on each destination an OPEN opens the layer, and an OPENED record joins on each (R119,
R126, R128). -/
theorem layerOpen_taken (hs : (p.layer l).state = .closed) (hheld : p.queues.held = DestSet.empty)
    (hchosen : p.RoomChosen) (hroom : ∀ d, (p.layer l).mode.dests.has d = true → p.level d < Config.capacity d) :
    layerOpen l p = taken (.layerState l .opened)
      (roomChoose ((p.setLayerState l .opened).pushedAll (p.layer l).mode.dests (.layer l .opened))) := by
  have hlack : (p.lacking (p.layer l).mode.dests 1).isEmpty = true :=
    (DestSet.isEmpty_iff _).2 fun d => Bool.eq_false_of_not_eq_true fun hd => by
      obtain ⟨hhas, hfree⟩ := (has_lacking _ _ d).1 hd
      have := hroom d hhas
      rw [Part.freeSlots] at hfree
      omega
  have hjoins : ∀ d, (p.layer l).mode.dests.has d = true → p.hasRoom d = true := fun d hd =>
    (hasRoom_iff hheld d).2 (by rw [limitOf_empty]; exact hroom d hd)
  rw [layerOpen, if_neg (not_not.2 hs)]
  simp only [hlack, Bool.true_eq_false, if_false]
  rw [sendLayerRecord_setLayerState _ _ hjoins hchosen, takenLayer, Part.layer, roomChoose_layers]
  exact congrArg (fun y : Layer => taken (.layerState l y.state) _) (Part.layer_setLayer_same p l _)

theorem layerFreeze_taken (hs : (p.layer l).state = .opened) :
    layerFreeze l p = taken (.layerState l .frozen) (p.setLayerState l .frozen) :=
  (if_neg (not_not.2 hs)).trans (takenLayer_setLayerState ..)

theorem layerFreeze_notAllowed (hs : (p.layer l).state ≠ .opened) : layerFreeze l p = refuseLayer .state l p :=
  if_pos hs

theorem layerThaw_taken (hs : (p.layer l).state = .frozen) :
    layerThaw l p = taken (.layerState l .opened) (p.setLayerState l .opened) :=
  (if_neg (not_not.2 hs)).trans (takenLayer_setLayerState ..)

theorem layerThaw_notAllowed (hs : (p.layer l).state ≠ .frozen) : layerThaw l p = refuseLayer .state l p :=
  if_pos hs

/-- The state to which a CLOSE takes an OPEN or FROZEN layer (R122). -/
def Layer.closing (y : Layer) : LayerState := if y.openCount = 0 then .closed else .draining

theorem layerClose_taken (hs : (p.layer l).state = .opened ∨ (p.layer l).state = .frozen) :
    layerClose l p = taken (.layerState l (p.layer l).closing) (p.setLayerState l (p.layer l).closing) := by
  have hmoves : layerClose l p = takenLayer l (p.setLayerState l (p.layer l).closing) := by
    rcases hs with hs | hs <;> rw [layerClose, hs] <;> rfl
  rw [hmoves, takenLayer_setLayerState]

theorem layerClose_draining (hs : (p.layer l).state = .draining) :
    layerClose l p = taken (.layerState l .draining) p := by
  rw [layerClose, takenLayer, hs]

theorem layerClose_closed (hs : (p.layer l).state = .closed) : layerClose l p = refuseLayer .state l p := by
  rw [layerClose, hs]

end

/-! ### The requests (R118, R169) -/

section
variable {c : Instr} {req : Requester} {l : Fin 8} {action : Byte} {p : Part}

/-- A LAYER_CONTROL that its layer's state does not allow leaves nothing but its reply (R118). -/
theorem exec_layerRefused (ht : p.takes) (hc : c.request? = some (req, .layerControl (byteOf l.val) action))
    (ho : ownLayerControl (byteOf l.val) action (p.holdReply true) = refuseLayer .state l (p.holdReply true))
    (rest : List Instr) : exec c ⟨p, rest⟩ =
      .next ⟨answered req 0x13 .state (.layerState l (p.layer l).state) p, rest⟩ :=
  exec_answered (q := p.holdReply true) ht hc ho rest

/-- A LAYER_CONTROL that moves its layer's state changes that state alone, besides its reply (R118). -/
theorem exec_layerMoved {st : LayerState} (ht : p.takes)
    (hc : c.request? = some (req, .layerControl (byteOf l.val) action))
    (ho : ownLayerControl (byteOf l.val) action (p.holdReply true) =
      taken (.layerState l st) ((p.holdReply true).setLayerState l st))
    (rest : List Instr) : exec c ⟨p, rest⟩ =
      .next ⟨answered req 0x13 .ok (.layerState l st) (p.setLayerState l st), rest⟩ :=
  exec_taken (q := p.setLayerState l st) ht hc ho rest

end

theorem ownLayerControl_open (l : Fin 8) (p : Part) : ownLayerControl (byteOf l.val) 0 p = layerOpen l p :=
  withLayer_byteOf l layerOpen p

theorem ownLayerControl_freeze (l : Fin 8) (p : Part) : ownLayerControl (byteOf l.val) 1 p = layerFreeze l p :=
  withLayer_byteOf l layerFreeze p

theorem ownLayerControl_thaw (l : Fin 8) (p : Part) : ownLayerControl (byteOf l.val) 2 p = layerThaw l p :=
  withLayer_byteOf l layerThaw p

theorem ownLayerControl_close (l : Fin 8) (p : Part) : ownLayerControl (byteOf l.val) 3 p = layerClose l p :=
  withLayer_byteOf l layerClose p

/-- Settles O46: each action in each state of its layer, by the equations of the four actions. -/
theorem layerActionsMoveTheState : Obligations.LayerActionsMoveTheState := by
  intro req l p rest ht
  have hopen := ownLayerControl_open l (p.holdReply true)
  have hfreeze := ownLayerControl_freeze l (p.holdReply true)
  have hthaw := ownLayerControl_thaw l (p.holdReply true)
  have hclose := ownLayerControl_close l (p.holdReply true)
  refine ⟨fun hs hheld hsettled hroom => ?_, fun d hs hd hfull => ?_, fun hs => ?_, fun hs => ?_, fun hs => ?_,
    fun hs => ?_, fun hs => ?_, fun hs => ?_, fun hs => ?_, fun hs => ?_⟩
  · have htaken := layerOpen_taken (p := p.holdReply true) hs hheld (hsettled.room (inReset_of_ready ht.1)) hroom
    have hhold := roomChoose_holdReply
      ((p.setLayerState l .opened).pushedAll (p.layer l).mode.dests (.layer l .opened)) true
    exact exec_taken (c := .openLayer req (byteOf l.val)) ht rfl
      ((hopen.trans htaken).trans (congrArg (taken _) hhold)) rest
  · refine ⟨p.lacking (p.layer l).mode.dests 1, fun d' => ?_, ?_⟩
    · rw [has_lacking, Part.freeSlots, Part.level]
      exact and_congr_right fun _ => by omega
    · have hlacks : (p.lacking (p.layer l).mode.dests 1).has d = true :=
        (has_lacking _ _ d).2 ⟨hd, Nat.lt_one_iff.2 (Nat.sub_eq_zero_of_le hfull)⟩
      have hrefused := exec_answered (c := .openLayer req (byteOf l.val)) ht rfl
        (hopen.trans (layerOpen_noRoom (p := p.holdReply true) hs hlacks)) rest
      rw [show ((p.holdReply true).layer l).state = .closed from hs] at hrefused
      exact hrefused
  · exact exec_layerRefused (c := .openLayer req (byteOf l.val)) ht rfl (hopen.trans (layerOpen_notAllowed hs)) rest
  · exact exec_layerMoved (c := .freezeLayer req (byteOf l.val)) ht rfl (hfreeze.trans (layerFreeze_taken hs)) rest
  · exact exec_layerRefused (c := .freezeLayer req (byteOf l.val)) ht rfl
      (hfreeze.trans (layerFreeze_notAllowed hs)) rest
  · exact exec_layerMoved (c := .thawLayer req (byteOf l.val)) ht rfl (hthaw.trans (layerThaw_taken hs)) rest
  · exact exec_layerRefused (c := .thawLayer req (byteOf l.val)) ht rfl (hthaw.trans (layerThaw_notAllowed hs)) rest
  · exact exec_layerMoved (c := .closeLayer req (byteOf l.val)) ht rfl (hclose.trans (layerClose_taken hs)) rest
  · exact exec_answered (c := .closeLayer req (byteOf l.val)) (q := p.holdReply true) ht rfl
      (hclose.trans (layerClose_draining hs)) rest
  · exact exec_layerRefused (c := .closeLayer req (byteOf l.val)) ht rfl (hclose.trans (layerClose_closed hs)) rest

end Sys2Proof.Machine
end

section
/-! SUPPORT. The egress in order (R134, R137, R145, R146, R148 to R151, R156): the limits and the offer, which every
operation keeps one by one, and the records, notices and errors that join the queues. `Kept` does not serve here: what
leaves register and ledger may change balance, reply queue and offer. -/

namespace Sys2Proof.Machine

/-! ### The limits of queues, balance and history list (R134, R145, R156) -/

/-- The queues, the balance and the history list keep their limits: the reply queue with the slot that is held while a
request is executed, `owed` being the slots held for a CLEAR and `busy` whether a request is executed (R125, R134,
R145, R156, R168). -/
structure WithinLimits (owed : DestSet) (busy : Bool) (p : Part) : Prop where
  ink : ∀ d, p.level d ≤ Config.capacity d
  replies : p.agent.replies.length + (if busy then 1 else 0) ≤ Config.replyCapacity
  credit : p.egress.credit ≤ Config.creditMax
  history : p.history.list.length ≤ Config.historyLimit
  unread : p.history.unread ≤ p.history.list.length
  held : p.queues.held = owed
  replyHeld : p.agent.replyHeld = busy

/-- Limits kept and a standing offer: what every operation keeps of the egress until the event is settled. -/
structure EgressSound (owed : DestSet) (busy : Bool) (p : Part) : Prop where
  limits : WithinLimits owed busy p
  offer : p.OfferStands

/-- The limits and the standing offer with no slot held are the laws between two commands. -/
theorem egressSound_iff (p : Part) :
    EgressSound DestSet.empty false p ↔ p.Bounded ∧ p.OfferStands ∧ p.NoSlotHeld := by
  constructor
  · rintro ⟨⟨hink, hreplies, hcredit, hhistory, hunread, hheld, hreply⟩, hoffer⟩
    exact ⟨⟨hink, hreplies, hcredit, hhistory, hunread⟩, hoffer, hheld, hreply⟩
  · rintro ⟨⟨hink, hreplies, hcredit, hhistory, hunread⟩, hoffer, hheld, hreply⟩
    exact ⟨⟨hink, hreplies, hcredit, hhistory, hunread, hheld, hreply⟩, hoffer⟩

/-- The gate lets no more frames into the reply queue than it holds (R167). -/
theorem gateLimit_le (p : Part) : p.gateLimit ≤ Config.replyCapacity := by
  unfold Part.gateLimit
  split
  · exact Nat.sub_le _ _
  · exact le_rfl

/-- A slot not held back by a CLEAR is a free slot (R125). -/
theorem level_of_hasRoom {p : Part} {d : Dest} (h : p.hasRoom d = true) : p.level d < Config.capacity d := by
  have := of_decide_eq_true h
  omega

section
variable {owed : DestSet} {busy : Bool} {p q : Part}

/-- An operation that leaves the blocks that the limits are read of. -/
theorem WithinLimits.blocks (h : WithinLimits owed busy p) (ha : q.agent = p.agent) (hq : q.queues = p.queues)
    (hc : q.egress.credit = p.egress.credit) (hh : q.history = p.history) : WithinLimits owed busy q where
  ink d := by
    rw [Part.level, Part.queue, hq]
    exact h.ink d
  replies := by rw [ha]; exact h.replies
  credit := by rw [hc]; exact h.credit
  history := by rw [hh]; exact h.history
  unread := by rw [hh]; exact h.unread
  held := by rw [hq]; exact h.held
  replyHeld := by rw [ha]; exact h.replyHeld

/-- An offer stands on where the bridge is ready as before and neither head has gone (R151). -/
theorem Part.OfferStands.mono (h : p.OfferStands) (hr : p.agent.replies ≠ [] → q.agent.replies ≠ [])
    (hf : p.queues.fanout.items ≠ [] → q.queues.fanout.items ≠ []) (ho : q.egress.offer = p.egress.offer)
    (hb : q.egress.bridgeReady = p.egress.bridgeReady) : q.OfferStands where
  reply hq := hr (h.reply (ho ▸ hq))
  fanout hq := hf (h.fanout (ho ▸ hq))
  ready hq := hb.trans (h.ready (ho ▸ hq))

/-- The choice puts no frame under offer but a head that waits, and only to a bridge that is ready (R150). -/
theorem Part.OfferStands.roomChoose (h : p.OfferStands) : (roomChoose p).OfferStands := by
  unfold Machine.roomChoose
  split
  · next hc => exact ⟨choice_reply, choice_fanout, fun _ => hc.2⟩
  · exact h

/-- With nothing under offer there is nothing to stand. -/
theorem offerStands_of_none (ho : p.egress.offer = .none) : p.OfferStands :=
  ⟨fun h => (nomatch ho.symm.trans h), fun h => (nomatch ho.symm.trans h), fun h => absurd ho h⟩

namespace EgressSound

/-- An operation that leaves reply queue, ink queues, egress and history list. -/
theorem blocks (h : EgressSound owed busy p) (ha : q.agent = p.agent) (hq : q.queues = p.queues)
    (he : q.egress = p.egress) (hh : q.history = p.history) : EgressSound owed busy q :=
  ⟨h.limits.blocks ha hq (by rw [he]) hh,
    h.offer.mono (by rw [ha]; exact id) (by rw [hq]; exact id) (by rw [he]) (by rw [he])⟩

theorem roomChoose (h : EgressSound owed busy p) : EgressSound owed busy (roomChoose p) :=
  ⟨h.limits.blocks (roomChoose_agent p) (roomChoose_queues p) (roomChoose_credit p) (roomChoose_history p),
    h.offer.roomChoose⟩

/-! ### Replies, notices and errors (R149, R167, R171, R181) -/

/-- A frame joins the reply queue in a free slot. -/
theorem joinReply (h : EgressSound owed busy p) (f : ReplyFrame)
    (hroom : p.agent.replies.length + 1 + (if busy then 1 else 0) ≤ Config.replyCapacity) :
    EgressSound owed busy (joinReply f p) :=
  EgressSound.roomChoose ⟨{ h.limits with replies := by rw [List.length_append]; exact hroom },
    h.offer.mono (fun _ => List.append_ne_nil_of_right_ne_nil _ (List.cons_ne_nil _ _)) id rfl rfl⟩

/-- A notice joins below its limit, which spares the slot held for a reply (R171). -/
theorem notice (h : EgressSound owed busy p) (n : Notice) : EgressSound owed busy (notice n p) := by
  unfold Machine.notice
  split
  · next hlt =>
    refine h.joinReply _ ?_
    rw [Part.noticeLimit, h.limits.replyHeld] at hlt
    have hgate := gateLimit_le p
    omega
  · exact ⟨{ h.limits with }, h.offer.mono id id rfl rfl⟩

theorem raise (h : EgressSound owed busy p) (k : ErrorKind) (src : ErrorSource) :
    EgressSound owed busy (raise k src p) := by
  have hlog : EgressSound owed busy (p.logFirst k src) := by
    unfold Part.logFirst
    split
    · exact h.blocks rfl rfl rfl rfl
    · exact h
  have keep : ∀ {c : Prop} [Decidable c] {a b : Part}, EgressSound owed busy a → EgressSound owed busy b →
      EgressSound owed busy (if c then a else b) := fun {c} _ {a b} ha hb => by
    split
    · exact ha
    · exact hb
  unfold Machine.raise
  simp only
  have hlogged := keep (c := (!(look p.errors.items k.index).mask && !(look p.errors.items k.index).status) = true)
    hlog h
  exact (keep (hlogged.notice _) hlogged).blocks rfl rfl rfl rfl

end EgressSound

/-! ### Records that join the ink queues (R135 to R139) -/

/-- An ENDING state changed is a change of the stroke table alone. -/
theorem updateEnding_frame (i : Fin 48) (f : Ending → Ending) (p : Part) :
    ∃ a, p.updateEnding i f = { p with assembler := a } := by
  unfold Part.updateEnding
  split
  · exact ⟨_, rfl⟩
  · exact ⟨_, rfl⟩

theorem WithinLimits.updateEnding (h : WithinLimits owed busy p) (i : Fin 48) (f : Ending → Ending) :
    WithinLimits owed busy (p.updateEnding i f) := by
  obtain ⟨a, ha⟩ := updateEnding_frame i f p
  rw [ha]
  exact h.blocks rfl rfl rfl rfl

/-- A queue replaced by one that holds no more records than its capacity. -/
theorem WithinLimits.setQueue (h : WithinLimits owed busy p) {d : Dest} {v : InkQueue}
    (hv : v.items.length ≤ Config.capacity d) : WithinLimits owed busy (p.setQueue d v) :=
  { h with
    ink := fun e => by
      rw [Part.level, Part.queue_setQueue]
      split
      · next he => rw [he]; exact hv
      · exact h.ink e
    held := (Queues.held_set ..).trans h.held }

theorem WithinLimits.joinInk (h : WithinLimits owed busy p) {d : Dest} (hroom : p.level d < Config.capacity d)
    (r : InkRecord) (serial : Option Nat) : WithinLimits owed busy (joinInk d r serial p) := by
  have hpush : WithinLimits owed busy (p.setQueue d ((p.queue d).push r serial p.tick)) :=
    h.setQueue (by rw [InkQueue.push, List.length_append]; exact hroom)
  cases d with
  | fanout =>
    exact hpush.blocks (roomChoose_agent _) (roomChoose_queues _) (roomChoose_credit _) (roomChoose_history _)
  | display => exact hpush
  | record => exact hpush

/-- A record that joins a queue leaves no queue empty. -/
theorem Part.OfferStands.joinInk (h : p.OfferStands) (d : Dest) (r : InkRecord) (serial : Option Nat) :
    (joinInk d r serial p).OfferStands := by
  cases d with
  | fanout =>
    exact (h.mono (q := p.setQueue .fanout ((p.queue .fanout).push r serial p.tick)) id
      (fun _ => List.append_ne_nil_of_right_ne_nil _ (List.cons_ne_nil _ _)) rfl rfl).roomChoose
  | display => exact h.mono id id rfl rfl
  | record => exact h.mono id id rfl rfl

namespace EgressSound

theorem joinInk (h : EgressSound owed busy p) {d : Dest} (hroom : p.level d < Config.capacity d) (r : InkRecord)
    (serial : Option Nat) : EgressSound owed busy (joinInk d r serial p) :=
  ⟨h.limits.joinInk hroom r serial, h.offer.joinInk d r serial⟩

theorem joinIfRoom (h : EgressSound owed busy p) (r : InkRecord) (d : Dest) :
    EgressSound owed busy (joinIfRoom r p d) := by
  unfold Machine.joinIfRoom
  split
  · next hroom => exact h.joinInk (level_of_hasRoom hroom) r none
  · exact h

/-- A queue changed in settings, counters or waiting list, its records left. -/
theorem setQueue (h : EgressSound owed busy p) {d : Dest} {v : InkQueue} (hv : v.items = (p.queue d).items) :
    EgressSound owed busy (p.setQueue d v) := by
  refine ⟨h.limits.setQueue (by rw [hv]; exact h.limits.ink d), h.offer.mono id (fun hne => ?_) rfl rfl⟩
  show ((p.setQueue d v).queue .fanout).items ≠ []
  rw [Part.queue_setQueue]
  split
  · next he => rw [hv, ← he]; exact hne
  · exact hne

/-- The removal by DROP_OLDEST spares the fan-out head under offer (R137, R151). -/
theorem dropOldest (h : EgressSound owed busy p) {d : Dest} {x : QueueItem} {rest : List QueueItem}
    (he : p.takeEligible d = some (x, rest)) (seat : Fin 72) :
    EgressSound owed busy (dropOldest d seat x rest p) := by
  obtain ⟨before, after, hi, rfl, -, hb⟩ := takeEligible_some he
  refine EgressSound.raise ?_ _ _
  rw [Part.countQueue_setQueue]
  have hlimits : WithinLimits owed busy (p.setQueue d { p.queue d with
      items := before ++ after
      counters := { (p.queue d).counters with oldestRemovals := bump (p.queue d).counters.oldestRemovals } }) :=
    h.limits.setQueue (by
      have := h.limits.ink d
      rw [Part.level, hi] at this
      simp only [List.length_append, List.length_cons] at this ⊢
      omega)
  refine ⟨hlimits.blocks rfl rfl rfl rfl, h.offer.reply, fun ho => ?_, h.offer.ready⟩
  show ((p.setQueue d _).queue .fanout).items ≠ []
  rw [Part.queue_setQueue]
  split
  · next hd =>
    rw [if_pos ⟨hd.symm, ho⟩] at hb
    exact List.append_ne_nil_of_left_ne_nil hb.1 _
  · exact h.offer.fanout ho

/-- A stroke's record handed to a queue (R136, R137). -/
theorem handInk (h : EgressSound owed busy p) (d : Dest) (r : InkRecord) (serial : Nat) (seat : Fin 72) :
    EgressSound owed busy (handInk d r serial seat p).2 := by
  rcases handInk_cases d r serial seat p with ⟨hroom, hand⟩ | ⟨-, -, x, rest, he, hand⟩ | ⟨-, -, hand⟩
  · rw [hand]
    exact h.joinInk (level_of_hasRoom hroom) r _
  · rw [hand]
    refine (h.dropOldest he seat).joinInk ?_ r _
    obtain ⟨before, after, hi, rfl, -⟩ := takeEligible_some he
    have hlevel := h.limits.ink d
    rw [Part.level, hi, List.length_append, List.length_cons] at hlevel
    rw [Part.level, dropOldest_queue, if_pos rfl, InkQueue.dropped, List.length_append]
    omega
  · rw [hand]
    exact h

theorem updateEnding (h : EgressSound owed busy p) (i : Fin 48) (f : Ending → Ending) :
    EgressSound owed busy (p.updateEnding i f) := by
  obtain ⟨a, ha⟩ := updateEnding_frame i f p
  rw [ha]
  exact h.blocks rfl rfl rfl rfl

/-- A turning away is counted and raised (R138, R139). -/
theorem turned (h : EgressSound owed busy p) (d : Dest) (seat : Fin 72) (f : QueueCounters → QueueCounters) :
    EgressSound owed busy (raiseOverflow d seat (p.countQueue d f)) :=
  (h.setQueue (v := { p.queue d with counters := f (p.queue d).counters }) rfl).raise _ _

theorem handBegin (h : EgressSound owed busy p) (i : Fin 48) (c : StrokeCore) (r : InkRecord) (d : Dest) :
    EgressSound owed busy (handBegin i c r p d) := by
  have hand := h.handInk d r c.serial c.seat
  unfold Machine.handBegin
  split
  · next heq => rw [heq] at hand; exact hand
  · next p1 heq =>
    rw [heq] at hand
    have hmark : EgressSound owed busy (p1.updateEntry i fun c => { c with suppressed := c.suppressed.insert d }) :=
      hand.blocks rfl rfl rfl rfl
    exact hmark.turned d c.seat _

theorem handPoints (h : EgressSound owed busy p) (i : Fin 48) (c : StrokeCore) (order : PointOrder) (pts : List Point)
    (d : Dest) : EgressSound owed busy (handPoints i c order pts p d) := by
  have hand := h.handInk d (.points c.id (orderFor order d) pts) c.serial c.seat
  unfold Machine.handPoints
  split
  · next heq => rw [heq] at hand; exact hand
  · next p1 heq =>
    rw [heq] at hand
    have hmark : EgressSound owed busy (p1.updateEntry i StrokeCore.losePoints) := hand.blocks rfl rfl rfl rfl
    exact hmark.turned d c.seat _

theorem handEnd (h : EgressSound owed busy p) (i : Fin 48) (c : StrokeCore) (r : InkRecord) (d : Dest) :
    EgressSound owed busy (handEnd i c r p d) := by
  have hand := h.handInk d r c.serial c.seat
  unfold Machine.handEnd
  split
  · next heq => rw [heq] at hand; exact hand.updateEnding i _
  · next heq =>
    rw [heq] at hand
    have hlist : ∀ {q : Part} ws, EgressSound owed busy q →
        EgressSound owed busy (q.setQueue d { q.queue d with waiting := ws }) := fun _ hq => hq.setQueue rfl
    simp only
    exact (hlist _ (hand.updateEnding i _)).turned d c.seat _

theorem emitPoints (h : EgressSound owed busy p) (i : Fin 48) : EgressSound owed busy (emitPoints i p) :=
  emitPoints_induction h (fun _ _ _ => h.blocks rfl rfl rfl rfl) fun c order pts _ d hq => hq.handPoints i c order pts d

end EgressSound
end

end Sys2Proof.Machine
end

section
/-! SUPPORT. Strokes, samples, marks and received frames keep the egress sound (R1 to R10, R37 to R44, R93 to R105,
R145). -/

namespace Sys2Proof.Machine

section
variable {owed : DestSet} {busy : Bool} {p q : Part}

/-! ### Strokes begin, end and complete (R94, R101 to R105) -/

/-- A summary appended leaves the history list within its limit (R156, R158). -/
theorem WithinLimits.append (h : WithinLimits owed busy p) (s : Summary) :
    WithinLimits owed busy { p with history := p.history.append s } :=
  have hbounds := p.history.append_bounds s h.history h.unread
  { h with history := hbounds.1, unread := hbounds.2 }

theorem WithinLimits.completeIfDone (h : WithinLimits owed busy p) (i : Fin 48) :
    WithinLimits owed busy (completeIfDone i p) := by
  rw [completeIfDone_completed]
  cases (p.entry i).completed with
  | none => exact h.blocks rfl rfl rfl rfl
  | some s => exact (h.append s).blocks rfl rfl rfl rfl

theorem Part.OfferStands.completeIfDone (h : p.OfferStands) (i : Fin 48) : (completeIfDone i p).OfferStands := by
  rw [completeIfDone_completed]
  exact h.mono id id rfl rfl

namespace EgressSound

theorem completeIfDone (h : EgressSound owed busy p) (i : Fin 48) : EgressSound owed busy (completeIfDone i p) :=
  ⟨h.limits.completeIfDone i, h.offer.completeIfDone i⟩

theorem deliverEnd (h : EgressSound owed busy p) (i : Fin 48) (c : StrokeCore) (r : InkRecord) :
    EgressSound owed busy (deliverEnd i c r p) := by
  have hands : EgressSound owed busy (c.targets.foldl (Machine.handEnd i c r) p) :=
    foldl_keeps (fun d hq => hq.handEnd i c r d) _ h
  unfold Machine.deliverEnd
  simp only
  split
  · next c' e he =>
    split
    · rw [complete_eq he]
      exact ⟨(hands.limits.append _).blocks rfl rfl rfl rfl, hands.offer.mono id id rfl rfl⟩
    · exact hands.blocks rfl rfl rfl rfl
  · exact hands

theorem closeStroke (h : EgressSound owed busy p) (i : Fin 48) (reason : EndReason) (c : StrokeCore) (a : Assembly) :
    EgressSound owed busy (closeStroke i reason c a p) := by
  have hending : ∀ l y e, EgressSound owed busy ((p.setLayer l y).setEntry i e) := fun _ _ _ =>
    h.blocks rfl rfl rfl rfl
  have hcount : ∀ {q : Part} f, EgressSound owed busy q → EgressSound owed busy (q.countStrokes f) := fun _ hq =>
    hq.blocks rfl rfl rfl rfl
  unfold Machine.closeStroke
  simp only
  exact hcount _ ((hending _ _ _).deliverEnd i _ _)

theorem endStroke (h : EgressSound owed busy p) (reason : EndReason) (i : Fin 48) :
    EgressSound owed busy (endStroke reason p i) := by
  unfold Machine.endStroke
  split
  · next c _ _ =>
    have hseat : EgressSound owed busy (p.setSeat c.seat { p.seat c.seat with openEntry := none }) :=
      h.blocks rfl rfl rfl rfl
    have hemit := hseat.emitPoints i
    simp only
    split
    · exact hemit.closeStroke i reason _ _
    · exact hemit
  · exact h

theorem endStrokes (h : EgressSound owed busy p) (reason : EndReason) (l : List (Fin 48)) :
    EgressSound owed busy (l.foldl (Machine.endStroke reason) p) :=
  foldl_keeps (fun i hq => hq.endStroke reason i) l h

theorem placeStroke (h : EgressSound owed busy p) (i : Fin 48) (c : StrokeCore) (a : Assembly) :
    EgressSound owed busy (placeStroke i c a p) := by
  have hplaced : EgressSound owed busy (p.placed i c a) := h.blocks rfl rfl rfl rfl
  rw [placeStroke_eq]
  exact (foldl_keeps (fun d hq => hq.handBegin i c _ d) c.dests.toList hplaced).blocks rfl rfl rfl rfl

/-! ### Samples (R93 to R99) -/

theorem strokeSample (h : EgressSound owed busy p) (i : Fin 48) (s : Sample) :
    EgressSound owed busy (strokeSample i s p) := by
  unfold Machine.strokeSample
  split
  · have htaken : ∀ e, EgressSound owed busy (p.setEntry i e) := fun _ => h.blocks rfl rfl rfl rfl
    simp only
    split
    · exact (htaken _).emitPoints i
    · exact htaken _
  · exact h

theorem touchDown (h : EgressSound owed busy p) (seat : Fin 72) (s : Sample) (src : ErrorSource) :
    EgressSound owed busy (touchDown seat s src p) := by
  unfold Machine.touchDown
  split
  · unfold beginStroke
    split
    · exact h.placeStroke _ _ _
    · exact h
  · next reason _ =>
    have hrefuse : EgressSound owed busy (p.refuse seat reason) := h.blocks rfl rfl rfl rfl
    rw [refuseTouch_eq, refusalTold]
    split
    · exact hrefuse.raise _ _
    · exact hrefuse

theorem contactSample (h : EgressSound owed busy p) (seat : Fin 72) (s : Sample) (src : ErrorSource) :
    EgressSound owed busy (contactSample seat s src p) := by
  have habort : EgressSound owed busy (abortWindow seat p) := h.blocks rfl rfl rfl rfl
  unfold Machine.contactSample
  simp only
  split
  · exact habort.strokeSample _ s
  · exact habort.blocks rfl rfl rfl rfl
  · exact habort.touchDown seat s src

theorem endSeatStroke (h : EgressSound owed busy p) (seat : Fin 72) (reason : EndReason) :
    EgressSound owed busy (endSeatStroke seat reason p) := by
  unfold Machine.endSeatStroke
  split
  · exact h.endStroke reason _
  · exact h

theorem handleSample (h : EgressSound owed busy p) (seat : Fin 72) (src : ErrorSource) (s : Sample) :
    EgressSound owed busy (handleSample seat src p s) := by
  unfold Machine.handleSample
  split
  · exact h.contactSample seat s src
  · have hend := h.endSeatStroke seat .lifted
    unfold liftSample
    simp only
    split
    · exact hend.blocks rfl rfl rfl rfl
    · exact hend.blocks rfl rfl rfl rfl

theorem quietExpire (h : EgressSound owed busy p) (seat : Fin 72) : EgressSound owed busy (quietExpire seat p) := by
  have hseat : ∀ v, EgressSound owed busy (p.setSeat seat v) := fun _ => h.blocks rfl rfl rfl rfl
  exact ((hseat _).endSeatStroke seat .abandoned).blocks rfl rfl rfl rfl

/-! ### Marks and the frames of the display link (R37 to R44, R145, R147) -/

theorem flushPoints (h : EgressSound owed busy p) : EgressSound owed busy (flushPoints p) := by
  obtain ⟨out, acc, hq, hr⟩ := flushPoints_reached p
  rw [hq, hr.part]
  exact foldl_keeps (fun i hq => hq.emitPoints i) out h

theorem applyCommit (h : EgressSound owed busy p) (mark : Byte) (substitute : Bool) :
    EgressSound owed busy (applyCommit mark substitute p) := by
  have hcommitted : EgressSound owed busy p.committed := h.blocks rfl rfl rfl rfl
  have hrevoked : EgressSound owed busy p.revoked := hcommitted.endStrokes .revoked _
  have hadjust : ∀ v, EgressSound owed busy { p.revoked with seats := v } := fun _ => hrevoked.blocks rfl rfl rfl rfl
  rw [applyCommit_eq]
  exact (hadjust _).notice _

theorem markEffects (h : EgressSound owed busy p) (mark : Byte) (substitute : Bool) :
    EgressSound owed busy (markEffects mark substitute p) := by
  unfold Machine.markEffects
  split
  · have hdraw : EgressSound owed busy { p with freeDraws := p.freeDraws + 1 } := h.blocks rfl rfl rfl rfl
    simp only
    split
    · exact (hdraw.applyCommit mark substitute).flushPoints
    · exact hdraw.flushPoints.applyCommit mark substitute
  · have hstep : EgressSound owed busy (stepCountdown p) := by
      rw [stepCountdown_eq]
      exact h.blocks rfl rfl rfl rfl
    exact hstep.flushPoints

theorem substituteMark (h : EgressSound owed busy p) : EgressSound owed busy (substituteMark p) := by
  have hlose : EgressSound owed busy (loseMark p) := by
    have hlost : ∀ m, EgressSound owed busy { p with monitor := m } := fun _ => h.blocks rfl rfl rfl rfl
    unfold loseMark
    split
    · exact (hlost _).raise _ _
    · exact h
  have hmonitor : ∀ m, EgressSound owed busy { loseMark p with monitor := m } := fun _ => hlose.blocks rfl rfl rfl rfl
  exact (hmonitor _).markEffects 0 true

theorem realMark (h : EgressSound owed busy p) (number : Byte) : EgressSound owed busy (realMark number p) := by
  have hmonitor : ∀ m, EgressSound owed busy { p with monitor := m } := fun _ => h.blocks rfl rfl rfl rfl
  exact (hmonitor _).markEffects number false

/-- A balance within its maximum (R145). -/
theorem withCredit (h : EgressSound owed busy p) {n : Nat} (hn : n ≤ Config.creditMax) :
    EgressSound owed busy { p with egress := { p.egress with credit := n } } :=
  ⟨{ h.limits with credit := hn }, h.offer.mono id id rfl rfl⟩

theorem grantCredit (h : EgressSound owed busy p) (count : Byte) : EgressSound owed busy (grantCredit count p) := by
  unfold Machine.grantCredit
  simp only
  split
  · exact (h.withCredit le_rfl).raise _ _
  · next hle => exact h.withCredit (Nat.not_lt.1 hle)

theorem takeDisplayFrame (h : EgressSound owed busy p) (frame : List Byte) :
    EgressSound owed busy (takeDisplayFrame frame p) := by
  unfold Machine.takeDisplayFrame
  split
  · split
    · split
      · exact h
      · exact h.realMark _
    · exact h.grantCredit _
    · split
      · exact h
      · exact h.raise _ _
  · split
    · exact h
    · exact h.raise _ _

/-! ### The receivers (R1 to R9) -/

theorem countLink (h : EgressSound owed busy p) (port : Port) (f : LinkCounters → LinkCounters) :
    EgressSound owed busy (p.countLink port f) := by
  cases port <;> exact h.blocks rfl rfl rfl rfl

theorem checkSequence (h : EgressSound owed busy p) (seat : Fin 72) (seq : Byte) (src : ErrorSource) :
    EgressSound owed busy (checkSequence seat seq src p) := by
  have hseat : ∀ v, EgressSound owed busy (p.setSeat seat v) := fun _ => h.blocks rfl rfl rfl rfl
  have hgap : ∀ {q}, EgressSound owed busy q → EgressSound owed busy (gapStroke seat q) := fun {q} hq => by
    unfold gapStroke
    split
    · split
      · exact hq.blocks rfl rfl rfl rfl
      · exact hq
    · exact hq
  unfold Machine.checkSequence
  simp only
  split
  · exact hseat _
  · split
    · exact hseat _
    · exact hgap ((hseat _).raise _ _)

theorem takeInk (h : EgressSound owed busy p) (port : Port) (seat : Fin 72) (seq : Byte) (samples : List Sample)
    (src : ErrorSource) : EgressSound owed busy (takeInk port seat seq samples src p) := by
  have hseat : ∀ {q : Part} v, EgressSound owed busy q → EgressSound owed busy (q.setSeat seat v) := fun _ hq =>
    hq.blocks rfl rfl rfl rfl
  have hcount := h.countLink port fun c => { c with inkTaken := bump c.inkTaken }
  exact foldl_keeps (fun s hq => hq.handleSample seat src s) samples
    (hseat _ ((hseat _ hcount).checkSequence seat seq src))

theorem takeInkFrame (h : EgressSound owed busy p) (port : Port) (frame : List Byte) (seq : Byte)
    (samples : List Sample) : EgressSound owed busy (takeInkFrame port frame seq samples p) := by
  unfold Machine.takeInkFrame
  split
  · exact h.takeInk _ _ _ _ _
  · exact (h.countLink _ _).raise _ _

end EgressSound
end

end Sys2Proof.Machine
end

section
/-! SUPPORT. Departures, requests and every command keep the egress sound, and what follows an event leaves nothing
undone (R118 to R127, R140 to R151, R160 to R170, R187). -/

namespace Sys2Proof.Machine

/-- The slots held for a CLEAR are no part of the queues' records (R125). -/
theorem queue_holdSlots (p : Part) (slots : DestSet) (d : Dest) : (p.holdSlots slots).queue d = p.queue d := by
  cases d <;> rfl

/-- A record that joins a queue leaves the history list. -/
theorem joinIfRoom_history (r : InkRecord) (p : Part) (d : Dest) : (joinIfRoom r p d).history = p.history := by
  unfold joinIfRoom
  split
  · obtain ⟨o, ho⟩ := joinInk_eq d r none p
    rw [ho]
  · rfl

section
variable {owed : DestSet} {busy : Bool} {p q : Part}

/-! ### Departures (R140, R146, R148) -/

/-- A waiting END that joins a queue with a free slot leaves the queue within its capacity (R104, R140). -/
theorem WithinLimits.serveWaiting (h : WithinLimits owed busy p) {d : Dest} (hroom : p.level d < Config.capacity d) :
    WithinLimits owed busy (serveWaiting d p) := by
  unfold Machine.serveWaiting
  split
  · exact h
  · next i rest _ =>
    have hlevel : (p.setQueue d { p.queue d with waiting := rest }).level d = p.level d := by
      rw [Part.level, Part.queue_setQueue_same]
      rfl
    have hlist : WithinLimits owed busy (p.setQueue d { p.queue d with waiting := rest }) := h.setQueue hroom.le
    simp only
    split
    · exact ((hlist.joinInk (hlevel ▸ hroom) _ _).updateEnding i _).completeIfDone i
    · exact hlist

/-- The service of a waiting END leaves the other queues, and but for the fan-out queue the egress. -/
theorem serveWaiting_others (d : Dest) (p : Part) :
    (∀ x, x ≠ d → (serveWaiting d p).queue x = p.queue x) ∧
      (d ≠ .fanout → (serveWaiting d p).egress = p.egress) := by
  have hlist : ∀ v x, x ≠ d → (p.setQueue d v).queue x = p.queue x := fun v _ hx =>
    Part.queue_setQueue_other p v hx
  unfold serveWaiting
  split
  · exact ⟨fun _ _ => rfl, fun _ => rfl⟩
  · next i rest _ =>
    simp only
    split
    · next c e _ =>
      obtain ⟨a, ha⟩ := updateEnding_frame i (fun e => { e with
        waitsOn := e.waitsOn.erase d, delivered := e.delivered.insert d })
        (joinInk d e.record (some c.serial) (p.setQueue d { p.queue d with waiting := rest }))
      rw [ha, completeIfDone_completed]
      refine ⟨fun x hx => ?_, fun hd => ?_⟩
      · exact (joinInk_queue ..).trans ((if_neg hx).trans (hlist _ x hx))
      · show (joinInk d e.record (some c.serial) (p.setQueue d { p.queue d with waiting := rest })).egress = p.egress
        rw [joinInk_other hd]
        rfl
    · exact ⟨fun x hx => hlist _ x hx, fun _ => rfl⟩

theorem WithinLimits.send (h : WithinLimits owed busy p) (link : Link) (frame : List Byte) :
    WithinLimits owed busy (send link frame p) := h.blocks rfl rfl rfl rfl

/-- A departure frees the slot that a waiting END takes. -/
theorem WithinLimits.depart (h : WithinLimits owed busy p) (d : Dest) (link : Link) (frame : QueueItem → List Byte) :
    WithinLimits owed busy (depart d link frame p) := by
  unfold Machine.depart
  split
  · exact h
  · next head rest hi =>
    have hlevel : rest.length < Config.capacity d := by
      have := h.ink d
      rwa [Part.level, hi, List.length_cons] at this
    simp only [Part.countQueue_setQueue]
    refine WithinLimits.serveWaiting (WithinLimits.send (WithinLimits.setQueue h ?_) _ _) ?_
    · exact hlevel.le
    show ((p.setQueue d _).queue d).items.length < _
    rw [Part.queue_setQueue_same]
    exact hlevel

/-- A departure leaves the other queues and the reply queue, and but for the fan-out queue the egress. -/
theorem depart_others (d : Dest) (link : Link) (frame : QueueItem → List Byte) (p : Part) :
    (∀ x, x ≠ d → (depart d link frame p).queue x = p.queue x) ∧
      (d ≠ .fanout → (depart d link frame p).egress = p.egress) ∧ (depart d link frame p).agent = p.agent := by
  refine ⟨?_, ?_, (depart_settleStep d link frame p).agent⟩
  all_goals
    unfold depart
    split
  · exact fun _ _ => rfl
  · next head rest _ =>
    intro x hx
    simp only [Part.countQueue_setQueue]
    exact ((serveWaiting_others d _).1 x hx).trans (Part.queue_setQueue_other p _ hx)
  · exact fun _ => rfl
  · next head rest _ => exact fun hd => (serveWaiting_others d _).2 hd

/-- A departure on the display or the record link leaves what is under offer on the room link. -/
theorem EgressSound.depart (h : EgressSound owed busy p) {d : Dest} (hd : d ≠ .fanout) (link : Link)
    (frame : QueueItem → List Byte) : EgressSound owed busy (depart d link frame p) := by
  obtain ⟨hqueues, hegress, hagent⟩ := depart_others d link frame p
  have hfanout : (Machine.depart d link frame p).queues.fanout = p.queues.fanout := hqueues .fanout hd.symm
  exact ⟨h.limits.depart d link frame, h.offer.mono (by rw [hagent]; exact id) (by rw [hfanout]; exact id)
    (by rw [hegress hd]) (by rw [hegress hd])⟩

/-! ### What follows an event (R146, R148, R150) -/

/-- After its turn the display egress has nothing more to send. -/
theorem displayPump_done (p : Part) (hi : (displayPump p).queues.display.items ≠ [])
    (hc : 1 ≤ (displayPump p).egress.credit) : (displayPump p).egress.displayBusy = true := by
  revert hi hc
  unfold displayPump
  split
  · intro _ _
    rw [(depart_others .display .display recordFrame _).2.1 nofun]
  · next hno =>
    intro hi hc
    by_contra hb
    exact hno ⟨hi, hc, Bool.eq_false_of_not_eq_true hb⟩

/-- After its turn the record egress has nothing more to send. -/
theorem recordPump_done (p : Part) (hi : (recordPump p).queues.record.items ≠ [])
    (hr : (recordPump p).egress.recorderReady = true) : (recordPump p).egress.recordBusy = true := by
  revert hi hr
  unfold recordPump
  split
  · intro _ _
    rw [(depart_others .record .record recordFrame _).2.1 nofun]
  · next hno =>
    intro hi hr
    by_contra hb
    exact hno ⟨hi, hr, Bool.eq_false_of_not_eq_true hb⟩

/-- The turn of the record egress leaves the display egress. -/
theorem recordPump_display (p : Part) : (recordPump p).queues.display = p.queues.display ∧
    (recordPump p).egress.credit = p.egress.credit ∧ (recordPump p).egress.displayBusy = p.egress.displayBusy := by
  unfold recordPump
  split
  · obtain ⟨hqueues, hegress, -⟩ := depart_others .record .record recordFrame
      { p with egress := { p.egress with recordBusy := true } }
    refine ⟨hqueues .display nofun, ?_, ?_⟩
    · rw [hegress nofun]
    · rw [hegress nofun]
  · exact ⟨rfl, rfl, rfl⟩

/-- What follows an event leaves nothing undone that the egress may do. -/
theorem settle_settled (p : Part) : (settle p).Settled := by
  by_cases hin : p.inReset = true
  · have hheld : (settle p).inReset = true := by
      rw [settle, if_pos hin]
      exact hin
    exact ⟨fun h => absurd (hheld.symm.trans h) nofun, fun h => absurd (hheld.symm.trans h) nofun,
      fun h => absurd (hheld.symm.trans h) nofun⟩
  · rw [settle, if_neg hin]
    obtain ⟨hqueue, hcredit, hbusy⟩ := recordPump_display (displayPump p)
    refine ⟨fun _ => ?_, fun _ => ?_, fun _ => roomChoose_roomChosen _⟩
    · rw [roomChoose_queues, roomChoose_credit, roomChoose_displayBusy, hqueue, hcredit, hbusy]
      exact displayPump_done p
    · rw [roomChoose_queues, roomChoose_recorderReady, roomChoose_recordBusy]
      exact recordPump_done _

namespace EgressSound

theorem settle (h : EgressSound owed busy p) : EgressSound owed busy (settle p) := by
  have display : EgressSound owed busy (displayPump p) := by
    unfold displayPump
    split
    · have hspent : EgressSound owed busy
          { p with egress := { p.egress with credit := p.egress.credit - 1, displayBusy := true } } :=
        ⟨{ h.limits with credit := (Nat.sub_le _ _).trans h.limits.credit }, h.offer.mono id id rfl rfl⟩
      exact hspent.depart (d := .display) nofun _ _
    · exact h
  have record : EgressSound owed busy (recordPump (displayPump p)) := by
    unfold recordPump
    split
    · have hbusy : EgressSound owed busy
          { displayPump p with egress := { (displayPump p).egress with recordBusy := true } } :=
        ⟨{ display.limits with }, display.offer.mono id id rfl rfl⟩
      exact hbusy.depart (d := .record) nofun _ _
    · exact display
  unfold Machine.settle
  split
  · exact h
  · exact record.roomChoose

/-- The frame that the bridge accepts leaves its queue, the offer with it, and the choice is made anew (R151). -/
theorem bridgeAccept (h : EgressSound owed busy p) : EgressSound owed busy (bridgeAccept p) := by
  have chosen : ∀ {q}, WithinLimits owed busy q → EgressSound owed busy (Machine.roomChoose (q.setOffer .none)) :=
    fun hq => EgressSound.roomChoose ⟨hq.blocks rfl rfl rfl rfl, offerStands_of_none rfl⟩
  unfold Machine.bridgeAccept
  split
  · exact h
  · refine chosen ?_
    unfold acceptReply
    split
    · exact h.limits
    · next head rest hr =>
      have hreplies := h.limits.replies
      rw [hr, List.length_cons] at hreplies
      exact { h.limits with replies := (Nat.add_le_add_right (Nat.le_succ _) _).trans hreplies }
  · exact chosen (h.limits.depart _ _ _)

/-! ### Requests (section 10.3) -/

/-- The history list changed within its limit. -/
theorem withHistory (h : EgressSound owed busy p) {v : History} (hl : v.list.length ≤ p.history.list.length)
    (hu : v.unread ≤ v.list.length) : EgressSound owed busy { p with history := v } :=
  ⟨{ h.limits with history := hl.trans h.limits.history, unread := hu }, h.offer.mono id id rfl rfl⟩

theorem sendLayerRecord (h : EgressSound owed busy p) (l : Fin 8) (ev : LayerEvent) :
    EgressSound owed busy (sendLayerRecord l ev p) := foldl_keeps (fun d hq => hq.joinIfRoom _ d) _ h

theorem holdSlots (h : EgressSound owed busy p) (slots : DestSet) : EgressSound slots busy (p.holdSlots slots) :=
  ⟨{ h.limits with
      ink := fun d => by rw [Part.level, queue_holdSlots]; exact h.limits.ink d
      held := rfl },
    h.offer.mono id id rfl rfl⟩

/-- A CLEAR holds slots while its strokes end, and then holds none (R125 to R127). -/
theorem layerClear (h : EgressSound DestSet.empty busy p) (l : Fin 8) :
    EgressSound DestSet.empty busy (layerClear l p).2 := by
  unfold Machine.layerClear
  split
  · exact h
  · simp only
    split
    · exact h
    · have hclear : EgressSound DestSet.empty busy (clearEffects l (p.layerStrokes l) p) :=
        (((h.holdSlots _).endStrokes .cleared _).holdSlots DestSet.empty).sendLayerRecord l .cleared
      refine hclear.withHistory (List.length_filter_le _ _) ?_
      rw [removeLayer_unread l hclear.limits.unread, removeLayer_list, ← List.countP_eq_length_filter]
      exact (List.drop_sublist _ _).countP_le

theorem layerCloseNow (h : EgressSound owed busy p) (l : Fin 8) : EgressSound owed busy (layerCloseNow l p).2 := by
  unfold Machine.layerCloseNow
  split
  · exact h
  · exact (h.endStrokes .cancelled _).blocks rfl rfl rfl rfl

/-- A flush takes the fan-out record under offer with the others, and the offer with it (R142). -/
theorem ownFlushQueue (h : EgressSound owed busy p) (queue : Byte) :
    EgressSound owed busy (ownFlushQueue queue p).2 := by
  unfold Machine.ownFlushQueue
  split
  · exact h
  · next d _ =>
    have hflushed : EgressSound owed busy (p.flushed d) := by
      rw [flushed_eq]
      refine ⟨(h.limits.setQueue (v := (p.queue d).emptied) (Nat.zero_le _)).blocks rfl rfl rfl rfl, ?_⟩
      by_cases hd : d = .fanout ∧ p.egress.offer = .fanout
      · exact offerStands_of_none (if_pos hd)
      · have hoffer : (if d = .fanout ∧ p.egress.offer = .fanout then Offer.none else p.egress.offer) =
            p.egress.offer := if_neg hd
        refine ⟨fun ho => h.offer.reply (hoffer.symm.trans ho), fun ho => ?_,
          fun ho => h.offer.ready fun hn => ho (hoffer.trans hn)⟩
        have hfanout := hoffer.symm.trans ho
        show ((p.queues.set d _).get .fanout).items ≠ []
        rw [Queues.get_set, if_neg fun he => hd ⟨he.symm, hfanout⟩]
        exact h.offer.fanout hfanout
    exact (foldl_keeps (fun i hq => hq.completeIfDone i) _ hflushed).roomChoose

/-- The six actions of LAYER_CONTROL and its refusals (R118 to R124). -/
theorem ownLayerControl (h : EgressSound DestSet.empty busy p) (layer action : Byte) :
    EgressSound DestSet.empty busy (ownLayerControl layer action p).2 := by
  have onLayer : ∀ f : Fin 8 → Part → Answer, (∀ l, EgressSound DestSet.empty busy (f l p).2) →
      EgressSound DestSet.empty busy (withLayer layer f p).2 := fun f hf => by
    unfold withLayer
    split
    · exact hf _
    · exact h.blocks rfl rfl rfl rfl
  have restated : ∀ l st, EgressSound DestSet.empty busy (p.setLayerState l st) := fun _ _ => h.blocks rfl rfl rfl rfl
  unfold Machine.ownLayerControl
  split
  · refine onLayer _ fun l => ?_
    unfold layerOpen
    split
    · exact h
    · simp only
      split
      · exact h
      · exact (restated l .opened).sendLayerRecord l .opened
  split
  · refine onLayer _ fun l => ?_
    unfold layerFreeze
    split
    · exact h
    · exact restated l .frozen
  split
  · refine onLayer _ fun l => ?_
    unfold layerThaw
    split
    · exact h
    · exact restated l .opened
  split
  · refine onLayer _ fun l => ?_
    unfold layerClose
    split
    · exact h
    · exact h
    · exact restated l _
  split
  · exact onLayer _ fun l => h.layerCloseNow l
  split
  · exact onLayer _ fun l => h.layerClear l
  · exact onLayer _ fun _ => h

/-- The RETRACT records join where there is room, and the summary stays in its place (R162). -/
theorem ownUndo (h : EgressSound owed busy p) (seat : Byte) : EgressSound owed busy (ownUndo seat p).2 := by
  unfold Machine.ownUndo undoSeat
  split
  · split
    · exact h
    · next m list hm =>
      simp only
      split
      · exact h
      · obtain ⟨hsound, hhistory⟩ := foldl_keeps (I := fun q => EgressSound owed busy q ∧ q.history = p.history)
          (fun d hq => ⟨hq.1.joinIfRoom (.retract m.id m.layer) d, (joinIfRoom_history _ _ d).trans hq.2⟩)
          m.delivered.toList ⟨h, rfl⟩
        have hlength : list.length = p.history.list.length := by
          simpa only [List.length_map] using congrArg List.length (map_id_retractNewest hm)
        refine hsound.withHistory ?_ ?_
        · rw [hhistory]
          exact hlength.le
        · rw [hhistory]
          exact h.limits.unread.trans hlength.ge
  · exact h

/-- A reset leaves the egress sound, and no slot held (R13, R134, R145, R170, R187). -/
theorem of_reset (hq : q.queues = resetQueues) (ha : q.agent = resetPart.agent) (hh : q.history = resetPart.history)
    (hc : q.egress.credit = 0) (ho : q.egress.offer = .none) : EgressSound DestSet.empty false q := by
  obtain ⟨hbounded, -, hoffer, hheld, -⟩ := resetStateIsSafe
  exact ⟨((egressSound_iff _).2 ⟨hbounded, hoffer, hheld⟩).limits.blocks ha hq hc hh, offerStands_of_none ho⟩

/-- The counters of the queues cleared (R144). -/
theorem clearQueueCounters (h : EgressSound owed busy p) : EgressSound owed busy p.clearQueueCounters :=
  ⟨{ h.limits with ink := fun d => by cases d with
      | display => exact h.limits.ink .display
      | fanout => exact h.limits.ink .fanout
      | record => exact h.limits.ink .record }, h.offer.mono id id rfl rfl⟩

/-- The owner of a request but RESET_PART keeps the egress sound. -/
theorem ownerOf (h : EgressSound DestSet.empty busy p) {r : Request} (hr : r ≠ .resetPart) :
    EgressSound DestSet.empty busy (ownerOf r p).2 := by
  cases r with
  | resetPart => exact absurd rfl hr
  | layerControl layer action => exact h.ownLayerControl layer action
  | flushQueue queue => exact h.ownFlushQueue queue
  | undo seat => exact h.ownUndo seat
  | setRoomPriority mode =>
    simp only [Machine.ownerOf, ownSetRoomPriority]
    split
    · exact h
    · exact EgressSound.roomChoose ⟨{ h.limits with }, h.offer.mono id id rfl rfl⟩
  | setQueue queue watermark policy =>
    simp only [Machine.ownerOf, ownSetQueue]
    split
    · exact h
    · exact h.setQueue rfl
  | readQueues clear =>
    simp only [Machine.ownerOf, ownReadQueues]
    split
    · exact h.clearQueueCounters
    · exact h
    · exact h
  | readCounters clear first count =>
    simp only [Machine.ownerOf, ownReadCounters]
    split
    · exact ⟨{ h.limits with }, h.offer.mono id id rfl rfl⟩
    · exact h
    · exact h
  | readHistory count =>
    simp only [Machine.ownerOf, ownReadHistory]
    split
    · exact h.withHistory le_rfl ((Nat.sub_le _ _).trans h.limits.unread)
    · exact h
  | applyBaseline sets =>
    have withSets : ∀ v, EgressSound DestSet.empty busy
        { p with conditioning := { p.conditioning with sets := v } } := fun _ => h.blocks rfl rfl rfl rfl
    simp only [Machine.ownerOf, ownApplyBaseline]
    split
    · exact h
    · split
      · exact h
      · exact withSets _
  | _ =>
    simp only [Machine.ownerOf, ownReadLayers, ownReadErrors, ownCancelCommit, ownWriteIdentity, ownWriteRule,
      ownSetDefaultAction, ownSelectPage, ownCommit, ownWriteCalibration, ownWriteWidthTable, ownSetCanvas,
      ownDiscardStaged, ownClearErrors, ownSaveCalibration, ownRestoreFactory, ownReadIdentity, ownReadRule,
      ownReadMonitor, ownSetTiming, ownReadCalibration, ownReadWidthTable, ownReadStrokes, ownSetErrorMask,
      ownSetErrorSeverity, ownSetLayerMode]
    repeat' split
    all_goals exact h.blocks rfl rfl rfl rfl

/-! ### The gate and the reply (R167, R168) -/

theorem holdReply (h : EgressSound owed busy p) {b : Bool}
    (hroom : p.agent.replies.length + (if b then 1 else 0) ≤ Config.replyCapacity) :
    EgressSound owed b (p.holdReply b) :=
  ⟨{ h.limits with replies := hroom, replyHeld := rfl }, h.offer.mono id id rfl rfl⟩

/-- The reply joins in the slot that was held for it; without a reply the slot is free again. -/
theorem finish (head : RequestHead) {a : Answer} (h : EgressSound DestSet.empty true a.2) :
    EgressSound DestSet.empty false (finish head a) := by
  have hslot : a.2.agent.replies.length + 1 ≤ Config.replyCapacity := h.limits.replies
  have hfree : EgressSound DestSet.empty false (a.2.holdReply false) := h.holdReply ((Nat.le_succ _).trans hslot)
  unfold Machine.finish
  split
  · exact hfree.joinReply _ hslot
  · exact hfree

theorem finish_ownerOf (h : EgressSound DestSet.empty true p) (head : RequestHead) (r : Request) :
    EgressSound DestSet.empty false (Machine.finish head (Machine.ownerOf r p)) := by
  by_cases hr : r = .resetPart
  · have hreset : EgressSound DestSet.empty false (softReset p) := by
      have hblocks : ∀ m, EgressSound DestSet.empty false { resetBlocks .ready p with monitor := m } := fun _ =>
        of_reset rfl rfl rfl rfl rfl
      exact (hblocks _).notice _
    rw [hr]
    exact hreset.holdReply hreset.limits.replies
  · exact EgressSound.finish head (h.ownerOf hr)

/-- A request is turned away at the gate, answered NOT_READY, or executed with a slot held for its reply. -/
theorem takeRequest (h : EgressSound DestSet.empty false p) (head : RequestHead) {owner : Part → Answer}
    (ho : ∀ {q}, EgressSound DestSet.empty true q →
      EgressSound DestSet.empty false (Machine.finish head (owner q))) :
    EgressSound DestSet.empty false (takeRequest head owner p) := by
  unfold Machine.takeRequest
  split
  · exact h.raise _ _
  · next hgate =>
    have hroom : p.agent.replies.length + 1 ≤ Config.replyCapacity := (Nat.not_le.1 hgate).trans_le (gateLimit_le p)
    split
    · exact h.joinReply _ hroom
    · exact ho (h.holdReply hroom)

theorem finish_answerBody (h : EgressSound DestSet.empty true p) (head : RequestHead) (kind : Byte) (body : List Byte)
    (agrees : Bool) : EgressSound DestSet.empty false (Machine.finish head (answerBody kind body agrees p)) := by
  have hrefuse : ∀ status, EgressSound DestSet.empty false (Machine.finish head (refuse status p)) := fun _ =>
    EgressSound.finish head h
  unfold answerBody
  split
  · exact hrefuse _
  · split
    · exact hrefuse _
    · split
      · exact hrefuse _
      · exact h.finish_ownerOf head _

/-! ### Every command -/

theorem receive (h : EgressSound DestSet.empty false p) (port : Port) (frame : List Byte) :
    EgressSound DestSet.empty false (receive port frame p) := by
  unfold Machine.receive
  split
  · split
    · exact h
    · exact (h.countLink _ _).raise _ _
  · split
    · split
      · exact h
      · exact (h.countLink _ _).raise _ _
    · split
      · exact h.takeRequest _ fun hq => hq.finish_answerBody _ _ _ _
      · unfold misplaced
        split
        · exact h
        · exact h.raise _ _
    · split
      · exact h
      · exact h.takeInkFrame _ _ _ _

theorem saveComplete (h : EgressSound owed busy p) (success : Bool) :
    EgressSound owed busy (saveComplete success p) := by
  have hdone : ∀ store, EgressSound owed busy { p with save := none, store := store } := fun _ =>
    h.blocks rfl rfl rfl rfl
  unfold Machine.saveComplete
  split
  · exact h
  · simp only
    split
    · exact (hdone _).notice _
    · exact ((hdone p.store).notice _).raise _ _

theorem loadComplete (h : EgressSound owed busy p) : EgressSound owed busy (loadComplete p) := by
  have hloaded : ∀ img, EgressSound owed busy (p.loaded img) := fun _ => h.blocks rfl rfl rfl rfl
  unfold Machine.loadComplete
  split
  · unfold finishLoad
    simp only
    split
    · exact (hloaded _).notice _
    · exact ((hloaded _).notice _).raise _ _
  · exact h

theorem setBridgeReady (h : EgressSound owed busy p) (ready : Bool) :
    EgressSound owed busy (setBridgeReady ready p) := by
  cases ready with
  | false => exact ⟨{ h.limits with }, offerStands_of_none rfl⟩
  | true => exact ⟨{ h.limits with }, h.offer.reply, h.offer.fanout, fun _ => rfl⟩

theorem resetEnds (h : EgressSound DestSet.empty false p) : EgressSound DestSet.empty false (resetEnds p) := by
  unfold Machine.resetEnds
  split
  · exact of_reset rfl rfl rfl rfl rfl
  · exact h

end EgressSound
end

/-- The egress is in order between two commands: sound, no slot held, and nothing left undone. -/
def Part.EgressInOrder (p : Part) : Prop := EgressSound DestSet.empty false p ∧ p.Settled

theorem EgressSound.inOrder {p : Part} (h : EgressSound DestSet.empty false p) : (Machine.settle p).EgressInOrder :=
  ⟨h.settle, settle_settled p⟩

/-- An event that keeps the egress sound leaves it in order. -/
theorem event_inOrder {f : Part → Part} {p q : Part} {rest : List Instr} (h : p.EgressInOrder)
    (hf : EgressSound DestSet.empty false (f p)) (he : event f ⟨p, rest⟩ = .next ⟨q, rest⟩) :
    q.EgressInOrder := by
  cases hr : p.inReset
  · rw [event_next rest hr] at he
    cases he
    exact hf.inOrder
  · rw [event_held rest hr] at he
    cases he
    exact h

/-- A part held in a reset has nothing to settle (R187). -/
theorem resetBlocks_inOrder (cause : HardCause) (e : Errors) (p : Part) :
    ({ resetBlocks (.inReset cause) p with errors := e } : Part).EgressInOrder :=
  ⟨.of_reset rfl rfl rfl rfl rfl, nofun, nofun, nofun⟩

theorem exec_inOrder {c : Instr} {p q : Part} {rest : List Instr} (h : p.EgressInOrder)
    (he : exec c ⟨p, rest⟩ = .next ⟨q, rest⟩) : q.EgressInOrder := by
  have hs := h.1
  cases hc : c.request? with
  | some x =>
    obtain ⟨req, r⟩ := x
    rw [exec_request hc] at he
    exact event_inOrder h (hs.takeRequest _ fun hq => hq.finish_ownerOf _ r) he
  | none =>
    cases c with
    | powerOnReset => cases he; exact resetBlocks_inOrder _ _ p
    | resetnLow =>
      cases he
      unfold pinLow
      split
      · exact h
      · exact resetBlocks_inOrder _ _ p
    | resetEnd => cases he; exact hs.resetEnds.inOrder
    | loadComplete => exact event_inOrder h hs.loadComplete he
    | boardLinkFrame frame => exact event_inOrder h (hs.receive .board frame) he
    | roomLinkFrame frame => exact event_inOrder h (hs.receive .room frame) he
    | quietExpiry seat =>
      refine event_inOrder h ?_ he
      split
      · exact hs.quietExpire seat
      · exact hs
    | frameMark number code => exact event_inOrder h (hs.takeDisplayFrame _) he
    | substituteMark =>
      refine event_inOrder h ?_ he
      split
      · exact hs.substituteMark
      · exact hs
    | creditGrant count code => exact event_inOrder h (hs.takeDisplayFrame _) he
    | displayFrameDiscard frame => exact event_inOrder h (hs.takeDisplayFrame _) he
    | displayTransmitEnd =>
      exact event_inOrder (f := fun p => { p with egress := { p.egress with displayBusy := false } }) h
        ⟨{ hs.limits with }, hs.offer.mono id id rfl rfl⟩ he
    | recordReadyChange asserted =>
      cases he
      exact EgressSound.inOrder ⟨{ hs.limits with }, hs.offer.mono id id rfl rfl⟩
    | recordTransmitEnd =>
      exact event_inOrder (f := fun p => { p with egress := { p.egress with recordBusy := false } }) h
        ⟨{ hs.limits with }, hs.offer.mono id id rfl rfl⟩ he
    | bridgeReadyChange ready => cases he; exact (hs.setBridgeReady ready).inOrder
    | bridgeAccept => exact event_inOrder h hs.bridgeAccept he
    | saveComplete success => exact event_inOrder h (hs.saveComplete success) he
    | unknownRequest req kind body =>
      exact event_inOrder h (hs.takeRequest _ fun hq => hq.finish_answerBody _ _ _ _) he
    | _ => cases hc

/-- Settles O53: what every operation keeps of the egress (`EgressSound`) and what follows every event
(`settle_settled`) make up the law, and every command keeps it (`exec_inOrder`). -/
theorem everyCommandKeepsTheEgressInOrder : Obligations.EveryCommandKeepsTheEgressInOrder := by
  intro c p q rest hbounded hsettled hoffer hheld he
  obtain ⟨hsound, hsettled'⟩ := exec_inOrder ⟨(egressSound_iff p).2 ⟨hbounded, hoffer, hheld⟩, hsettled⟩ he
  obtain ⟨hbounded', hoffer', hheld'⟩ := (egressSound_iff q).1 hsound
  exact ⟨hbounded', hsettled', hoffer', hheld'⟩

end Sys2Proof.Machine
end

section
/-! SUPPORT. The display and the record egress with no END waiting (R140, R145, R146, R148), and a frame that joins the
reply queue of a settled part (R149, R150, R171). -/

namespace Sys2Proof.Machine

/-! ### What follows an event at the two links (R146, R148) -/

/-- A link on which the head may not leave sends nothing. -/
theorem displayPump_idles {p : Part} (h : p.queues.display.items ≠ [] → 1 ≤ p.egress.credit →
    p.egress.displayBusy = true) : displayPump p = p :=
  if_neg fun ⟨hi, hc, hb⟩ => Bool.false_ne_true (hb.symm.trans (h hi hc))

theorem recordPump_idles {p : Part} (h : p.queues.record.items ≠ [] → p.egress.recorderReady = true →
    p.egress.recordBusy = true) : recordPump p = p :=
  if_neg fun ⟨hi, hr, hb⟩ => Bool.false_ne_true (hb.symm.trans (h hi hr))

section
variable {p : Part} {head : QueueItem} {tail : List QueueItem} (hin : p.inReset = false) (hroom : p.RoomChosen)
include hin hroom

/-- The display egress sends its head, and nothing else is left to do. -/
theorem settle_displaySent (hi : p.queues.display.items = head :: tail) (hc : 1 ≤ p.egress.credit)
    (hb : p.egress.displayBusy = false) (hw : p.queues.display.waiting = [])
    (hrecord : p.queues.record.items ≠ [] → p.egress.recorderReady = true → p.egress.recordBusy = true) :
    settle p = displaySent head tail p := by
  have hidle : recordPump (displaySent head tail p) = displaySent head tail p := recordPump_idles hrecord
  have hchosen : roomChoose (displaySent head tail p) = displaySent head tail p := roomChoose_self hroom
  rw [settle, if_neg (by rw [hin]; exact Bool.false_ne_true), displayPump_sends hi hc hb hw, hidle, hchosen]

/-- The record egress sends its head, and nothing else is left to do. -/
theorem settle_recordSent (hi : p.queues.record.items = head :: tail) (hr : p.egress.recorderReady = true)
    (hb : p.egress.recordBusy = false) (hw : p.queues.record.waiting = [])
    (hdisplay : p.queues.display.items ≠ [] → 1 ≤ p.egress.credit → p.egress.displayBusy = true) :
    settle p = recordSent head tail p := by
  have hchosen : roomChoose (recordSent head tail p) = recordSent head tail p := roomChoose_self hroom
  rw [settle, if_neg (by rw [hin]; exact Bool.false_ne_true), displayPump_idles hdisplay,
    recordPump_sends hi hr hb hw, hchosen]

end

/-! ### Grants (R145) -/

/-- All that a grant does beside the error of an overrun: the balance advances, at most to 255, and the choice at the
room egress stays made. -/
theorem grantCredit_frame (count : Byte) (p : Part) : ∃ a o e, grantCredit count p = { p with
    agent := a
    egress := { p.egress with credit := min 255 (p.egress.credit + count.toNat), offer := o }
    errors := e } ∧ (p.RoomChosen → (grantCredit count p).RoomChosen) := by
  unfold grantCredit
  simp only
  split
  · next hover =>
    obtain ⟨a, o, e, h, -⟩ := raise_frame .creditOverrun { noSource with port := some .display }
      { p with egress := { p.egress with credit := Config.creditMax } }
    refine ⟨a, o, e, ?_, fun hroom => (KeepsOffer.raise _ _ _).chosen (hroom.congr rfl rfl rfl rfl)⟩
    have hmin : min 255 (p.egress.credit + count.toNat) = 255 := min_eq_left (Nat.le_of_lt hover)
    rw [h, hmin]
    rfl
  · next hle =>
    refine ⟨p.agent, p.egress.offer, p.errors, ?_, fun hroom => hroom.congr rfl rfl rfl rfl⟩
    have hmin : min 255 (p.egress.credit + count.toNat) = p.egress.credit + count.toNat :=
      min_eq_right (Nat.not_lt.1 hle)
    rw [hmin]

/-- A grant frame is taken in READY and in LOADING alike. -/
theorem exec_creditGrant_taken {p : Part} (hin : p.inReset = false) (count : Byte) (rest : List Instr) :
    exec (.creditGrant count (crc [0x22, count])) ⟨p, rest⟩ = .next ⟨settle (grantCredit count p), rest⟩ := by
  have hcode : codeMatches ([0x22, count] ++ be16 (crc [0x22, count])) = true := codeMatches_append_be16.2 rfl
  show event (takeDisplayFrame ([0x22, count] ++ be16 (crc [0x22, count]))) ⟨p, rest⟩ = _
  rw [event_next rest hin, takeDisplayFrame, if_pos hcode]
  rfl

section
variable {p : Part} (hin : p.inReset = false) (h : p.Settled) (count : Byte) (rest : List Instr)
include hin h

/-- A grant leaves the record egress settled and the choice made, outside a reset. -/
theorem grantCredit_settles : (grantCredit count p).inReset = false ∧ (grantCredit count p).RoomChosen ∧
    ((grantCredit count p).queues.record.items ≠ [] → (grantCredit count p).egress.recorderReady = true →
      (grantCredit count p).egress.recordBusy = true) := by
  obtain ⟨a, o, e, hframe, hchosen⟩ := grantCredit_frame count p
  refine ⟨?_, hchosen (h.room hin), ?_⟩
  · rw [hframe]
    exact hin
  · rw [hframe]
    exact h.record hin

/-- A grant that lets no head leave changes the balance alone. -/
theorem exec_creditGrant_idle (hidle : p.queues.display.items = [] ∨ p.egress.credit + count.toNat = 0 ∨
    p.egress.displayBusy = true) :
    exec (.creditGrant count (crc [0x22, count])) ⟨p, rest⟩ = .next ⟨grantCredit count p, rest⟩ := by
  obtain ⟨-, hroom, hrecord⟩ := grantCredit_settles hin h count
  have hsettled : (grantCredit count p).Settled := by
    refine ⟨fun _ => ?_, fun _ => hrecord, fun _ => hroom⟩
    obtain ⟨a, o, e, hframe, -⟩ := grantCredit_frame count p
    rw [hframe]
    intro hi hc
    rcases hidle with hempty | hzero | hbusy
    · exact absurd hempty hi
    · have hmin : 1 ≤ min 255 (p.egress.credit + count.toNat) := hc
      omega
    · exact hbusy
  rw [exec_creditGrant_taken hin, settle_self hsettled]

/-- A grant that finds a record and an idle link lets the head leave. -/
theorem exec_creditGrant_sends {head : QueueItem} {tail : List QueueItem} (hi : p.queues.display.items = head :: tail)
    (hc : 1 ≤ p.egress.credit + count.toNat) (hb : p.egress.displayBusy = false)
    (hw : p.queues.display.waiting = []) : exec (.creditGrant count (crc [0x22, count])) ⟨p, rest⟩ =
      .next ⟨displaySent head tail (grantCredit count p), rest⟩ := by
  obtain ⟨hin', hroom, hrecord⟩ := grantCredit_settles hin h count
  obtain ⟨a, o, e, hframe, -⟩ := grantCredit_frame count p
  have hcredit : 1 ≤ (grantCredit count p).egress.credit := by
    rw [hframe]
    exact le_min (by decide) hc
  rw [exec_creditGrant_taken hin, settle_displaySent (head := head) (tail := tail) hin' hroom _ hcredit _ _ hrecord]
  · rw [hframe]
    exact hi
  · rw [hframe]
    exact hb
  · rw [hframe]
    exact hw

end

/-- Settles O33: the grants by `exec_creditGrant_idle` and `exec_creditGrant_sends`; the end of a transmission by what
is left to settle (`settle_self`, `settle_displaySent`). -/
theorem displayEgressSpendsCreditOnTheHead : Obligations.DisplayEgressSpendsCreditOnTheHead := by
  intro p rest hin h
  refine ⟨fun count =>
      ⟨exec_creditGrant_idle hin h count rest, fun _ _ => exec_creditGrant_sends hin h count rest⟩,
    fun hidle => ?_, fun head tail hi hc hw => ?_⟩
  · have hsettled : ({ p with egress := { p.egress with displayBusy := false } } : Part).Settled :=
      ⟨fun _ hi hc => absurd hidle (not_or.2 ⟨hi, (Nat.ne_of_gt hc)⟩), h.record, h.room⟩
    rw [exec_displayTransmitEnd hin, settle_self hsettled]
  · rw [exec_displayTransmitEnd hin, settle_displaySent (head := head) (tail := tail)
      (p := { p with egress := { p.egress with displayBusy := false } }) hin (h.room hin) hi hc rfl hw (h.record hin)]
    rfl

/-! ### The record link (R148) -/

/-- The ready line's level is followed, and what it allows is done. -/
theorem exec_recordReadyChange (b : Bool) (p : Part) (rest : List Instr) : exec (.recordReadyChange b) ⟨p, rest⟩ =
    .next ⟨settle { p with egress := { p.egress with recorderReady := b } }, rest⟩ := rfl

/-- Settles O35: a part with nothing more to send is left as it is (`settle_self`); otherwise the head leaves
(`settle_recordSent`). -/
theorem recordEgressFollowsTheReadyLine : Obligations.RecordEgressFollowsTheReadyLine := by
  intro p rest
  refine ⟨fun b hheld => ?_, fun hin h => ⟨fun b hidle => ?_, fun head tail hi hb hw => ?_, fun hidle => ?_,
    fun head tail hi hr hw => ?_⟩⟩
  · rw [exec_recordReadyChange, settle]
    exact congrArg (fun q => Host.Outcome.next (State.mk q rest)) (if_pos hheld)
  · have hsettled : ({ p with egress := { p.egress with recorderReady := b } } : Part).Settled := by
      refine ⟨h.display, fun _ hi hr => ?_, h.room⟩
      rcases hidle with hempty | hlow | hbusy
      · exact absurd hempty hi
      · exact absurd (hlow.symm.trans hr) Bool.false_ne_true
      · exact hbusy
    rw [exec_recordReadyChange, settle_self hsettled]
  · rw [exec_recordReadyChange, settle_recordSent (head := head) (tail := tail)
      (p := { p with egress := { p.egress with recorderReady := true } }) hin (h.room hin) hi rfl hb hw (h.display hin)]
  · have hsettled : ({ p with egress := { p.egress with recordBusy := false } } : Part).Settled := by
      refine ⟨h.display, fun _ hi hr => ?_, h.room⟩
      rcases hidle with hempty | hlow
      · exact absurd hempty hi
      · exact absurd (hlow.symm.trans hr) Bool.false_ne_true
    rw [exec_recordTransmitEnd hin, settle_self hsettled]
  · rw [exec_recordTransmitEnd hin, settle_recordSent (head := head) (tail := tail)
      (p := { p with egress := { p.egress with recordBusy := false } }) hin (h.room hin) hi hr rfl hw (h.display hin)]
    rfl

/-! ### The reply queue (R149, R150, R171) -/

/-- What joins the reply queue of a settled part is offered where the bridge is ready and nothing is under offer. -/
theorem settle_joinReply {p : Part} (h : p.Settled) (hin : p.inReset = false) (f : ReplyFrame) :
    settle (joinReply f p) =
      { p with
        agent :=
          { p.agent with
            replies := p.agent.replies ++ [⟨f, p.agent.replySeq, p.tick⟩]
            replySeq := p.agent.replySeq + 1 }
        egress :=
          { p.egress with
            offer :=
              if p.egress.offer = .none ∧ p.egress.bridgeReady = true then .reply
              else p.egress.offer } } := by
  obtain ⟨q, hq⟩ : ∃ q : Part, q = { p with
    agent :=
      { p.agent with
        replies := p.agent.replies ++ [⟨f, p.agent.replySeq, p.tick⟩]
        replySeq := p.agent.replySeq + 1 } } := ⟨_, rfl⟩
  have hjoin : joinReply f p = roomChoose q := by rw [hq]; rfl
  have hsettle : settle (roomChoose q) = roomChoose q := by
    rw [h.roomChoose (q := roomChoose q), roomChoose_idem, ite_self]
    · rw [roomChoose_phase, hq]
    · rw [roomChoose_queues, hq]
    · rw [roomChoose_queues, hq]
    · rw [roomChoose_eq, hq]
      rfl
  have hreplies : q.agent.replies ≠ [] := by
    rw [hq]
    exact List.append_ne_nil_of_right_ne_nil _ (List.cons_ne_nil _ _)
  have hchoice : p.egress.offer = .none ∧ p.egress.bridgeReady = true → q.choice = .reply := fun hc => by
    obtain ⟨ho, hb⟩ := hc
    refine choice_replies_only hreplies ?_
    rw [hq]
    by_contra hne
    exact h.room hin hb (.inr hne) ho
  have hoffer : (if q.egress.offer = .none ∧ q.egress.bridgeReady = true then q.choice else q.egress.offer) =
      if p.egress.offer = .none ∧ p.egress.bridgeReady = true then .reply else p.egress.offer := by
    rw [show q.egress = p.egress by rw [hq]]
    exact if_ctx_congr Iff.rfl hchoice fun _ => rfl
  rw [hjoin, hsettle, roomChoose_eq, hoffer, hq]
  rfl

/-- Settles O13: the limit that a notice meets is R171's by its definition; the frame that joins is offered by
`settle_joinReply`. -/
theorem joiningReplyTouchesOnlyTheReplyQueue : Obligations.JoiningReplyTouchesOnlyTheReplyQueue := by
  refine ⟨fun n p => ?_, fun f p h hin => settle_joinReply h hin f⟩
  show (p.agent.replies.length < p.noticeLimit → _) ∧ (p.noticeLimit ≤ p.agent.replies.length → _)
  rw [notice_eq]
  exact ⟨fun hlt => if_pos hlt, fun hle => if_neg (Nat.not_lt.2 hle)⟩

end Sys2Proof.Machine
end

section
/-! SUPPORT. UNDO (R161, R162): the summary it selects, the history list with it retracted, and the RETRACT records. -/

namespace Sys2Proof.Machine

/-! ### The newest of a list that passes a test (R161) -/

section
variable {α : Type} {test : α → Bool} {f : α → α}

theorem changeFirst_eq_none {l : List α} (h : ∀ a ∈ l, ¬ test a = true) : changeFirst test f l = none := by
  induction l with
  | nil => rfl
  | cons a t ih =>
    obtain ⟨ha, ht⟩ := List.forall_mem_cons.1 h
    rw [changeFirst, if_neg ha, ih ht]
    rfl

/-- The element behind those that fail the test is changed in its place. -/
theorem changeFirst_append_cons {l : List α} (h : ∀ a ∈ l, ¬ test a = true) {m : α} (hm : test m = true)
    (rest : List α) : changeFirst test f (l ++ m :: rest) = some (m, l ++ f m :: rest) := by
  induction l with
  | nil => exact if_pos hm
  | cons a t ih =>
    obtain ⟨ha, ht⟩ := List.forall_mem_cons.1 h
    rw [List.cons_append, changeFirst, if_neg ha, ih ht]
    rfl

end

section
variable {test : Summary → Bool}

theorem retractNewest_eq_none {l : List Summary} (h : ∀ m ∈ l, ¬ test m = true) : retractNewest test l = none := by
  rw [retractNewest, changeFirst_eq_none fun m hm => h m (List.mem_reverse.1 hm)]
  rfl

/-- The summary with no later one that passes the test is the newest, and it alone changes (R161, R162). -/
theorem retractNewest_append_cons {m : Summary} {after : List Summary} (hm : test m = true)
    (h : ∀ x ∈ after, ¬ test x = true) (before : List Summary) : retractNewest test (before ++ m :: after) =
      some (m, before ++ { m with retracted := true } :: after) := by
  rw [retractNewest, List.reverse_append, List.reverse_cons, List.append_assoc, List.singleton_append,
    changeFirst_append_cons (fun x hx => h x (List.mem_reverse.1 hx)) hm]
  simp

end

/-! ### An UNDO of a seat (R161, R162) -/

section
variable {seat : Fin 72} {p : Part}

theorem undoable_iff (m : Summary) : p.undoable seat m = true ↔ m.seat = seat ∧ m.retracted = false ∧
    ((p.layer m.layer).state = .opened ∨ (p.layer m.layer).state = .frozen) := by
  simp [Part.undoable, and_assoc]

/-- A queue without a free slot lacks the one that a RETRACT record needs. -/
theorem fullDests_eq_lacking (dests : DestSet) : p.fullDests dests = p.lacking dests 1 := by
  simp only [Part.fullDests, Part.lacking, Nat.lt_one_iff]

theorem has_fullDests (dests : DestSet) (d : Dest) : (p.fullDests dests).has d = true ↔
    dests.has d = true ∧ Config.capacity d ≤ (p.queue d).items.length := by
  rw [fullDests_eq_lacking, has_lacking, Nat.lt_one_iff, Part.freeSlots, Nat.sub_eq_zero_iff_le, Part.level]

theorem ownUndo_byteOf (seat : Fin 72) (p : Part) : ownUndo (byteOf seat.val) p = undoSeat seat p := by
  rw [ownUndo, finOf_byteOf 72 (by decide)]

theorem undoSeat_none (h : ∀ m ∈ p.history.list, ¬ p.undoable seat m = true) :
    undoSeat seat p = refuse .state p := by
  rw [undoSeat, retractNewest_eq_none h]

section
variable {before after : List Summary} {m : Summary}

/-- A full queue among those that took the END refuses the UNDO (R162). -/
theorem undoSeat_noRoom (hl : p.history.list = before ++ m :: after) (hm : p.undoable seat m = true)
    (hafter : ∀ x ∈ after, ¬ p.undoable seat x = true) {d : Dest} (hd : (p.fullDests m.delivered).has d = true) :
    undoSeat seat p = (some (.room, .lacking (p.fullDests m.delivered)), p) := by
  have hfull : (p.fullDests m.delivered).isEmpty = false :=
    Bool.eq_false_of_not_eq_true fun h => Bool.noConfusion (((DestSet.isEmpty_iff _).1 h d).symm.trans hd)
  rw [undoSeat, hl, retractNewest_append_cons hm hafter]
  exact if_pos hfull

/-- A part in whose history list a summary is retracted, its RETRACT record having joined every queue that took the
END (R162). -/
def Part.undone (p : Part) (before : List Summary) (m : Summary) (after : List Summary) : Part :=
  { p with
    history := { p.history with list := before ++ { m with retracted := true } :: after }
    queues := p.queues.pushAll m.delivered (.retract m.id m.layer) p.tick }

/-- With room on every queue that took the END, the summary is retracted in its place and a RETRACT record joins each
of them (R162). -/
theorem undoSeat_taken (hl : p.history.list = before ++ m :: after) (hm : p.undoable seat m = true)
    (hafter : ∀ x ∈ after, ¬ p.undoable seat x = true) (hheld : p.queues.held = DestSet.empty)
    (hchosen : p.RoomChosen)
    (hroom : ∀ d, m.delivered.has d = true → (p.queue d).items.length < Config.capacity d) :
    undoSeat seat p = taken (.undone m.id m.layer m.delivered)
      (roomChoose (p.undone before m after)) := by
  have hfull : (p.fullDests m.delivered).isEmpty = true :=
    (DestSet.isEmpty_iff _).2 fun d => Bool.eq_false_of_not_eq_true fun hd => by
      obtain ⟨hhas, hle⟩ := (has_fullDests _ d).1 hd
      exact Nat.not_le.2 (hroom d hhas) hle
  have hjoins : ∀ d, m.delivered.has d = true → p.hasRoom d = true := fun d hd =>
    (hasRoom_iff hheld d).2 (by rw [limitOf_empty]; exact hroom d hd)
  rw [undoSeat, hl, retractNewest_append_cons hm hafter]
  simp only [hfull, Bool.true_eq_false, if_false, foldl_joinIfRoom_chosen _ hjoins hchosen, roomChoose_eq]
  rfl

end

end

/-- Settles O49: the newest fitting summary by `retractNewest_append_cons`, the RETRACT records by `undoSeat_taken`. -/
theorem undoRetractsTheNewestStroke : Obligations.UndoRetractsTheNewestStroke := by
  intro req seat p rest ht
  have hown := ownUndo_byteOf seat (p.holdReply true)
  have hfits : ∀ m, (p.holdReply true).undoable seat m = true ↔ _ := undoable_iff (p := p.holdReply true)
  refine ⟨fun before m after hl hm hafter => ?_, fun hnone => ?_⟩
  · have hundo := (hfits m).2 hm
    have hlast : ∀ x ∈ after, ¬ (p.holdReply true).undoable seat x = true := fun x hx h =>
      hafter x hx ((hfits x).1 h)
    refine ⟨fun hroom hheld hsettled => ?_, fun d hd hle => ⟨p.fullDests m.delivered, has_fullDests _, ?_⟩⟩
    · have hhold := roomChoose_holdReply (p.undone before m after) true
      have htaken := undoSeat_taken (p := p.holdReply true) hl hundo hlast hheld
        (hsettled.room (inReset_of_ready ht.1)) hroom
      exact exec_taken (c := .undo req (byteOf seat.val)) ht rfl
        ((hown.trans htaken).trans (congrArg (taken _) hhold)) rest
    · exact exec_answered (c := .undo req (byteOf seat.val)) (q := p.holdReply true) ht rfl
        (hown.trans (undoSeat_noRoom hl hundo hlast ((has_fullDests _ d).2 ⟨hd, hle⟩))) rest
  · exact exec_answered (c := .undo req (byteOf seat.val)) (q := p.holdReply true) ht rfl
      (hown.trans (undoSeat_none fun m hm h => hnone m hm ((hfits m).1 h))) rest

end Sys2Proof.Machine
end
